-- ==== Sys2Proof/Word.lean ====
section
/-! DEFINITION. The words and the small index types of the GC6340: bytes, stations, tiles and map values. -/

namespace Sys2Proof

/-- One byte on a port or in key material. -/
abbrev Byte := BitVec 8

/-- A station address, 0 to 3 (R3). -/
abbrev Station := Fin 4

/-- A tile number, 0 to 503 (R2). -/
abbrev TileNo := Fin 504

/-- The 32 map values of a tile, by value index, in quarter-code units (R2, section 2.3). The cache and the
flash hold values from -511 to 511 (R68, R94). -/
abbrev TileValues := Vector Int 32

/-- The six masters (R3). -/
inductive Master where
  | station (i : Station)
  | system
  | panel
  deriving DecidableEq, Repr

end Sys2Proof
end

