-- ==== Sys2Proof/Config.lean ====
section
/-! DEFINITION. What the part leaves open and what it fixes: the free value of the model, and the part's constants. -/

namespace Sys2Proof.Config

/-- FREE VALUE (log 14). R171 gives the fixture link's own answer "the request's kind", and says nothing of a
frame whose payload holds no kind: the n-th such answer carries this byte. It has no body: nothing is known
of it. -/
opaque absentKind : Nat → Byte

/-- The sync character of a fixture frame, C3h (R190). -/
def syncChar : Byte := 0xC3#8

/-- The hold deadline of a job box: 50 ms after the HOLD_BOX is taken, in microseconds (R54). -/
def holdMicroseconds : Nat := 50000

/-- IDLE_MARK frames that release a SILENT link (R177). -/
def releaseFrames : Nat := 128

/-- Places of the write-back queue (R86). -/
def queueRoom : Nat := 4

/-- Places of the notice queue (R122). -/
def noticeRoom : Nat := 32

/-- Grants after which a presented JOB operation is granted next (R71). -/
def jobWaitLimit : Nat := 8

/-- The saturation marker of a measured value (section 2.3). -/
def saturated : Nat := 65535

end Sys2Proof.Config
end

