-- ==== Sys2Proof/Syntax.lean ====
section
/-! DEFINITION. The commands of the GC6340: one constructor of `Instr` for each row of the table of operations
and events. The table gives its rows no operands; the operands here are what the rule of the row says the step
depends on from outside the part (log 5, log 8, log 29, log 30, log 33). -/

namespace Sys2Proof

/-- Where a storage fault strikes: a way of a cache set, or a copy of the write-back queue counted from its
head (R82). -/
inductive FaultPlace where
  | entry (set : Fin 16) (way : Fin 8)
  | queued (place : Fin 4)
  deriving DecidableEq, Repr

/-- The commands, one for each row of the table. -/
inductive Instr where
  -- resets and start-up (chapters 5, 7, 8, 10)
  | powerOn
  | resetAssert
  | resetRelease
  | startupConfigRead
  | spareScan
  | headerLoad
  | keyHomeLoad
  | regionLabelLoad
  | stageLoad
  -- the SPI ports: the bytes shifted in from the first byte of the transaction to the rise of the select line,
  -- or the number of bytes clocked after the type byte
  | panelRequestTransaction (mosi : List Byte)
  | panelReplyTransaction (clocks : Nat)
  | panelStatusTransaction
  | systemRequestTransaction (mosi : List Byte)
  | systemReplyTransaction (clocks : Nat)
  | systemStatusTransaction
  -- the fixture link: the characters received after the sync character
  | requestFrame (chars : List Byte)
  | idleMark (chars : List Byte)
  | badFrame (chars : List Byte) (framingError : Bool)
  | frameGapTimeout
  | droppingIdleEnd
  | replyFrameStart
  | replyFrameSent
  | fixtureBreak
  -- the capture
  | openCapture (m : Master)
  | putRow (m : Master)
  | discardCapture (m : Master)
  | captureState (m : Master)
  -- the job table
  | submitJob (m : Master)
  | readBox (m : Master)
  | holdBox (m : Master)
  | editBox (m : Master)
  | releaseBox (m : Master)
  | cancelJob (m : Master)
  | freeBox (m : Master)
  | holdExpiry (box : Fin 16)
  | jobStart
  -- the tile cache
  | passTileOperation
  | clearTileOperation
  | commitCopyOut
  | readTile (m : Master)
  | readTileAccess
  | writeTile (m : Master)
  | writeTileAccess
  | panelSnapshot
  | fillInstall
  | lockWays (m : Master)
  | drain (m : Master)
  | drainReply
  | storageFault (place : FaultPlace) (changes : List (Fin 32 × Int))
  -- the map flash
  | flashGrant
  | fillReadComplete
  | tileProgramComplete (verified : Bool)
  | uncommitProgramComplete (verified : Bool)
  | headerCheckReadComplete
  | commitDrainDone
  | commitHeaderComplete (verified : Bool)
  -- the panel side
  | panelHello (m : Master)
  | fetchRun (m : Master)
  | readNotices (m : Master)
  | nextStale (m : Master)
  | readProfile (m : Master)
  -- the set record
  | loadKey (m : Master)
  | fixKey (m : Master)
  | keyFixComplete (verified : Bool)
  | eraseKey (m : Master)
  | keyEraseComplete (verified : Bool)
  | checkKey (m : Master)
  | releaseKey (m : Master)
  | readRegion (m : Master)
  | readLabel (m : Master)
  | writeRegion (m : Master)
  | writeLabel (m : Master)
  | recordWriteComplete (verified : Bool)
  -- the commissioning stage
  | stageQuery (m : Master)
  | closeSet (m : Master)
  | closeProgramComplete (verified : Bool)
  | reopenSet (m : Master)
  | reopenProgramComplete (verified : Bool)
  -- the system side
  | linkResume (m : Master)
  | ackEvents (m : Master)
  | setEventMask (m : Master)
  | readCounters (m : Master)
  | clearCounters (m : Master)
  | writeConfig (m : Master)
  | configProgramComplete (verified : Bool)
  | syncCharacterReceived
  deriving DecidableEq, Repr

end Sys2Proof
end

