-- ==== Sys2Proof/WellFormed.lean ====
section
/-! DEFINITION. The well-formed commands: the operands that can stand outside the part. -/

namespace Sys2Proof

/-- A frame holds at most 6 + 300 characters after its sync character: address and kind, tag, two of length, the
payload, two of CRC (R167). -/
def frameFits (chars : List Byte) : Bool :=
  decide (chars.length ≤ 306)

/-- A storage fault changes one or more values, each to a value within -511..511 (R82). -/
def changesFit (changes : List (Fin 32 × Int)) : Bool :=
  !changes.isEmpty && changes.all fun c => decide (-511 ≤ c.2) && decide (c.2 ≤ 511)

/-- A REQUEST transaction has a first byte, which names its type (section 10.1), and it is not the type of one of
the two other transactions, which are rows of their own (R190). -/
def requestTypeFits (mosi : List Byte) : Bool :=
  match mosi with
  | [] => false
  | b :: _ => b != 0x02#8 && b != 0x03#8

/-- The operands of a command are ones that can come from outside the part. -/
def Instr.wf : Instr → Bool
  | .panelRequestTransaction mosi => requestTypeFits mosi
  | .systemRequestTransaction mosi => requestTypeFits mosi
  | .requestFrame chars => frameFits chars
  | .idleMark chars => frameFits chars
  | .badFrame chars _ => frameFits chars && !chars.isEmpty
  | .storageFault _ changes => changesFit changes
  | .powerOn | .resetAssert | .resetRelease | .startupConfigRead | .spareScan | .headerLoad | .keyHomeLoad
  | .regionLabelLoad | .stageLoad => true
  | .panelReplyTransaction _ | .panelStatusTransaction | .systemReplyTransaction _ | .systemStatusTransaction => true
  | .frameGapTimeout | .droppingIdleEnd | .replyFrameStart | .replyFrameSent | .fixtureBreak
  | .syncCharacterReceived => true
  | .openCapture _ | .putRow _ | .discardCapture _ | .captureState _ => true
  | .submitJob _ | .readBox _ | .holdBox _ | .editBox _ | .releaseBox _ | .cancelJob _ | .freeBox _ => true
  | .holdExpiry _ | .jobStart | .passTileOperation | .clearTileOperation | .commitCopyOut => true
  | .readTile _ | .readTileAccess | .writeTile _ | .writeTileAccess | .panelSnapshot | .fillInstall => true
  | .lockWays _ | .drain _ | .drainReply => true
  | .flashGrant | .fillReadComplete | .tileProgramComplete _ | .uncommitProgramComplete _
  | .headerCheckReadComplete | .commitDrainDone | .commitHeaderComplete _ => true
  | .panelHello _ | .fetchRun _ | .readNotices _ | .nextStale _ | .readProfile _ => true
  | .loadKey _ | .fixKey _ | .keyFixComplete _ | .eraseKey _ | .keyEraseComplete _ | .checkKey _
  | .releaseKey _ | .readRegion _ | .readLabel _ | .writeRegion _ | .writeLabel _ | .recordWriteComplete _ => true
  | .stageQuery _ | .closeSet _ | .closeProgramComplete _ | .reopenSet _ | .reopenProgramComplete _ => true
  | .linkResume _ | .ackEvents _ | .setEventMask _ | .readCounters _ | .clearCounters _ | .writeConfig _
  | .configProgramComplete _ => true

end Sys2Proof
end

