-- ==== Sys2Proof/Decode.lean ====
section
/-! DEFINITION. The command that a word of the table's bits spells. -/

namespace Sys2Proof

/-- The table of operations and events gives none of its rows any bits (each row's "fields" is empty and no row has
"fixed"), so no word spells a command. -/
def decodeTableWord (_nbits _w : Nat) : Option Instr :=
  none

end Sys2Proof
end

