-- ==== Sys2Proof/Machine/State.lean ====
section
/-! DEFINITION. The state of the GC6340, part by part after the blocks of section 1.3 of the introduction, and the
state after reset. -/

namespace Sys2Proof.Machine

open Sys2Proof

/-! ## Requests and replies (section 2.6, R190) -/

/-- The request catalogue (section 10.6). -/
inductive Kind where
  | openCapture | putRow | discardCapture | captureState
  | submitJob | readBox | holdBox | editBox | releaseBox | cancelJob | freeBox
  | readTile | writeTile | lockWays | drain
  | panelHello | fetchRun | readNotices | nextStale | readProfile
  | loadKey | fixKey | eraseKey | checkKey | releaseKey
  | readRegion | readLabel | writeRegion | writeLabel
  | stageQuery | closeSet | reopenSet
  | linkResume | ackEvents | setEventMask | readCounters | clearCounters | writeConfig
  deriving DecidableEq, Repr

/-- The reply statuses (section 2.7). -/
inductive Status where
  | ok | starting | busy | badArg | refusedOrigin | refusedStage | refusedState | refusedLimit
  | noBox | holdLost | reservationLost | notReady | dataFault | flashFault | flashWorn | linkGuarded
  deriving DecidableEq, Repr

/-- A request taken by a port. `ticket` is the model's own: it numbers the requests in the order they are taken, so
that a reply finds the outstanding request or the abandoned mark it belongs to (log 5). -/
structure Request where
  master : Master
  ticket : Nat
  kind   : Kind
  tag    : Byte
  body   : List Byte
  deriving DecidableEq, Repr

/-! ## Names that replies carry -/

/-- The capture states (R30). -/
inductive CapState where
  | empty | opened | complete | locked | consumed
  deriving DecidableEq, Repr

/-- The job kinds (R46). -/
inductive JobKind where
  | runPass | commitMap | clearMap
  deriving DecidableEq, Repr

/-- The failure reasons of a job box (section 2.7). -/
inductive Reason where
  | noCapture | noReference | planeMismatch | tileFault | flashWorn | headerFault
  deriving DecidableEq, Repr

/-- The states of a job box other than FREE (R46); a FREE box is an absent `Box`. FAILED carries its reason. -/
inductive BoxState where
  | queued | running | done | failed (reason : Reason) | cancelled
  deriving DecidableEq, Repr

/-- The tile status of a reply (R89, R126). -/
inductive TileStatus where
  | ok | fault
  deriving DecidableEq, Repr

/-- The key classes (R135). -/
inductive KeyClass where
  | identity | content | service | pairing
  deriving DecidableEq, Repr

/-- The commissioning stages (R155). -/
inductive Stage where
  | opened | closed | rework
  deriving DecidableEq, Repr

/-- The stage program in flight (R155). -/
inductive StageProgram where
  | none | closing | reopening
  deriving DecidableEq, Repr

/-- The link states (R166). -/
inductive LinkState where
  | normal | warning | guarded | silent
  deriving DecidableEq, Repr

/-- What a commit found in the header home (R109). -/
inductive PrevHeader where
  | intact | lost | erased
  deriving DecidableEq, Repr

/-- The two records that a reservation may name (R146). -/
inductive Target where
  | region | label
  deriving DecidableEq, Repr

/-! ## Arguments, results and record contents -/

/-- A capture's declared shape: the plane codes, one for each plane, and the channel mask (R30). -/
structure Shape where
  codes : List Nat
  mask  : Vector Bool 3
  deriving DecidableEq, Repr

/-- The target mode of one channel with, for FIXED, its four targets (R4). -/
inductive TargetMode where
  | fixed (targets : Vector Nat 4)
  | window
  deriving DecidableEq, Repr

/-- The reference window (R4). -/
structure Window where
  x0 : Nat
  x1 : Nat
  y0 : Nat
  y1 : Nat
  deriving DecidableEq, Repr

/-- The argument record of a RUN_PASS job with its defaults filled in (R4). -/
structure PassArgs where
  modes     : Vector TargetMode 3
  window    : Option Window
  stepLimit : Nat
  valLimit  : Nat
  minSlope  : Nat
  tolerance : Nat
  flatLimit : Nat
  deriving DecidableEq, Repr

/-- A node of one channel and plane (R1). -/
structure Node where
  channel : Nat
  plane   : Nat
  x       : Nat
  y       : Nat
  deriving DecidableEq, Repr

/-- The pass result record (R26). -/
structure PassResult where
  passNumber      : Nat
  rmax            : Nat
  rmaxNode        : Option Node
  flat            : Nat
  stepClamped     : Nat
  valueClamped    : Nat
  faultyRestarted : Nat
  tilesWritten    : Nat
  outsideWrite    : Bool
  converged       : Bool
  deriving DecidableEq, Repr

/-- The commit result record (R112); the failure reason stands in the box's state. -/
structure CommitResult where
  generation : BitVec 16
  placed     : Nat
  programmed : Nat
  sparesUsed : Nat
  sparesLeft : Nat
  previous   : Option PrevHeader
  converged  : Option Bool
  deriving DecidableEq, Repr

/-- The result records (R52). `stopped` is every end of a pass or clear that is not DONE, and the cancel of a QUEUED
box of any kind. -/
inductive JobResult where
  | pass (r : PassResult)
  | cleared (tiles : Nat)
  | commit (r : CommitResult)
  | stopped (started : Bool) (tiles : Nat)
  deriving DecidableEq, Repr

/-- A job box that is not FREE (R46). `hold` is the hold deadline, in microseconds of the model's clock; the holder is
the owner. `args` is absent for COMMIT_MAP and CLEAR_MAP. `started` is recorded when the job passes its start checks (R52,
R61, R64, R108). -/
structure Box where
  state       : BoxState
  owner       : Station
  kind        : JobKind
  args        : Option PassArgs
  seq         : BitVec 16
  progress    : Nat
  started     : Bool
  cancelNoted : Bool
  hold        : Option Nat
  holdExpired : Bool
  result      : Option JobResult
  newResult   : Bool
  deriving DecidableEq, Repr

/-- The contents of a key slot or key record (R135, R139). The length is the length of the material. -/
structure Key where
  cls      : KeyClass
  material : List Byte
  check    : BitVec 32
  loader   : Station
  deriving DecidableEq, Repr

/-- The written fields of a region record (R144): bit k of `tuners` is flag k, `language` is three letters. -/
structure RegionFields where
  code     : Nat
  tuners   : BitVec 8
  language : List Byte
  mains    : Nat
  rating   : Nat
  deriving DecidableEq, Repr

/-- The written fields of a label record (R145). -/
structure LabelFields where
  serial : List Byte
  model  : BitVec 16
  year   : Nat
  month  : Nat
  day    : Nat
  deriving DecidableEq, Repr

/-- The roles of one station (R188). -/
structure Roles where
  capture : Bool
  map     : Bool
  keys    : Bool
  records : Bool
  stage   : Bool
  deriving DecidableEq, Repr

/-- The configuration (R188). Bit k of `required` is slot k. -/
structure Config where
  roles       : Vector Roles 4
  required    : BitVec 12
  reopenLimit : Nat
  deriving DecidableEq, Repr

/-! ## Reply bodies -/

/-- A grid row of one plane and channel (R30). -/
structure RowPlace where
  plane   : Nat
  channel : Nat
  y       : Nat
  deriving DecidableEq, Repr

/-- The part of CAPTURE_STATE's summary that is absent in EMPTY (R41). -/
structure ShapedView where
  shape        : Shape
  present      : Nat
  total        : Nat
  firstMissing : Option RowPlace
  replaced     : Nat
  deriving DecidableEq, Repr

/-- The summary of CAPTURE_STATE (R41). -/
structure CaptureView where
  state  : CapState
  owner  : Option Station
  number : BitVec 16
  shaped : Option ShapedView
  deriving DecidableEq, Repr

/-- An entry of the row presence table in the detail of CAPTURE_STATE (R42). -/
structure PresenceEntry where
  y       : Nat
  present : Bool
  dup     : Nat
  deriving DecidableEq, Repr

/-- A tile as a FETCH_RUN reply carries it (R128). -/
structure RunTile where
  tile   : TileNo
  status : TileStatus
  values : TileValues
  deriving DecidableEq, Repr

/-- What READ_BOX says of a box that is not FREE (R53): the box as it stood, and the time left to its hold deadline in
whole milliseconds if it is held. -/
structure BoxView where
  box      : Box
  timeLeft : Option Nat
  deriving DecidableEq, Repr

/-- The map's profile (R132). -/
structure Profile where
  codes      : List Nat
  generation : BitVec 16
  passCount  : Nat
  committed  : Bool
  converged  : Bool
  mixed      : Bool
  faulty     : Nat
  deriving DecidableEq, Repr

/-- The state of a key slot (R135). -/
inductive SlotState where
  | empty
  | loaded (k : Key)
  | fixed (k : Key)
  deriving DecidableEq, Repr

/-- A key slot (R135). -/
structure KeySlot where
  state     : SlotState
  pending   : Bool
  homeFault : Bool
  deriving DecidableEq, Repr

/-- A region or label record as the SRB holds it (R144, R145); absent content is a blank record. -/
structure SetRecord (α : Type) where
  content   : Option α
  version   : BitVec 16
  committed : Bool
  pending   : Bool
  homeFault : Bool
  deriving DecidableEq, Repr

/-- A missing item of the close prerequisites with its detail (R159). MAP: which of committed, converged-last-pass,
MIXED clear and faulty count 0 failed, and the faulty count. KEYS: the required slots not FIXED, or FIXED with a program
pending, with their states' positions (EMPTY 0, LOADED 1, FIXED 2). REGION, LABEL: version, program pending, home fault. -/
inductive MissingItem where
  | map (committedFails convergedFails mixedFails faultyFails : Bool) (faulty : Nat)
  | keys (slots : List (Nat × Nat))
  | region (version : BitVec 16) (pending homeFault : Bool)
  | label (version : BitVec 16) (pending homeFault : Bool)
  deriving DecidableEq, Repr

/-- The reply of STAGE_QUERY (R164). -/
structure StageView where
  stage       : Stage
  program     : StageProgram
  closeCount  : Nat
  reopenCount : Nat
  reopenLimit : Nat
  homeFault   : Bool
  demoted     : Bool
  missing     : List MissingItem
  faulty      : Nat
  deriving DecidableEq, Repr

/-- The bodies of the replies, one constructor for each shape that a rule gives. -/
inductive ReplyBody where
  | empty
  | opened (number : BitVec 16) (total : Nat) (before : CapState) (owner : Option Station)          -- R34
  | rowStored (dup saturated present : Nat) (state : CapState)                                      -- R37
  | discarded (before : CapState)                                                                   -- R40
  | capture (view : CaptureView) (detail : Option (List PresenceEntry))                         -- R41, R42
  | submitted (box : Fin 16) (seq : BitVec 16)                                                      -- R49
  | box (view : Option BoxView)                                                                     -- R53
  | tileRead (tile : TileNo) (status : TileStatus) (values : TileValues)                            -- R89
  | tileNamed (tile : TileNo)                                                                       -- R89, R90
  | tileWritten (tile : TileNo) (clamped : Nat)                                                     -- R90
  | lockBefore (lock : Nat)                                                                         -- R80
  | profile (p : Profile)                                                                           -- R132, R133
  | run (first : TileNo) (count : Nat) (tiles : List RunTile)             -- R128
  | notices (tiles : List TileNo) (left : Nat)                                                      -- R130
  | resync                                                                                          -- R130
  | stale (tile : Option TileNo) (overflow : Bool)                                                  -- R131
  | keyLoaded (slot : Fin 12) (cls : KeyClass) (length : Nat) (check : BitVec 32)                    -- R138
  | keyFixed (slot : Fin 12) (check : BitVec 32)                                                    -- R139
  | keyChecked (slot : Fin 12) (s : KeySlot)                                                        -- R141
  | keyReleased (slot : Fin 12) (cls : KeyClass) (length : Nat) (check : BitVec 32) (material : List Byte) -- R142
  | region (r : SetRecord RegionFields)                                                             -- R147
  | label (r : SetRecord LabelFields)                                                               -- R147
  | version (v : BitVec 16)                                                                         -- R150
  | stage (v : StageView)                                                                           -- R164
  | missing (items : List MissingItem)                                                              -- R159
  | stageCounts (closeCount reopenCount : Nat)                                                      -- R160, R163
  | link (state : LinkState) (lec : Nat)                                                            -- R178
  | flags (flags mask : BitVec 13)                                                                  -- R185
  | counters (counters : Vector (BitVec 32) 24) (wraps : Vector Bool 24)                            -- R187
  | config (c : Config)                                                                             -- R189
  deriving DecidableEq, Repr

/-- A reply record (section 2.6). The kind is a byte, since a request whose kind is not in the catalogue is answered
with its own kind (R119, R171, R180). -/
structure Reply where
  kind   : Byte
  tag    : Byte
  status : Status
  body   : ReplyBody
  deriving DecidableEq, Repr

/-! ## Start-up (R182) -/

/-- The next start-up read, or `done`. `held` is the RESET pin asserted. -/
inductive BootPhase where
  | held
  | config
  | spare (k : Fin 24)
  | header
  | key (k : Fin 12)
  | region
  | label
  | stage
  | done
  deriving DecidableEq, Repr

/-- Start-up: where it stands, and the highest program sequence of a passing record read so far (R96). -/
structure Boot where
  phase  : BootPhase
  maxSeq : Option (BitVec 32)
  deriving DecidableEq, Repr

/-! ## CAP (chapter 2) -/

/-- A present entry of the row presence table with its measured row (R30). -/
structure Row where
  dup    : Nat
  values : Vector Nat 48
  deriving DecidableEq, Repr

/-- The capture set (R30). Entry (plane p, channel c, row y) stands at place (p * 3 + c) * 28 + y of `rows`; entries
outside the shape are absent. -/
structure Cap where
  state  : CapState
  owner  : Option Station
  number : BitVec 16
  shape  : Option Shape
  rows   : Vector (Option Row) 336
  deriving DecidableEq, Repr

/-! ## JOB and PSE (chapters 1 and 3) -/

/-- The pass working state (R6). `targets` is by channel, then plane. -/
structure PassWork where
  targets         : Vector (Vector Nat 4) 3
  flat            : Nat
  stepClamped     : Nat
  valueClamped    : Nat
  faultyRestarted : Nat
  tilesWritten    : Nat
  rmax            : Nat
  rmaxNode        : Option Node
  outsideWrite    : Bool
  next            : TileNo
  deriving DecidableEq, Repr

/-- The phases of a commit (section 5.7): the header check read awaited, the copy-out sweep at a tile, the drain (with
its moment come or not, R111), the header program awaited. -/
inductive CommitPhase where
  | headerRead
  | sweep (next : TileNo)
  | drain (moment : Bool)
  | header
  deriving DecidableEq, Repr

/-- A commit in progress (R108 to R112). Tiles placed is the box's progress. -/
structure CommitWork where
  phase      : CommitPhase
  programmed : Nat
  sparesUsed : Nat
  previous   : Option PrevHeader
  deriving DecidableEq, Repr

/-- The work of the RUNNING box. -/
inductive Work where
  | pass (w : PassWork)
  | clear (next : TileNo)
  | commit (w : CommitWork)
  deriving DecidableEq, Repr

/-- The RUNNING box and its work (R51). -/
structure Running where
  box  : Fin 16
  work : Work
  deriving DecidableEq, Repr

/-- The job table and the job engine (R46, R51). An absent box is FREE. -/
structure Jobs where
  boxes   : Vector (Option Box) 16
  seq     : BitVec 16
  running : Option Running
  deriving DecidableEq, Repr

/-! ## TLC (chapter 4) -/

/-- A check code, held as the content it was computed from: the tile number and the 32 values (R82; log 6). Content
agrees with its code exactly when it is that content. -/
structure CheckCode where
  tile   : TileNo
  values : TileValues
  deriving DecidableEq, Repr

/-- The state of a valid entry, with the values and check code of a CLEAN or DIRTY one (R68). -/
inductive EntryState where
  | clean (values : TileValues) (code : CheckCode)
  | dirty (values : TileValues) (code : CheckCode)
  | filling
  | faulty
  deriving DecidableEq, Repr

/-- A valid tile cache entry (R68). -/
structure Entry where
  tile  : TileNo
  state : EntryState
  deriving DecidableEq, Repr

/-- A cache set: eight ways, absent when invalid, and the PLRU tree, where a node is true when it points to its upper
side (R68, R74). -/
structure CacheSet where
  ways : Vector (Option Entry) 8
  tree : Vector Bool 7
  deriving DecidableEq, Repr

/-- A copy in the write-back queue (R86). -/
structure TileCopy where
  tile   : TileNo
  values : TileValues
  code   : CheckCode
  deriving DecidableEq, Repr

/-- The result of a fill read (R99). -/
inductive FillResult where
  | values (v : TileValues)
  | erased
  | failed
  deriving DecidableEq, Repr

/-- A completed fill (R76). -/
structure Fill where
  tile   : TileNo
  result : FillResult
  deriving DecidableEq, Repr

/-- Where an operation stands at the TLC port arbiter (R70, R72). `resumed inFlight` is presented again after a wait;
it is in flight when the wait was for a fill or a repair, so that a cancel waits for its end (R59; log 20). -/
inductive OpPhase where
  | presented
  | resumed (inFlight : Bool)
  | waitFill
  | waitRepair
  | waitWay
  | waitRoom
  deriving DecidableEq, Repr

/-- What an ACCESS operation does; a WRITE_TILE carries its values after the raising of -512, and how many were raised
(R90). -/
inductive AccessKind where
  | read
  | write (values : TileValues) (clamped : Nat)
  deriving DecidableEq, Repr

/-- An ACCESS operation (R70). -/
structure AccessOp where
  req   : Request
  tile  : TileNo
  kind  : AccessKind
  phase : OpPhase
  deriving DecidableEq, Repr

/-- The PANEL operation (R126); `abandoned` when a PANEL_HELLO has abandoned its run (R134). -/
structure PanelOp where
  tile      : TileNo
  abandoned : Bool
  phase     : OpPhase
  deriving DecidableEq, Repr

/-- The tile cache and its port arbiter (R68 to R92). `job` is the phase of the JOB requester's operation, whose tile
is the next tile of the running work. `drains` holds the requests whose reply is withheld, each with the status that is
due once its moment has come (R92; log 18). -/
structure Tlc where
  sets    : Vector CacheSet 16
  lock    : Fin 8
  queue   : List TileCopy
  fills   : List Fill
  panel   : Option PanelOp
  access  : List AccessOp
  job     : Option OpPhase
  jobWait : Nat
  drains  : List (Request × Option Status)
  deriving DecidableEq, Repr

/-! ## MFC and the flash array (chapter 5) -/

/-- The content of a home (R93): erased, a record that fails its check, or a record whose check code agrees with its
content. The kind-specific part of each check is made where the record is read (log 7). -/
inductive Home (α : Type) where
  | erased
  | failing
  | holds (r : α)
  deriving DecidableEq, Repr

/-- A tile record (R94). -/
structure TileRecord where
  tile   : TileNo
  seq    : BitVec 32
  values : TileValues
  code   : CheckCode
  deriving DecidableEq, Repr

/-- A header record (R95); `signed` says that its signature is the header signature (log 7). -/
structure HeaderRecord where
  signed     : Bool
  generation : BitVec 16
  passCount  : Nat
  codes      : List Nat
  committed  : Bool
  converged  : Bool
  mixed      : Bool
  seq        : BitVec 32
  deriving DecidableEq, Repr

/-- A config record (R188); `signed` says that its signature is the config signature (log 7). -/
structure ConfigRecord where
  signed : Bool
  config : Config
  seq    : BitVec 32
  deriving DecidableEq, Repr

/-- A key record, or an erased key record when there is no key (R139, R140). -/
structure KeyRecord where
  slot : Nat
  key  : Option Key
  seq  : BitVec 32
  deriving DecidableEq, Repr

/-- A region or label record in flash (R149); it is always programmed with committed set. -/
structure StoredRecord (α : Type) where
  content : α
  version : BitVec 16
  seq     : BitVec 32
  deriving DecidableEq, Repr

/-- A stage record (R155). -/
structure StageRecord where
  stage       : Stage
  closeCount  : Nat
  reopenCount : Nat
  seq         : BitVec 32
  deriving DecidableEq, Repr

/-- The map flash array, which a reset does not clear (R93). -/
structure Homes where
  tile   : Vector (Home TileRecord) 504
  spare  : Vector (Home TileRecord) 24
  header : Home HeaderRecord
  config : Home ConfigRecord
  key    : Vector (Home KeyRecord) 12
  region : Home (StoredRecord RegionFields)
  label  : Home (StoredRecord LabelFields)
  stage  : Home StageRecord
  deriving DecidableEq, Repr

/-- A spare's state (R101); the MAPPED spares are the remap table. -/
inductive SpareState where
  | unused
  | mapped (t : TileNo)
  | dead
  deriving DecidableEq, Repr

/-- The home of a tile: its own tile home, or a spare home it is remapped to (R99). -/
inductive TileHome where
  | own
  | spare (k : Fin 24)
  deriving DecidableEq, Repr

/-- The class-1 operations of the flash arbiter (R97). -/
inductive FlashRead where
  | fill (t : TileNo)
  | header
  deriving DecidableEq, Repr

/-- The class-2 operations of the flash arbiter that a block presents, each with the request whose reply waits for it
(R97, R100). -/
inductive RecordProgram where
  | keyFix (req : Request) (slot : Fin 12) (key : Key)
  | keyErase (req : Request) (slot : Fin 12)
  | region (req : Request) (content : RegionFields) (version : BitVec 16)
  | label (req : Request) (content : LabelFields) (version : BitVec 16)
  | close (req : Request) (closeCount reopenCount : Nat)
  | reopen (req : Request) (closeCount reopenCount : Nat)
  | config (req : Request) (config : Config)
  | header
  deriving DecidableEq, Repr

/-- What the array is programming. A header's content is fixed at the grant (R104, R106). -/
inductive FlashJob where
  | record (p : RecordProgram)
  | header (h : HeaderRecord)
  | uncommit (h : HeaderRecord)
  | tile (copy : TileCopy) (home : TileHome)
  deriving DecidableEq, Repr

/-- The flash state with the operation in flight (R97). A program carries the sequence it took (R96). -/
inductive FlashState where
  | idle
  | readingFill (t : TileNo) (home : TileHome)
  | readingHeader
  | programming (job : FlashJob) (seq : BitVec 32)
  deriving DecidableEq, Repr

/-- The wear state (R97). -/
inductive Wear where
  | normal | worn
  deriving DecidableEq, Repr

/-- The working map header (section 5.6). The plane count is the number of codes. -/
structure Header where
  generation : BitVec 16
  passCount  : Nat
  codes      : List Nat
  committed  : Bool
  converged  : Bool
  mixed      : Bool
  faulty     : Nat
  deriving DecidableEq, Repr

/-- The map flash controller. -/
structure Mfc where
  header   : Header
  marker   : Bool
  spares   : Vector SpareState 24
  seq      : BitVec 32
  flash    : FlashState
  wear     : Wear
  reads    : List FlashRead
  programs : List RecordProgram
  deriving DecidableEq, Repr

/-! ## PCD and PNP (chapter 6) -/

/-- The states of a directory entry (R120). -/
inductive DirState where
  | absent | current | stale | waiting | sending | sendingChanged
  deriving DecidableEq, Repr

/-- The panel copy directory (R120). -/
structure Pcd where
  dir      : Vector DirState 504
  notices  : List TileNo
  overflow : Bool
  scan     : TileNo
  deriving DecidableEq, Repr

/-- The run of a pending FETCH_RUN: the tiles still to be snapshot, and the snapshots taken, in run order (R125, R126). -/
structure PanelRun where
  req   : Request
  first : TileNo
  count : Nat
  todo  : List TileNo
  done  : List RunTile
  deriving DecidableEq, Repr

/-- The acceptances of a REQUEST transaction (R116, R180). -/
inductive Acceptance where
  | taken | starting | busy
  deriving DecidableEq, Repr

/-- What the part shifted out in the last transaction of an SPI port: the model's own record of the output pin
(log 16). -/
inductive SpiOut where
  | idle
  | bytes (b : List Byte)   -- an acceptance, a reply record as far as it was clocked, or FFh throughout (R190, R191)
  | panelStatus (startupDone replyReady : Bool) (notices : Nat) (overflow : Bool)
  | systemStatus (startupDone replyReady : Bool) (flags mask : BitVec 13) (link : LinkState) (lec release : Nat)
  deriving DecidableEq, Repr

/-- The panel port interface (R115). `pending` is the ticket of the outstanding request while its block works on it. -/
structure Pnp where
  pending : Option Nat
  slot    : Option Reply
  run     : Option PanelRun
  out     : SpiOut
  deriving DecidableEq, Repr

/-! ## SRB (chapters 7 and 8) -/

/-- The live stage record and its flags (R155). -/
structure StageRec where
  stage       : Stage
  closeCount  : Nat
  reopenCount : Nat
  program     : StageProgram
  homeFault   : Bool
  demoted     : Bool
  deriving DecidableEq, Repr

/-- The set record block. Entry i of `reserve` is the reservation of the master with index i (R146). -/
structure Srb where
  keys    : Vector KeySlot 12
  region  : SetRecord RegionFields
  label   : SetRecord LabelFields
  reserve : Vector (Option (Target × BitVec 16)) 5
  stage   : StageRec
  deriving DecidableEq, Repr

/-! ## FXL (chapter 9) -/

/-- The receiver (R166). -/
inductive Receiver where
  | hunting | inFrame | dropping
  deriving DecidableEq, Repr

/-- A reply in a station's place; `own` when it is the owner's reply to the outstanding request, and not an answer of
the link's own (R172). -/
structure Placed where
  reply : Reply
  own   : Bool
  deriving DecidableEq, Repr

/-- The fixture link interface (R166). `outstanding` holds the ticket of each station's outstanding request (the flag is
set when there is one), `abandoned` the tickets of the requests that carry an abandoned mark. `sending` says that the
reply of the station at the head of the queue is being sent; `out` is the last reply frame sent, the model's own record
of the line (log 16). -/
structure Fxl where
  lec         : Nat
  link        : LinkState
  release     : Nat
  outstanding : Vector (Option Nat) 4
  place       : Vector (Option Placed) 4
  deferred    : Vector (Option Reply) 4
  queue       : List Station
  abandoned   : List Nat
  receiver    : Receiver
  sending     : Bool
  out         : List Byte
  deriving DecidableEq, Repr

/-! ## SYP and MCT (chapter 10) -/

/-- The system port interface with the event flags and their enable mask (R180, R184). -/
structure Syp where
  pending : Option Nat
  slot    : Option Reply
  flags   : BitVec 13
  mask    : BitVec 13
  out     : SpiOut
  deriving DecidableEq, Repr

/-- The master counters (R186). -/
structure Mct where
  counter : Vector (BitVec 32) 24
  wrap    : Vector Bool 24
  deriving DecidableEq, Repr

/-- The model's own bookkeeping: the number of the next request, the clock in microseconds, and the number of free
values used (log 2, log 14, log 27). -/
structure Book where
  ticket   : Nat
  now      : Nat
  freeUses : Nat
  deriving DecidableEq, Repr

/-- The state of the GC6340. `inbox` holds the requests that a port has taken and that their owning block has not yet
checked, oldest first (log 5); `pending` is the queue of commands. -/
structure State where
  boot    : Boot
  cap     : Cap
  jobs    : Jobs
  tlc     : Tlc
  mfc     : Mfc
  homes   : Homes
  pcd     : Pcd
  pnp     : Pnp
  srb     : Srb
  fxl     : Fxl
  syp     : Syp
  mct     : Mct
  config  : Config
  inbox   : List Request
  book    : Book
  pending : List Instr
  deriving DecidableEq, Repr

/-! ## Ways a step can stop -/

/-- The spec names no condition that stops the part: what goes wrong in it is a reply status, a job's failure reason, a
FAULTY tile, the WORN wear state or a failing home, all of them states. No command raises a fault. -/
inductive Fault where
  deriving DecidableEq, Repr

/-- The ways the model may have no meaning for a command. -/
inductive Refusal where
  /-- Raised by an arm of `exec` whose command has no meaning yet, naming it. Safe: nothing follows from it. No arm
  raises it. -/
  | notModelled (mnemonic : String)
  deriving DecidableEq, Repr

/-! ## Setters: one for each part -/

namespace State

def setBoot (s : State) (x : Boot) : State := { s with boot := x }
def setCap (s : State) (x : Cap) : State := { s with cap := x }
def setJobs (s : State) (x : Jobs) : State := { s with jobs := x }
def setTlc (s : State) (x : Tlc) : State := { s with tlc := x }
def setMfc (s : State) (x : Mfc) : State := { s with mfc := x }
def setHomes (s : State) (x : Homes) : State := { s with homes := x }
def setPcd (s : State) (x : Pcd) : State := { s with pcd := x }
def setPnp (s : State) (x : Pnp) : State := { s with pnp := x }
def setSrb (s : State) (x : Srb) : State := { s with srb := x }
def setFxl (s : State) (x : Fxl) : State := { s with fxl := x }
def setSyp (s : State) (x : Syp) : State := { s with syp := x }
def setMct (s : State) (x : Mct) : State := { s with mct := x }
def setConfig (s : State) (x : Config) : State := { s with config := x }
def setInbox (s : State) (x : List Request) : State := { s with inbox := x }
def setBook (s : State) (x : Book) : State := { s with book := x }
def setPending (s : State) (x : List Instr) : State := { s with pending := x }

end State

/-! ## The state after reset -/

/-- R31. -/
def Cap.reset : Cap :=
  { state := .empty, owner := none, number := 0, shape := none, rows := Vector.replicate 336 none }

/-- R47. -/
def Jobs.reset : Jobs :=
  { boxes := Vector.replicate 16 none, seq := 0, running := none }

/-- R69, R76, R92. -/
def Tlc.reset : Tlc :=
  { sets := Vector.replicate 16 { ways := Vector.replicate 8 none, tree := Vector.replicate 7 false },
    lock := 0, queue := [], fills := [], panel := none, access := [], job := none, jobWait := 0, drains := [] }

/-- The working map header of a lost header (R114). -/
def Header.lost : Header :=
  { generation := 0, passCount := 0, codes := [], committed := false, converged := false, mixed := false, faulty := 0 }

/-- R98; the header, the marker, the spare states and the counter are set by start-up, and hold before it what start-up
sets in a new part (log 1). -/
def Mfc.reset : Mfc :=
  { header := .lost, marker := false, spares := Vector.replicate 24 .unused, seq := 1, flash := .idle, wear := .normal,
    reads := [], programs := [] }

/-- Every home erased: a part that has never been programmed since manufacture (R93; log 1). -/
def Homes.new : Homes :=
  { tile := Vector.replicate 504 .erased, spare := Vector.replicate 24 .erased, header := .erased, config := .erased,
    key := Vector.replicate 12 .erased, region := .erased, label := .erased, stage := .erased }

/-- R120. -/
def Pcd.reset : Pcd :=
  { dir := Vector.replicate 504 .absent, notices := [], overflow := false, scan := 0 }

/-- R115. -/
def Pnp.reset : Pnp :=
  { pending := none, slot := none, run := none, out := .idle }

/-- R135 with home fault clear (log 1). -/
def KeySlot.reset : KeySlot :=
  { state := .empty, pending := false, homeFault := false }

/-- A blank record (R144, R145). -/
def SetRecord.blank (α : Type) : SetRecord α :=
  { content := none, version := 0, committed := false, pending := false, homeFault := false }

/-- What start-up sets when the stage home is erased (R156). -/
def StageRec.reset : StageRec :=
  { stage := .opened, closeCount := 0, reopenCount := 0, program := .none, homeFault := false, demoted := false }

/-- R135, R146, R154; the stage record is set by start-up (log 1). -/
def Srb.reset : Srb :=
  { keys := Vector.replicate 12 .reset, region := .blank RegionFields, label := .blank LabelFields,
    reserve := Vector.replicate 5 none, stage := .reset }

/-- R166. -/
def Fxl.reset : Fxl :=
  { lec := 0, link := .normal, release := 0, outstanding := Vector.replicate 4 none, place := Vector.replicate 4 none,
    deferred := Vector.replicate 4 none, queue := [], abandoned := [], receiver := .hunting, sending := false, out := [] }

/-- R180, R184: every flag clear and every enable bit set. -/
def Syp.reset : Syp :=
  { pending := none, slot := none, flags := 0, mask := BitVec.allOnes 13, out := .idle }

/-- R186. -/
def Mct.reset : Mct :=
  { counter := Vector.replicate 24 0, wrap := Vector.replicate 24 false }

/-- All five roles. -/
def Roles.all : Roles :=
  { capture := true, map := true, keys := true, records := true, stage := true }

/-- The default configuration (R188). -/
def Config.defaults : Config :=
  { roles := Vector.replicate 4 .all, required := 0x00F#12, reopenLimit := 3 }

/-- The part right after power-on, at the beginning of start-up, with a map flash that has never been programmed. -/
def State.reset : State :=
  { boot := { phase := .config, maxSeq := none }, cap := .reset, jobs := .reset, tlc := .reset, mfc := .reset,
    homes := .new, pcd := .reset, pnp := .reset, srb := .reset, fxl := .reset, syp := .reset, mct := .reset,
    config := .defaults, inbox := [], book := { ticket := 0, now := 0, freeUses := 0 }, pending := [] }

end Sys2Proof.Machine
end

