-- ==== Sys2Proof/Machine/Flags.lean ====
section
/-! DEFINITION. The event flags, the master counters and the output lines (chapter 10, R118). -/

namespace Sys2Proof.Machine

open Sys2Proof

/-- The events (R183). -/
inductive Event where
  | jobEnded | tileRepaired | tileLost | linkWarning | linkGuarded | linkSilent | linkReleased | flashWorn
  | noticeOverflow | counterWrap | configDefaulted | mapHeaderLost | stageChanged
  deriving DecidableEq, Repr

/-- The flag bit of an event (R183). -/
def eventBit : Event → Nat
  | .jobEnded => 0
  | .tileRepaired => 1
  | .tileLost => 2
  | .linkWarning => 3
  | .linkGuarded => 4
  | .linkSilent => 5
  | .linkReleased => 6
  | .flashWorn => 7
  | .noticeOverflow => 8
  | .counterWrap => 9
  | .configDefaulted => 10
  | .mapHeaderLost => 11
  | .stageChanged => 12

/-- The 13-bit word with the event's flag bit set. -/
def eventMask (e : Event) : BitVec 13 :=
  1#13 <<< eventBit e

/-- An event sets its sticky flag (R184). -/
def raise (e : Event) (s : State) : State :=
  s.setSyp { s.syp with flags := s.syp.flags ||| eventMask e }

/-- The flag of an event. -/
def flagSet (e : Event) (s : State) : Bool :=
  s.syp.flags.getLsbD (eventBit e)

/-- The master index (R3). -/
def masterIndex : Master → Fin 6
  | .station i => ⟨i.val, by omega⟩
  | .system => 4
  | .panel => 5

/-- The counter kinds (R3). -/
inductive CounterKind where
  | taken | refused | tiles | faults
  deriving DecidableEq, Repr

/-- The counter kind's number (R3). -/
def counterKindIndex : CounterKind → Fin 4
  | .taken => 0
  | .refused => 1
  | .tiles => 2
  | .faults => 3

/-- The counter index: master index x 4 + counter kind (R3). -/
def counterIndex (m : Master) (k : CounterKind) : Fin 24 :=
  ⟨(masterIndex m).val * 4 + (counterKindIndex k).val, by omega⟩

/-- The value of a counter. -/
def counterOf (m : Master) (k : CounterKind) (s : State) : BitVec 32 :=
  s.mct.counter[counterIndex m k]

/-- A counter rises by `n`; past 4294967295 it holds the remainder, its wrap flag is set and COUNTER_WRAP is raised
(R186). -/
def rise (m : Master) (k : CounterKind) (n : Nat) (s : State) : State :=
  let i := counterIndex m k
  let total := (s.mct.counter[i]).toNat + n
  let counted := { s.mct with counter := s.mct.counter.set i (BitVec.ofNat 32 total) }
  if total < 4294967296 then s.setMct counted
  else raise .counterWrap (s.setMct { counted with wrap := counted.wrap.set i true })

/-- Start-up is done (R182). -/
def startupDone (s : State) : Bool :=
  s.boot.phase == .done

/-- PNRDY is asserted (R118). -/
def pnrdy (s : State) : Bool :=
  startupDone s && s.pnp.slot.isSome

/-- PNATTN is asserted (R118). -/
def pnattn (s : State) : Bool :=
  startupDone s && (!s.pcd.notices.isEmpty || s.pcd.overflow)

/-- SYS_ATTN is asserted (R181). -/
def sysAttn (s : State) : Bool :=
  startupDone s && (s.syp.slot.isSome || (s.syp.flags &&& s.syp.mask) != 0#13)

end Sys2Proof.Machine
end

