-- ==== Sys2Proof/Machine/Operands.lean ====
section
/-! DEFINITION. What crosses a port: numbers, CRCs, frames, records, request bodies with their range checks, and reply
bodies (R4, R33, R36, R136, R144, R145, R167, R168, R190 to R192). -/

namespace Sys2Proof.Machine

open Sys2Proof

/-! ## Numbers and CRCs -/

/-- A number carried most significant byte first (R190). -/
def natOfBytes (bs : List Byte) : Nat :=
  bs.foldl (fun n b => n * 256 + b.toNat) 0

/-- `w` bytes of a number, most significant first (R190). -/
def bytesOfNat : Nat → Nat → List Byte
  | 0, _ => []
  | w + 1, n => bytesOfNat w (n / 256) ++ [BitVec.ofNat 8 n]

/-- `w` bytes of a number, least significant first: the tile value packing (section 10.7). -/
def leBytes : Nat → Nat → List Byte
  | 0, _ => []
  | w + 1, n => BitVec.ofNat 8 n :: leBytes w (n / 256)

/-- The number whose bytes these are, least significant first. -/
def natOfLeBytes (bs : List Byte) : Nat :=
  bs.foldr (fun b n => b.toNat + 256 * n) 0

/-- `n` shifts of the frame CRC register: polynomial 1021h, most significant bit first (R167). -/
def crc16Shift : Nat → BitVec 16 → BitVec 16
  | 0, r => r
  | n + 1, r => crc16Shift n (if r.msb then (r <<< 1) ^^^ 0x1021#16 else r <<< 1)

/-- The frame CRC of a run of characters: register starting at FFFFh, no reflection, no final inversion (R167). -/
def crc16 (bs : List Byte) : BitVec 16 :=
  bs.foldl (fun r b => crc16Shift 8 (r ^^^ (b ++ 0#8))) 0xFFFF#16

/-- `n` shifts of the key CRC register: polynomial 04C11DB7h reflected, least significant bit first (R136). -/
def crc32Shift : Nat → BitVec 32 → BitVec 32
  | 0, r => r
  | n + 1, r => crc32Shift n (if r.getLsbD 0 then (r >>> 1) ^^^ 0xEDB88320#32 else r >>> 1)

/-- The check value of key material: register starting as all ones, final register inverted (R136). -/
def crc32 (bs : List Byte) : BitVec 32 :=
  ~~~ (bs.foldl (fun r b => crc32Shift 8 (r ^^^ b.setWidth 32)) 0xFFFFFFFF#32)

/-- A vector of a list of the right length. -/
def vectorOf {α : Type} (n : Nat) (l : List α) : Option (Vector α n) :=
  if h : l.length = n then some ⟨l.toArray, by simp [h]⟩ else none

/-! ## The catalogue's codes -/

/-- The kind code of a request (section 10.6). -/
def kindCode : Kind → Byte
  | .openCapture => 0x10#8
  | .putRow => 0x11#8
  | .discardCapture => 0x12#8
  | .captureState => 0x13#8
  | .submitJob => 0x20#8
  | .readBox => 0x21#8
  | .holdBox => 0x22#8
  | .editBox => 0x23#8
  | .releaseBox => 0x24#8
  | .cancelJob => 0x25#8
  | .freeBox => 0x26#8
  | .readTile => 0x30#8
  | .writeTile => 0x31#8
  | .lockWays => 0x32#8
  | .drain => 0x33#8
  | .panelHello => 0x40#8
  | .fetchRun => 0x41#8
  | .readNotices => 0x42#8
  | .nextStale => 0x43#8
  | .readProfile => 0x44#8
  | .loadKey => 0x50#8
  | .fixKey => 0x51#8
  | .eraseKey => 0x52#8
  | .checkKey => 0x53#8
  | .releaseKey => 0x54#8
  | .readRegion => 0x58#8
  | .readLabel => 0x59#8
  | .writeRegion => 0x5A#8
  | .writeLabel => 0x5B#8
  | .stageQuery => 0x60#8
  | .closeSet => 0x61#8
  | .reopenSet => 0x62#8
  | .linkResume => 0x70#8
  | .ackEvents => 0x71#8
  | .setEventMask => 0x72#8
  | .readCounters => 0x73#8
  | .clearCounters => 0x74#8
  | .writeConfig => 0x75#8

/-- Every request of the catalogue (section 10.6). -/
def allKinds : List Kind :=
  [.openCapture, .putRow, .discardCapture, .captureState, .submitJob, .readBox, .holdBox, .editBox, .releaseBox,
   .cancelJob, .freeBox, .readTile, .writeTile, .lockWays, .drain, .panelHello, .fetchRun, .readNotices, .nextStale,
   .readProfile, .loadKey, .fixKey, .eraseKey, .checkKey, .releaseKey, .readRegion, .readLabel, .writeRegion,
   .writeLabel, .stageQuery, .closeSet, .reopenSet, .linkResume, .ackEvents, .setEventMask, .readCounters,
   .clearCounters, .writeConfig]

/-- The request that a kind byte names, if the catalogue has one. -/
def kindOfCode (b : Byte) : Option Kind :=
  allKinds.find? fun k => kindCode k == b

/-- The read-type requests; every other kind, in the catalogue or not, is write-type (section 2.6, R171). -/
def isReadKind : Kind → Bool
  | .readTile | .readBox | .readRegion | .readLabel | .readNotices | .readProfile | .readCounters | .checkKey
  | .captureState | .stageQuery => true
  | _ => false

/-- The status code of a reply (R190). -/
def statusCode : Status → Byte
  | .ok => 0x00#8
  | .starting => 0x01#8
  | .busy => 0x02#8
  | .badArg => 0x03#8
  | .refusedOrigin => 0x04#8
  | .refusedStage => 0x05#8
  | .refusedState => 0x06#8
  | .refusedLimit => 0x08#8
  | .noBox => 0x09#8
  | .holdLost => 0x0A#8
  | .reservationLost => 0x0B#8
  | .notReady => 0x0C#8
  | .dataFault => 0x0D#8
  | .flashFault => 0x0E#8
  | .flashWorn => 0x0F#8
  | .linkGuarded => 0x10#8

/-! ## Fixture frames (R167, R168, R190) -/

/-- The frame kinds, as bits 3-2 of the address and kind character. -/
inductive FrameKind where
  | request | reply | idleMark
  deriving DecidableEq, Repr

/-- The address and kind character (R190). -/
def addressKind (k : FrameKind) (st : Station) : Byte :=
  BitVec.ofNat 8 ((match k with | .request => 0 | .reply => 4 | .idleMark => 8) + st.val)

/-- The characters of a frame after its sync character (R167, R190). -/
def frameChars (k : FrameKind) (st : Station) (tag : Byte) (payload : List Byte) : List Byte :=
  let covered := addressKind k st :: tag :: bytesOfNat 2 payload.length ++ payload
  covered ++ bytesOfNat 2 (crc16 covered).toNat

/-- The frame kind that a station may send, by the address and kind character; none makes the frame bad (R168). -/
def stationFrameKind (a : Byte) : Option FrameKind :=
  if 16 ≤ a.toNat then none
  else if a.toNat < 4 then some .request
  else if 8 ≤ a.toNat ∧ a.toNat < 12 then some .idleMark
  else none

/-- The station of an address and kind character: bits 1-0 (R190). -/
def frameStation (a : Byte) : Station :=
  ⟨a.toNat % 4, Nat.mod_lt _ (by decide)⟩

/-- After these characters, none of them with a framing error, the frame is neither judged bad nor complete (R168). -/
def frameOpen : List Byte → Bool
  | [] => true
  | a :: rest =>
    (stationFrameKind a).isSome &&
      match rest with
      | _ :: h :: l :: more =>
        decide (natOfBytes [h, l] ≤ 300) && decide (more.length < natOfBytes [h, l] + 2)
      | _ => true

/-- What the judgement of a frame at its last character says (R168). `open_` is a frame not yet judged; `notOne` a run
of characters that goes on after a judgement. -/
inductive Judgement where
  | open_
  | notOne
  | badKind
  | badLength
  | badCrc
  | good (kind : FrameKind) (st : Station) (tag : Byte) (payload : List Byte)
  deriving DecidableEq, Repr

/-- The judgement of a frame whose last character has just arrived (R168). -/
def judgeFrame (cs : List Byte) : Judgement :=
  if frameOpen cs then .open_
  else if !frameOpen cs.dropLast then .notOne
  else
    match cs with
    | [] => .open_
    | a :: rest =>
      match stationFrameKind a, rest with
      | none, _ => .badKind
      | some k, tag :: h :: l :: more =>
        let len := natOfBytes [h, l]
        if 300 < len then .badLength
        else
          let payload := more.take len
          if natOfBytes (more.drop len) = (crc16 (a :: tag :: h :: l :: payload)).toNat then
            .good k (frameStation a) tag payload
          else .badCrc
      | some _, _ => .open_

/-! ## Bodies (R192) -/

/-- A field: its number and its value bytes. -/
abbrev Field := Nat × List Byte

/-- The fields of a body, as they stand; none if the bytes do not split into fields. The first argument bounds the
number of fields. -/
def splitFields : Nat → List Byte → Option (List Field)
  | _, [] => some []
  | n + 1, num :: h :: l :: rest =>
    let len := natOfBytes [h, l]
    if rest.length < len then none
    else (splitFields n (rest.drop len)).map fun fs => (num.toNat, rest.take len) :: fs
  | _, _ => none

/-- Numbers in strictly rising order. -/
def rising : List Nat → Bool
  | a :: b :: rest => decide (a < b) && rising (b :: rest)
  | _ => true

/-- The fields of a request body whose owning rule lists `count` fields: in ascending order, each at most once, none
beyond the list (R192). -/
def bodyFields (count : Nat) (body : List Byte) : Option (List Field) :=
  (splitFields body.length body).bind fun fs =>
    let nums := fs.map (·.1)
    if rising nums && nums.all fun n => decide (1 ≤ n) && decide (n ≤ count) then some fs else none

/-- The bytes of a body (R192). -/
def fieldBytes (fs : List Field) : List Byte :=
  fs.flatMap fun f => BitVec.ofNat 8 f.1 :: bytesOfNat 2 f.2.length ++ f.2

/-- A number of exactly `w` bytes (R192). -/
def numberOf (w : Nat) (bs : List Byte) : Option Nat :=
  if bs.length = w then some (natOfBytes bs) else none

/-- A required number field of `w` bytes. -/
def needNumber (fs : List Field) (n w : Nat) : Option Nat :=
  (fs.lookup n).bind (numberOf w)

/-- An optional number field of `w` bytes with its default. -/
def numberOr (fs : List Field) (n w dflt : Nat) : Option Nat :=
  match fs.lookup n with
  | none => some dflt
  | some bs => numberOf w bs

/-- `count` numbers of `w` bytes each, the whole of the value. -/
def numbersOf (w : Nat) : Nat → List Byte → Option (List Nat)
  | 0, [] => some []
  | 0, _ :: _ => none
  | n + 1, bs =>
    if bs.length < w then none
    else (numbersOf w n (bs.drop w)).map (natOfBytes (bs.take w) :: ·)

/-- A request that carries no arguments has an empty body (R192). -/
def noArguments (body : List Byte) : Bool :=
  body.isEmpty

/-- OPEN_CAPTURE's shape with its range checks (R33). That a mask with a bit above its three flags is BAD_ARG is the
model's choice (log 40). -/
def parseShape (body : List Byte) : Option Shape := do
  let fs ← bodyFields 3 body
  let p ← needNumber fs 1 1
  let codes ← (fs.lookup 2).bind (numbersOf 2 p)
  let m ← needNumber fs 3 1
  if 2 ≤ p ∧ p ≤ 4 ∧ codes.all (fun c => decide (c ≤ 1023)) = true ∧ rising codes = true ∧ 1 ≤ m ∧ m ≤ 7 then
    some { codes := codes, mask := #v[m.testBit 0, m.testBit 1, m.testBit 2] }
  else none

/-- PUT_ROW's arguments (R36): plane, channel, row and the 48 values. -/
structure RowArgs where
  plane   : Nat
  channel : Nat
  y       : Nat
  values  : Vector Nat 48
  deriving DecidableEq, Repr

/-- PUT_ROW's body (R36); the range checks against the capture follow in the meaning. -/
def parseRow (body : List Byte) : Option RowArgs := do
  let fs ← bodyFields 4 body
  let p ← needNumber fs 1 1
  let c ← needNumber fs 2 1
  let y ← needNumber fs 3 1
  let vs ← (fs.lookup 4).bind (numbersOf 2 48)
  let v ← vectorOf 48 vs
  some { plane := p, channel := c, y := y, values := v }

/-- CAPTURE_STATE's arguments (R41, R42): none, or a plane up to 3 and a channel up to 2, given together. -/
def parseDetail (body : List Byte) : Option (Option (Nat × Nat)) := do
  let fs ← bodyFields 2 body
  if fs.isEmpty then some none
  else
    let p ← needNumber fs 1 1
    let c ← needNumber fs 2 1
    if p ≤ 3 ∧ c ≤ 2 then some (some (p, c)) else none

/-- The target modes of the channels in turn, each FIXED one taking the next four targets, each 0..65534 (R4). -/
def buildModes : List Nat → List Nat → Option (List TargetMode)
  | [], [] => some []
  | 0 :: ms, a :: b :: c :: d :: ts =>
    if a ≤ 65534 ∧ b ≤ 65534 ∧ c ≤ 65534 ∧ d ≤ 65534 then
      (buildModes ms ts).map (.fixed #v[a, b, c, d] :: ·)
    else none
  | 1 :: ms, ts => (buildModes ms ts).map (.window :: ·)
  | _, _ => none

/-- The argument record of R4 with its range checks and defaults. -/
def parsePassArgs (bytes : List Byte) : Option PassArgs := do
  let fs ← bodyFields 8 bytes
  let modeNums ← (fs.lookup 1).bind (numbersOf 1 3)
  let targets ← match fs.lookup 2 with
    | none => some []
    | some [] => none
    | some bs => numbersOf 2 (bs.length / 2) bs
  let modeList ← buildModes modeNums targets
  let modes ← vectorOf 3 modeList
  let window ← match fs.lookup 3 with
    | none => some none
    | some bs =>
      match numbersOf 1 4 bs with
      | some [x0, x1, y0, y1] =>
        if x0 ≤ x1 ∧ x1 ≤ 47 ∧ y0 ≤ y1 ∧ y1 ≤ 27 then some (some { x0 := x0, x1 := x1, y0 := y0, y1 := y1 }) else none
      | _ => none
  let dstep ← numberOr fs 4 2 64
  let dmax ← numberOr fs 5 2 384
  let smin ← numberOr fs 6 2 16
  let tol ← numberOr fs 7 2 2
  let flat ← numberOr fs 8 2 64
  if (modeList.any (· == .window) → window.isSome) ∧ 1 ≤ dstep ∧ dstep ≤ 511 ∧ 1 ≤ dmax ∧ dmax ≤ 511 ∧ 1 ≤ smin ∧
      smin ≤ 4095 ∧ tol ≤ 511 ∧ flat ≤ 16128 then
    some { modes := modes, window := window, stepLimit := dstep, valLimit := dmax, minSlope := smin, tolerance := tol,
           flatLimit := flat }
  else none

/-- The arguments of a job of a kind (R4, R49): the record for RUN_PASS, an empty argument body for the others. -/
def parseJobArgs (k : JobKind) (bytes : Option (List Byte)) : Option (Option PassArgs) :=
  match k, bytes with
  | .runPass, some bs => (parsePassArgs bs).map some
  | .runPass, none => none
  | _, none => some none
  | _, some bs => if bs.isEmpty then some none else none

/-- The job kinds by position (R49). -/
def jobKindOf : Nat → Option JobKind
  | 0 => some .runPass
  | 1 => some .commitMap
  | 2 => some .clearMap
  | _ => none

/-- SUBMIT_JOB's body: the job kind, then the argument record (R49; log 10). -/
def parseSubmit (body : List Byte) : Option (JobKind × Option PassArgs) := do
  let fs ← bodyFields 2 body
  let k ← (needNumber fs 1 1).bind jobKindOf
  let args ← parseJobArgs k (fs.lookup 2)
  some (k, args)

/-- A box number as the whole of a body (R48, R53). -/
def parseBoxOnly (body : List Byte) : Option (Fin 16) := do
  let fs ← bodyFields 1 body
  let n ← needNumber fs 1 1
  if h : n < 16 then some ⟨n, h⟩ else none

/-- EDIT_BOX's body: the box number, and the bytes of the new argument record if there is one (R55; log 10). -/
def parseEdit (body : List Byte) : Option (Fin 16 × Option (List Byte)) := do
  let fs ← bodyFields 2 body
  let n ← needNumber fs 1 1
  if h : n < 16 then some (⟨n, h⟩, fs.lookup 2) else none

/-- A tile number field (R89, R90, R124). -/
def tileOf (n : Nat) : Option TileNo :=
  if h : n < 504 then some ⟨n, h⟩ else none

/-- READ_TILE's tile (R89). -/
def parseTile (body : List Byte) : Option TileNo := do
  let fs ← bodyFields 1 body
  (needNumber fs 1 2).bind tileOf

/-- The 40 bytes of 32 values: value k in bits 10k to 10k + 9, two's complement (section 10.7). -/
def packTile (v : TileValues) : List Byte :=
  leBytes 40 (v.toList.foldr (fun x n => (x % 1024).toNat + 1024 * n) 0)

/-- A 10-bit two's complement number. -/
def signed10 (u : Nat) : Int :=
  if u < 512 then (u : Int) else (u : Int) - 1024

/-- The 32 values of 40 bytes (section 10.7). -/
def unpackTile (bs : List Byte) : Option TileValues :=
  if bs.length = 40 then some (Vector.ofFn fun k : Fin 32 => signed10 (natOfLeBytes bs / 1024 ^ k.val % 1024)) else none

/-- WRITE_TILE's tile and its values as carried, each -512..511 (R90). -/
def parseTileWrite (body : List Byte) : Option (TileNo × TileValues) := do
  let fs ← bodyFields 2 body
  let t ← (needNumber fs 1 2).bind tileOf
  let v ← (fs.lookup 2).bind unpackTile
  some (t, v)

/-- LOCK_WAYS's count (R80). -/
def parseLock (body : List Byte) : Option (Fin 8) := do
  let fs ← bodyFields 1 body
  let n ← needNumber fs 1 1
  if h : n < 8 then some ⟨n, h⟩ else none

/-- FETCH_RUN's first tile and count, the count 1..6 after R124. -/
def parseRun (body : List Byte) : Option (TileNo × Nat) := do
  let fs ← bodyFields 2 body
  let t ← (needNumber fs 1 2).bind tileOf
  let n ← needNumber fs 2 1
  if n = 0 then none else some (t, min n 6)

/-- The key slot that field 1 names (R137, R141, R142). -/
def slotOf (n : Nat) : Option (Fin 12) :=
  if h : n < 12 then some ⟨n, h⟩ else none

/-- A slot number as the whole of a body. -/
def parseSlotOnly (body : List Byte) : Option (Fin 12) := do
  let fs ← bodyFields 1 body
  (needNumber fs 1 1).bind slotOf

/-- The slot of a LOAD_KEY (check 3 of R137). -/
def parseLoadSlot (body : List Byte) : Option (Fin 12) := do
  let fs ← bodyFields 4 body
  (needNumber fs 1 1).bind slotOf

/-- The key classes by position (R135). -/
def keyClassOf : Nat → Option KeyClass
  | 0 => some .identity
  | 1 => some .content
  | 2 => some .service
  | 3 => some .pairing
  | _ => none

/-- A key's length is 16..256 and a multiple of 16 (R135). -/
def keyLengthFits (n : Nat) : Bool :=
  decide (16 ≤ n) && decide (n ≤ 256) && decide (n % 16 = 0)

/-- The class and material of a LOAD_KEY (check 6 of R137, R138). -/
def parseKey (body : List Byte) : Option (KeyClass × List Byte) := do
  let fs ← bodyFields 4 body
  let cls ← (needNumber fs 2 1).bind keyClassOf
  let len ← needNumber fs 3 2
  let material ← fs.lookup 4
  if keyLengthFits len = true ∧ material.length = len then some (cls, material) else none

/-- A flag as one byte, 0 or 1; another value fits no flag (log 40). -/
def flagOf : Nat → Option Bool
  | 0 => some false
  | 1 => some true
  | _ => none

/-- The reserve flag of READ_REGION and READ_LABEL, clear when absent (R147). -/
def parseReserve (body : List Byte) : Option Bool := do
  let fs ← bodyFields 1 body
  (numberOr fs 1 1 0).bind flagOf

/-- A letter A..Z (R144). -/
def isCapital (b : Byte) : Bool :=
  decide (65 ≤ b.toNat) && decide (b.toNat ≤ 90)

/-- A character of a serial number: 0..9, A..Z or "-" (R145). -/
def isSerialChar (b : Byte) : Bool :=
  isCapital b || (decide (48 ≤ b.toNat) && decide (b.toNat ≤ 57)) || b.toNat == 45

/-- Every field of a region record lies in its range (R144). -/
def regionFits (r : RegionFields) : Bool :=
  decide (r.code ≤ 63) && r.language.length == 3 && r.language.all isCapital && (r.mains == 50 || r.mains == 60) &&
    decide (r.rating ≤ 15)

/-- The days of a month (R145). -/
def daysIn (year month : Nat) : Nat :=
  match month with
  | 1 | 3 | 5 | 7 | 8 | 10 | 12 => 31
  | 4 | 6 | 9 | 11 => 30
  | 2 => if year % 4 = 0 then 29 else 28
  | _ => 0

/-- Every field of a label record lies in its range (R145). -/
def labelFits (r : LabelFields) : Bool :=
  decide (1 ≤ r.serial.length) && decide (r.serial.length ≤ 24) && r.serial.all isSerialChar && decide (2000 ≤ r.year) &&
    decide (r.year ≤ 2099) && decide (1 ≤ r.day) && decide (r.day ≤ daysIn r.year r.month)

/-- WRITE_REGION's complete record (R148). -/
def parseRegion (body : List Byte) : Option RegionFields := do
  let fs ← bodyFields 5 body
  let code ← needNumber fs 1 1
  let tuners ← needNumber fs 2 1
  let language ← fs.lookup 3
  let mains ← needNumber fs 4 1
  let rating ← needNumber fs 5 1
  let r : RegionFields :=
    { code := code, tuners := BitVec.ofNat 8 tuners, language := language, mains := mains, rating := rating }
  if regionFits r = true then some r else none

/-- WRITE_LABEL's complete record (R148). -/
def parseLabel (body : List Byte) : Option LabelFields := do
  let fs ← bodyFields 3 body
  let serial ← fs.lookup 1
  let model ← needNumber fs 2 2
  let date ← fs.lookup 3
  if date.length = 4 then
    let r : LabelFields :=
      { serial := serial, model := BitVec.ofNat 16 model, year := natOfBytes (date.take 2),
        month := natOfBytes ((date.drop 2).take 1), day := natOfBytes (date.drop 3) }
    if labelFits r = true then some r else none
  else none

/-- The 16-bit set of ACK_EVENTS and SET_EVENT_MASK, with bits 13 to 15 clear (R185). -/
def parseEventBits (body : List Byte) : Option (BitVec 13) := do
  let fs ← bodyFields 1 body
  let n ← needNumber fs 1 2
  if n < 8192 then some (BitVec.ofNat 13 n) else none

/-- What CLEAR_COUNTERS clears (R187). -/
inductive CounterSelect where
  | master (i : Fin 6)
  | counter (i : Fin 24)
  deriving DecidableEq, Repr

/-- CLEAR_COUNTERS's selector and index (R187). -/
def parseSelect (body : List Byte) : Option CounterSelect := do
  let fs ← bodyFields 2 body
  let sel ← needNumber fs 1 1
  let i ← needNumber fs 2 1
  if sel = 0 then (if h : i < 6 then some (.master ⟨i, h⟩) else none)
  else if sel = 1 then (if h : i < 24 then some (.counter ⟨i, h⟩) else none)
  else none

/-- A role mask: CAPTURE, MAP, KEYS, RECORDS, STAGE are bits 0 to 4 (R188, R192). A bit above them fits no mask (log 40). -/
def rolesOf (n : Nat) : Option Roles :=
  if n < 32 then
    some { capture := n.testBit 0, map := n.testBit 1, keys := n.testBit 2, records := n.testBit 3,
           stage := n.testBit 4 }
  else none

/-- WRITE_CONFIG's configuration (R189). A bit above slot 11 fits no required-slot set (log 40). -/
def parseConfig (body : List Byte) : Option Config := do
  let fs ← bodyFields 3 body
  let masks ← (fs.lookup 1).bind (numbersOf 1 4)
  let roleList ← masks.mapM rolesOf
  let roles ← vectorOf 4 roleList
  let req ← needNumber fs 2 2
  let limit ← needNumber fs 3 1
  if req < 4096 ∧ limit ≤ 15 then
    some { roles := roles, required := BitVec.ofNat 12 req, reopenLimit := limit }
  else none

/-! ## Reply bodies as bytes (R192; log 10) -/

/-- A flag as one byte. -/
def flagByte (b : Bool) : List Byte :=
  [if b then 1#8 else 0#8]

/-- A field that is carried only when its value is there. -/
def optField (n : Nat) (v : Option (List Byte)) : List Field :=
  match v with
  | none => []
  | some bs => [(n, bs)]

/-- Position in section 2.8 (R192). The state that an OPEN_CAPTURE or a DISCARD_CAPTURE discards has the same position as
in any other reply, not its position in the shorter lists of R34 and R40 (log 36). -/
def capStateCode : CapState → Nat
  | .empty => 0 | .opened => 1 | .complete => 2 | .locked => 3 | .consumed => 4

/-- Position in section 2.8; FREE is 0. -/
def boxStateCode : BoxState → Nat
  | .queued => 1 | .running => 2 | .done => 3 | .failed _ => 4 | .cancelled => 5

/-- Position among the six reasons of section 2.7 and R46. R112's own list names three of them; the reason in a commit's
result has the same position as in a box of any other kind (log 36). -/
def reasonCode : Reason → Nat
  | .noCapture => 0 | .noReference => 1 | .planeMismatch => 2 | .tileFault => 3 | .flashWorn => 4 | .headerFault => 5

/-- Position in R49. -/
def jobKindCode : JobKind → Nat
  | .runPass => 0 | .commitMap => 1 | .clearMap => 2

/-- Position in R89. -/
def tileStatusCode : TileStatus → Nat
  | .ok => 0 | .fault => 1

/-- Position in R135. -/
def keyClassCode : KeyClass → Nat
  | .identity => 0 | .content => 1 | .service => 2 | .pairing => 3

/-- Position in section 2.8. -/
def slotStateCode : SlotState → Nat
  | .empty => 0 | .loaded _ => 1 | .fixed _ => 2

/-- The key in a slot. -/
def slotKey : SlotState → Option Key
  | .empty => none
  | .loaded k => some k
  | .fixed k => some k

/-- Position in section 2.8. -/
def stageCode : Stage → Nat
  | .opened => 0 | .closed => 1 | .rework => 2

/-- Position in R155. -/
def stageProgramCode : StageProgram → Nat
  | .none => 0 | .closing => 1 | .reopening => 2

/-- Position in section 2.8. -/
def linkStateCode : LinkState → Nat
  | .normal => 0 | .warning => 1 | .guarded => 2 | .silent => 3

/-- Position in R109. -/
def prevHeaderCode : PrevHeader → Nat
  | .intact => 0 | .lost => 1 | .erased => 2

/-- A list of flags as a number, position k as bit k. -/
def maskNat (l : List Bool) : Nat :=
  l.foldr (fun b n => (if b then 1 else 0) + 2 * n) 0

/-- The argument record in the positions of R4. -/
def passArgsBytes (a : PassArgs) : List Byte :=
  let targets := a.modes.toList.flatMap fun m =>
    match m with
    | .fixed t => t.toList.flatMap (bytesOfNat 2)
    | .window => []
  fieldBytes <|
    [(1, a.modes.toList.map fun m => match m with | .fixed _ => 0#8 | .window => 1#8)] ++
    optField 2 (if targets.isEmpty then none else some targets) ++
    optField 3 (a.window.map fun w => [w.x0, w.x1, w.y0, w.y1].flatMap (bytesOfNat 1)) ++
    [(4, bytesOfNat 2 a.stepLimit), (5, bytesOfNat 2 a.valLimit), (6, bytesOfNat 2 a.minSlope),
     (7, bytesOfNat 2 a.tolerance), (8, bytesOfNat 2 a.flatLimit)]

/-- A result record in the positions of R26, R52 or R112. The started item of a commit stands in the box, and R112's record
does not carry it (log 36). Tiles programmed of a commit, to which R112 gives no range, takes two bytes (log 12). -/
def resultBytes (b : Box) (r : JobResult) : List Byte :=
  let reason : Option (List Byte) :=
    match b.state with
    | .failed x => some (bytesOfNat 1 (reasonCode x))
    | _ => none
  fieldBytes <|
    match r with
    | .pass p =>
      [(1, bytesOfNat 2 p.passNumber), (2, bytesOfNat 2 p.rmax)] ++
      optField 3 (p.rmaxNode.map fun n => [n.channel, n.plane, n.x, n.y].flatMap (bytesOfNat 1)) ++
      [(4, bytesOfNat 2 p.flat), (5, bytesOfNat 2 p.stepClamped), (6, bytesOfNat 2 p.valueClamped),
       (7, bytesOfNat 2 p.faultyRestarted), (8, bytesOfNat 2 p.tilesWritten), (9, flagByte p.outsideWrite),
       (10, flagByte p.converged)]
    | .cleared n => [(1, bytesOfNat 2 n)]
    | .commit c =>
      [(1, bytesOfNat 2 c.generation.toNat), (2, bytesOfNat 2 c.placed), (3, bytesOfNat 2 c.programmed),
       (4, bytesOfNat 1 c.sparesUsed), (5, bytesOfNat 1 c.sparesLeft)] ++
      optField 6 (c.previous.map fun h => bytesOfNat 1 (prevHeaderCode h)) ++
      optField 7 (c.converged.map flagByte) ++ optField 8 reason
    | .stopped started tiles =>
      match reason, b.kind with
      | some x, .clearMap => [(1, x), (2, bytesOfNat 2 tiles)]
      | some x, _ => [(1, x), (2, flagByte started), (3, bytesOfNat 2 tiles)]
      | none, _ => [(1, flagByte started), (2, bytesOfNat 2 tiles)]

/-- Flags that a rule names together, as one number in one byte, the flag named in position k as bit k (R192). -/
def flagsByte (l : List Bool) : List Byte :=
  bytesOfNat 1 (maskNat l)

/-- The entries of missing items with their details, in the positions of R159's table. The flags of a detail are one set of
flags (R192; log 36). -/
def missingFields (items : List MissingItem) : List Field :=
  items.map fun i =>
    match i with
    | .map c v m f n => (1, flagsByte [c, v, m, f] ++ bytesOfNat 1 n)
    | .keys slots => (2, slots.flatMap fun x => bytesOfNat 1 x.1 ++ bytesOfNat 1 x.2)
    | .region v p h => (3, bytesOfNat 2 v.toNat ++ flagsByte [p, h])
    | .label v p h => (4, bytesOfNat 2 v.toNat ++ flagsByte [p, h])

/-- The plane count and codes in one field. -/
def codesBytes (codes : List Nat) : List Byte :=
  bytesOfNat 1 codes.length ++ codes.flatMap (bytesOfNat 2)

/-- The profile in the positions of R132. -/
def profileFields (p : Profile) : List Field :=
  [(1, [48#8, 28#8]), (2, bytesOfNat 2 504), (3, codesBytes p.codes), (4, bytesOfNat 2 p.generation.toNat),
   (5, bytesOfNat 2 p.passCount), (6, flagByte p.committed), (7, flagByte p.converged), (8, flagByte p.mixed),
   (9, bytesOfNat 1 p.faulty)]

/-- A capture summary in the positions of R41, and the detail of R42 after it. -/
def captureFields (v : CaptureView) (detail : Option (List PresenceEntry)) : List Field :=
  [(1, bytesOfNat 1 (capStateCode v.state))] ++ optField 2 (v.owner.map fun o => bytesOfNat 1 o.val) ++
  [(3, bytesOfNat 2 v.number.toNat)] ++
  (match v.shaped with
   | none => []
   | some h =>
     [(4, codesBytes h.shape.codes ++ bytesOfNat 1 (maskNat h.shape.mask.toList)),
      (5, bytesOfNat 2 h.present ++ bytesOfNat 2 h.total)] ++
     optField 6 (h.firstMissing.map fun r => [r.plane, r.channel, r.y].flatMap (bytesOfNat 1)) ++
     [(7, bytesOfNat 2 h.replaced)]) ++
  optField 8 (detail.map fun es => es.flatMap fun e => bytesOfNat 1 e.y ++ flagByte e.present ++ bytesOfNat 1 e.dup)

/-- The region record as it reads, in the positions of R144. -/
def regionReadFields (r : SetRecord RegionFields) : List Field :=
  (match r.content with
   | none => []
   | some c =>
     [(1, bytesOfNat 1 c.code), (2, bytesOfNat 1 c.tuners.toNat), (3, c.language), (4, bytesOfNat 1 c.mains),
      (5, bytesOfNat 1 c.rating)]) ++
  [(6, bytesOfNat 2 r.version.toNat), (7, flagByte r.committed), (8, flagByte r.pending), (9, flagByte r.homeFault)]

/-- The label record as it reads, in the positions of R145. -/
def labelReadFields (r : SetRecord LabelFields) : List Field :=
  (match r.content with
   | none => []
   | some c =>
     [(1, c.serial), (2, bytesOfNat 2 c.model.toNat),
      (3, bytesOfNat 2 c.year ++ bytesOfNat 1 c.month ++ bytesOfNat 1 c.day)]) ++
  [(4, bytesOfNat 2 r.version.toNat), (5, flagByte r.committed), (6, flagByte r.pending), (7, flagByte r.homeFault)]

/-- A role mask (R188). -/
def rolesNat (r : Roles) : Nat :=
  maskNat [r.capture, r.map, r.keys, r.records, r.stage]

/-- The states in which a box has its cancel-noted flag (R46). -/
def hasCancelNoted : BoxState → Bool
  | .queued => false
  | .running | .done | .failed _ | .cancelled => true

/-- The states in which a box has its new-result flag (R46). -/
def hasNewResult : BoxState → Bool
  | .queued | .running => false
  | .done | .failed _ | .cancelled => true

/-- A flag that is carried only in the states that have it. -/
def flagField (n : Nat) (there value : Bool) : List Field :=
  optField n (if there then some (flagByte value) else none)

/-- A job box as READ_BOX gives it, in the positions of R53's list: a field is carried in the states in which R46's table
gives the box that field. The empty arguments of a COMMIT_MAP or CLEAR_MAP box are left out, and the item of an unheld box
is the one byte 0, with no time left; the failure reason is carried inside the result record alone (log 36). -/
def boxFields (view : Option BoxView) : List Field :=
  match view with
  | none => [(1, [0#8])]
  | some v =>
    let b := v.box
    [(1, bytesOfNat 1 (boxStateCode b.state)), (2, bytesOfNat 1 b.owner.val ++ bytesOfNat 1 (jobKindCode b.kind))] ++
    optField 3 (b.args.map passArgsBytes) ++
    [(4, bytesOfNat 2 b.seq.toNat), (5, bytesOfNat 2 b.progress)] ++ flagField 6 (hasCancelNoted b.state) b.cancelNoted ++
    [(7, match v.timeLeft with
         | none => flagByte false
         | some ms => flagByte true ++ bytesOfNat 1 ms),
     (8, flagByte b.holdExpired)] ++
    optField 9 (b.result.map (resultBytes b)) ++ flagField 10 (hasNewResult b.state) b.newResult

/-- A stage reply in the positions of R164. Stage home fault and demoted, which share a row, are one set of flags (R192); the
items are one field, whose own fields are the missing items, so that an item is present when it has none (log 36). -/
def stageFields (v : StageView) : List Field :=
  [(1, bytesOfNat 1 (stageCode v.stage)), (2, bytesOfNat 1 (stageProgramCode v.program)),
   (3, bytesOfNat 1 v.closeCount ++ bytesOfNat 1 v.reopenCount), (4, bytesOfNat 1 v.reopenLimit),
   (5, flagsByte [v.homeFault, v.demoted]), (6, fieldBytes (missingFields v.missing)),
   (7, bytesOfNat 1 v.faulty)]

/-- A key slot as CHECK_KEY gives it, in the positions of R141's list; the two flags of the last item are one set of flags
(R192; log 36). -/
def slotFields (n : Fin 12) (k : KeySlot) : List Field :=
  [(1, bytesOfNat 1 n.val ++ bytesOfNat 1 (slotStateCode k.state))] ++
  optField 2 ((slotKey k.state).map fun key =>
    bytesOfNat 1 (keyClassCode key.cls) ++ bytesOfNat 2 key.material.length ++ bytesOfNat 4 key.check.toNat ++
      bytesOfNat 1 key.loader.val) ++
  [(3, flagsByte [k.pending, k.homeFault])]

/-- The fields of a reply body (R192). A READ_NOTICES reply that removes no tile number leaves their list out (R130;
log 36). -/
def bodyFieldsOf : ReplyBody → List Field
  | .empty => []
  | .opened number total before owner =>
    [(1, bytesOfNat 2 number.toNat), (2, bytesOfNat 2 total), (3, bytesOfNat 1 (capStateCode before))] ++
    optField 4 (owner.map fun o => bytesOfNat 1 o.val)
  | .rowStored dup saturated present state =>
    [(1, bytesOfNat 1 dup), (2, bytesOfNat 1 saturated), (3, bytesOfNat 2 present),
     (4, bytesOfNat 1 (capStateCode state))]
  | .discarded before => [(1, bytesOfNat 1 (capStateCode before))]
  | .capture view detail => captureFields view detail
  | .submitted box seq => [(1, bytesOfNat 1 box.val), (2, bytesOfNat 2 seq.toNat), (3, [1#8])]
  | .box view => boxFields view
  | .tileRead t status values =>
    [(1, bytesOfNat 2 t.val), (2, bytesOfNat 1 (tileStatusCode status)), (3, packTile values)]
  | .tileNamed t => [(1, bytesOfNat 2 t.val)]
  | .tileWritten t clamped => [(1, bytesOfNat 2 t.val), (2, bytesOfNat 1 clamped)]
  | .lockBefore l => [(1, bytesOfNat 1 l)]
  | .profile p => profileFields p
  | .run first count tiles =>
    [(1, bytesOfNat 2 first.val), (2, bytesOfNat 1 count),
     (3, tiles.flatMap fun x => bytesOfNat 2 x.tile.val ++ bytesOfNat 1 (tileStatusCode x.status) ++ packTile x.values)]
  | .notices tiles left =>
    [(1, [0#8]), (2, bytesOfNat 1 tiles.length)] ++
    optField 3 (if tiles.isEmpty then none else some (tiles.flatMap fun t => bytesOfNat 2 t.val)) ++
    [(4, bytesOfNat 1 left)]
  | .resync => [(1, [1#8])]
  | .stale tile overflow =>
    (match tile with
     | some t => [(1, bytesOfNat 2 t.val)]
     | none => [(2, [0#8])]) ++ [(3, flagByte overflow)]
  | .keyLoaded slot cls length check =>
    [(1, bytesOfNat 1 slot.val), (2, bytesOfNat 1 (keyClassCode cls)), (3, bytesOfNat 2 length),
     (4, bytesOfNat 4 check.toNat)]
  | .keyFixed slot check => [(1, bytesOfNat 1 slot.val), (2, bytesOfNat 4 check.toNat)]
  | .keyChecked slot k => slotFields slot k
  | .keyReleased slot cls length check material =>
    [(1, bytesOfNat 1 slot.val), (2, bytesOfNat 1 (keyClassCode cls)), (3, bytesOfNat 2 length),
     (4, bytesOfNat 4 check.toNat), (5, material)]
  | .region r => regionReadFields r
  | .label r => labelReadFields r
  | .version v => [(1, bytesOfNat 2 v.toNat)]
  | .stage v => stageFields v
  | .missing items => missingFields items
  | .stageCounts c r => [(1, bytesOfNat 1 c), (2, bytesOfNat 1 r)]
  | .link state lec => [(1, bytesOfNat 1 (linkStateCode state)), (2, bytesOfNat 1 lec)]
  | .flags flags mask => [(1, bytesOfNat 2 flags.toNat), (2, bytesOfNat 2 mask.toNat)]
  | .counters counters wraps =>
    [(1, counters.toList.flatMap fun c => bytesOfNat 4 c.toNat), (2, bytesOfNat 3 (maskNat wraps.toList))]
  | .config c =>
    [(1, c.roles.toList.map fun r => BitVec.ofNat 8 (rolesNat r)), (2, bytesOfNat 2 c.required.toNat),
     (3, bytesOfNat 1 c.reopenLimit)]

/-- The bytes of a reply record on an SPI port (R190). -/
def replyBytes (r : Reply) : List Byte :=
  r.kind :: r.tag :: statusCode r.status :: fieldBytes (bodyFieldsOf r.body)

/-- The characters of a reply frame, sync included (R173, R190): the tag travels in the frame and not in the payload. -/
def replyFrame (st : Station) (r : Reply) : List Byte :=
  Config.syncChar ::
    frameChars .reply st r.tag (r.kind :: statusCode r.status :: fieldBytes (bodyFieldsOf r.body))

end Sys2Proof.Machine
end

