-- ==== Sys2Proof/Machine/Ops.lean ====
section
/-! DEFINITION. The shared operations over ports and records: forming and routing replies, taking a request from the
inbox, the role and stage checks, and marking a tile changed in the panel copy directory. -/

namespace Sys2Proof.Machine

open Sys2Proof

/-! ## Replies -/

/-- An answer of the fixture link's own reaches the station's place, or is dropped when the place holds a reply (R172). -/
def placeAnswer (st : Station) (r : Reply) (s : State) : State :=
  match s.fxl.place[st] with
  | none =>
    s.setFxl { s.fxl with place := s.fxl.place.set st (some { reply := r, own := false }),
                          queue := s.fxl.queue ++ [st] }
  | some _ => s

/-- The owner's reply to a station's outstanding request reaches its place, or becomes the deferred reply (R172). -/
def placeOwn (st : Station) (r : Reply) (s : State) : State :=
  match s.fxl.place[st] with
  | none =>
    s.setFxl { s.fxl with place := s.fxl.place.set st (some { reply := r, own := true }),
                          queue := s.fxl.queue ++ [st] }
  | some _ => s.setFxl { s.fxl with deferred := s.fxl.deferred.set st (some r) }

/-- The owner's reply to a station's request: discarded for an abandoned request, else to the station's place (R172). -/
def stationReply (st : Station) (ticket : Nat) (r : Reply) (s : State) : State :=
  if ticket ∈ s.fxl.abandoned then s.setFxl { s.fxl with abandoned := s.fxl.abandoned.erase ticket }
  else if s.fxl.outstanding[st] = some ticket then placeOwn st r s
  else s

/-- The owner's reply to SYSTEM's outstanding request enters the reply slot (R180). -/
def systemReply (ticket : Nat) (r : Reply) (s : State) : State :=
  if s.syp.pending = some ticket then s.setSyp { s.syp with pending := none, slot := some r } else s

/-- The owner's reply to PANEL's outstanding request enters the reply slot (R115). -/
def panelReply (ticket : Nat) (r : Reply) (s : State) : State :=
  if s.pnp.pending = some ticket then s.setPnp { s.pnp with pending := none, slot := some r } else s

/-- A formed reply goes back by the port its request came from. -/
def routeReply (m : Master) (ticket : Nat) (r : Reply) (s : State) : State :=
  match m with
  | .station st => stationReply st ticket r s
  | .system => systemReply ticket r s
  | .panel => panelReply ticket r s

/-- A reply with a status other than OK rises the master's REFUSED counter, and DATA_FAULT its FAULTS counter too
(R186); a reply that the link discards is counted as if sent (R175). -/
def countReply (m : Master) (status : Status) (s : State) : State :=
  match status with
  | .ok => s
  | .dataFault => rise m .faults 1 (rise m .refused 1 s)
  | _ => rise m .refused 1 s

/-- The owning block forms the reply to a request. -/
def reply (req : Request) (status : Status) (body : ReplyBody) (s : State) : State :=
  routeReply req.master req.ticket { kind := kindCode req.kind, tag := req.tag, status := status, body := body }
    (countReply req.master status s)

/-- A refusal, with an empty body (section 2.6). A BUSY whose rule names a busy object carries no field for it either
(log 25). -/
def refuse (req : Request) (status : Status) (s : State) : State :=
  reply req status .empty s

/-! ## Requests -/

/-- The oldest request of a kind that the master's port has passed on and that is not yet served. -/
def waitingRequest (k : Kind) (m : Master) (s : State) : Option Request :=
  s.inbox.find? fun r => r.kind == k && r.master == m

/-- The owning block serves the oldest waiting request of a kind from a master; with none waiting, nothing happens
(log 4, log 5). -/
def serve (k : Kind) (m : Master) (f : Request → State → State) (s : State) : State :=
  match waitingRequest k m s with
  | none => s
  | some req => f req (s.setInbox (s.inbox.erase req))

/-- The station roles (R188). -/
inductive Role where
  | capture | map | keys | records | stage
  deriving DecidableEq, Repr

/-- Whether a role is in a station's set. -/
def roleIn : Role → Roles → Bool
  | .capture, r => r.capture
  | .map, r => r.map
  | .keys, r => r.keys
  | .records, r => r.records
  | .stage, r => r.stage

/-- The requester is a station holding the role in the live configuration (R171, R188). -/
def stationWith (role : Role) (m : Master) (s : State) : Bool :=
  match m with
  | .station i => roleIn role s.config.roles[i]
  | _ => false

/-- The stage check while a stage program may be in flight: the live stage admits the request, and so does the stage
being programmed (R161). -/
def stageAdmits (admitted : Stage → Bool) (s : State) : Bool :=
  admitted s.srb.stage.stage &&
    match s.srb.stage.program with
    | .none => true
    | .closing => admitted .closed
    | .reopening => admitted .rework

/-- Admitted in OPEN and REWORK, refused in CLOSED (R165). -/
def lineStage : Stage → Bool
  | .opened | .rework => true
  | .closed => false

/-- Admitted in CLOSED alone: RELEASE_KEY (R165). -/
def closedStage : Stage → Bool
  | .closed => true
  | _ => false

/-- Admitted in OPEN alone: WRITE_CONFIG (R165). -/
def openStage : Stage → Bool
  | .opened => true
  | _ => false

/-! ## The panel copy directory -/

/-- A tile that has become STALE is appended to the notice queue, unless the overflow flag is set or it is there; a full
queue overflows (R122, R123). -/
def appendNotice (t : TileNo) (s : State) : State :=
  if s.pcd.overflow || s.pcd.notices.contains t then s
  else if Config.noticeRoom ≤ s.pcd.notices.length then
    raise .noticeOverflow (s.setPcd { s.pcd with notices := [], overflow := true })
  else s.setPcd { s.pcd with notices := s.pcd.notices ++ [t] }

/-- The state of a tile's directory entry. -/
def dirOf (t : TileNo) (s : State) : DirState :=
  s.pcd.dir[t]

/-- A tile's directory entry takes a state. -/
def setDir (t : TileNo) (d : DirState) (s : State) : State :=
  s.setPcd { s.pcd with dir := s.pcd.dir.set t d }

/-- The tile cache marks a tile changed (R121). -/
def markChanged (t : TileNo) (s : State) : State :=
  match dirOf t s with
  | .current => appendNotice t (setDir t .stale s)
  | .sending => setDir t .sendingChanged s
  | .absent | .stale | .waiting | .sendingChanged => s

/-! ## The working map header -/

/-- A change of the working map header. -/
def setHeader (h : Header) (s : State) : State :=
  s.setMfc { s.mfc with header := h }

/-- The map's profile, taken from the working map header (R132). -/
def profileOf (s : State) : Profile :=
  let h := s.mfc.header
  { codes := h.codes, generation := h.generation, passCount := h.passCount, committed := h.committed,
    converged := h.converged, mixed := h.mixed, faulty := h.faulty }

end Sys2Proof.Machine
end

