-- ==== Sys2Proof/Machine/Cache.lean ====
section
/-! DEFINITION. The shared operations of the tile cache: lookup, PLRU tree, victim choice, miss and fill, repair and loss,
whole-tile writes, the port arbiter and the ends of waits (chapter 4). -/

namespace Sys2Proof.Machine

open Sys2Proof

/-! ## Sets, ways and the tree -/

/-- The set of a tile (R68). -/
def setOf (t : TileNo) : Fin 16 :=
  ⟨t.val % 16, Nat.mod_lt _ (by decide)⟩

/-- The content of a way. -/
def entryAt (i : Fin 16) (w : Fin 8) (s : State) : Option Entry :=
  (s.tlc.sets[i]).ways[w]

/-- A way takes a content. -/
def setEntry (i : Fin 16) (w : Fin 8) (e : Option Entry) (s : State) : State :=
  let set := s.tlc.sets[i]
  s.setTlc { s.tlc with sets := s.tlc.sets.set i { set with ways := set.ways.set w e } }

/-- The lookup of a tile in its set: the way that holds it (R73). -/
def findWay (t : TileNo) (s : State) : Option (Fin 8) :=
  (List.finRange 8).find? fun w =>
    match entryAt (setOf t) w s with
    | some e => e.tile == t
    | none => false

/-- The tree after way `w` is touched: the three nodes on its path point away from it (R74). -/
def touchTree (w : Fin 8) (tree : Vector Bool 7) : Vector Bool 7 :=
  let upper0 := decide (4 ≤ w.val)
  let tree := tree.set 0 (!upper0)
  let tree := if upper0 then tree.set 2 (decide (w.val < 6)) else tree.set 1 (decide (w.val < 2))
  tree.set (3 + w.val / 2) (w.val % 2 == 0) (by omega)

/-- Way `w` of set `i` is touched (R74). -/
def touch (i : Fin 16) (w : Fin 8) (s : State) : State :=
  let set := s.tlc.sets[i]
  s.setTlc { s.tlc with sets := s.tlc.sets.set i { set with tree := touchTree w set.tree } }

/-- The side taken at a node: the one it points to, unless every way on that side is locked (R77). The ways on the lower
side end below `lo`, those on the upper side below `hi`; ways below `lock` are locked. -/
def takeSide (points : Bool) (lock lo hi : Nat) : Bool :=
  if points then !decide (hi ≤ lock) else decide (lo ≤ lock)

/-- The way that the walk of the tree names (step 2 of R77). -/
def walkTree (tree : Vector Bool 7) (lock : Nat) : Fin 8 :=
  if takeSide tree[0] lock 4 8 then
    if takeSide tree[2] lock 6 8 then (if takeSide tree[6] lock 7 8 then 7 else 6)
    else (if takeSide tree[5] lock 5 6 then 5 else 4)
  else
    if takeSide tree[1] lock 2 4 then (if takeSide tree[4] lock 3 4 then 3 else 2)
    else (if takeSide tree[3] lock 1 2 then 1 else 0)

/-! ## Victim choice -/

/-- The write-back queue has no room (R86). -/
def queueFull (s : State) : Bool :=
  decide (Config.queueRoom ≤ s.tlc.queue.length)

/-- A way is eligible as a victim (R78). -/
def eligible (i : Fin 16) (w : Fin 8) (s : State) : Bool :=
  decide (s.tlc.lock.val ≤ w.val) &&
    match entryAt i w s with
    | none => false
    | some e =>
      match e.state with
      | .clean _ _ => true
      | .dirty _ _ => !queueFull s
      | .filling | .faulty => false

/-- The victim of a set, if there is one (R77). -/
def chooseVictim (i : Fin 16) (s : State) : Option (Fin 8) :=
  match (List.finRange 8).find? fun w => (entryAt i w s).isNone with
  | some w => some w
  | none =>
    let w := walkTree (s.tlc.sets[i]).tree s.tlc.lock.val
    if eligible i w s then some w else (List.finRange 8).find? fun v => eligible i v s

/-- With no way eligible, the operation waits: an unlocked way is FILLING, or DIRTY while the queue is full, and the flash
is not WORN (R79). -/
def mayWaitForWay (i : Fin 16) (s : State) : Bool :=
  s.mfc.wear == .normal &&
    (List.finRange 8).any fun w =>
      decide (s.tlc.lock.val ≤ w.val) &&
        match entryAt i w s with
        | none => false
        | some e =>
          match e.state with
          | .filling => true
          | .dirty _ _ => queueFull s
          | .clean _ _ | .faulty => false

/-! ## Check codes, queue copies and fills -/

/-- The check code of a tile's values (R82; log 6). -/
def codeOf (t : TileNo) (v : TileValues) : CheckCode :=
  { tile := t, values := v }

/-- The check: the values agree with the code held (R82). -/
def codeAgrees (t : TileNo) (v : TileValues) (c : CheckCode) : Bool :=
  c == codeOf t v

/-- The newest queued copy of a tile: the one nearest the tail (R75). -/
def newestCopy (t : TileNo) (q : List TileCopy) : Option TileCopy :=
  q.reverse.find? fun c => c.tile == t

/-- The result of a fill taken from a queued copy (R99). -/
def copyFill (c : TileCopy) : FillResult :=
  if codeAgrees c.tile c.values c.code then .values c.values else .failed

/-- A fill read of a tile is presented: served at once from the newest queued copy if there is one, else presented to the
flash arbiter in class 1 (R97, R99). -/
def requestFill (t : TileNo) (s : State) : State :=
  match newestCopy t s.tlc.queue with
  | some c => s.setTlc { s.tlc with fills := s.tlc.fills ++ [{ tile := t, result := copyFill c }] }
  | none => s.setMfc { s.mfc with reads := s.mfc.reads ++ [.fill t] }

/-- A DIRTY victim is copied to the tail of the write-back queue; a CLEAN one is dropped (R75). -/
def copyVictim (i : Fin 16) (w : Fin 8) (s : State) : State :=
  match entryAt i w s with
  | some e =>
    match e.state with
    | .dirty v c => s.setTlc { s.tlc with queue := s.tlc.queue ++ [{ tile := e.tile, values := v, code := c }] }
    | .clean _ _ | .filling | .faulty => s
  | none => s

/-- The victim way is given to a tile, and touched (R74, R75). -/
def giveWay (i : Fin 16) (w : Fin 8) (t : TileNo) (st : EntryState) (s : State) : State :=
  touch i w (setEntry i w (some { tile := t, state := st }) (copyVictim i w s))

/-! ## Read accesses -/

/-- What a read access comes to at its grant. -/
inductive ReadOutcome where
  | values (w : Fin 8) (v : TileValues)
  | faulty (w : Fin 8)
  | waits (p : OpPhase)
  | refused (worn : Bool)
  deriving DecidableEq, Repr

/-- A DIRTY entry found mismatched is declared lost (R84). -/
def loseTile (t : TileNo) (w : Fin 8) (s : State) : State :=
  let s := raise .tileLost (setEntry (setOf t) w (some { tile := t, state := .faulty }) s)
  markChanged t (setHeader { s.mfc.header with faulty := s.mfc.header.faulty + 1 } s)

/-- A CLEAN entry found mismatched becomes FILLING and is fetched again (R83). -/
def repairTile (t : TileNo) (w : Fin 8) (s : State) : State :=
  requestFill t (raise .tileRepaired (setEntry (setOf t) w (some { tile := t, state := .filling }) s))

/-- A read access on the valid entry of way `w` (R73). A way is touched when values are read from it (R74; log 31). -/
def readEntry (t : TileNo) (w : Fin 8) (s : State) : State × ReadOutcome :=
  match entryAt (setOf t) w s with
  | none => (s, .waits .waitFill)
  | some e =>
    match e.state with
    | .filling => (s, .waits .waitFill)
    | .faulty => (s, .faulty w)
    | .clean v c =>
      if codeAgrees t v c then (touch (setOf t) w s, .values w v) else (repairTile t w s, .waits .waitRepair)
    | .dirty v c =>
      if codeAgrees t v c then (touch (setOf t) w s, .values w v) else (loseTile t w s, .faulty w)

/-- A read access to a tile: the lookup (R73), the miss (cases 2 and 3 of R75), the wait or the refusal (R79). -/
def readTileAt (t : TileNo) (s : State) : State × ReadOutcome :=
  match findWay t s with
  | some w => readEntry t w s
  | none =>
    match chooseVictim (setOf t) s with
    | none => (s, if mayWaitForWay (setOf t) s then .waits .waitWay else .refused (s.mfc.wear == .worn))
    | some w =>
      match newestCopy t s.tlc.queue with
      | some c => readEntry t w (giveWay (setOf t) w t (.dirty c.values c.code) s)
      | none => (requestFill t (giveWay (setOf t) w t .filling s), .waits .waitFill)

/-! ## Whole-tile writes -/

/-- The entry of a way is FAULTY. -/
def isFaulty (i : Fin 16) (w : Fin 8) (s : State) : Bool :=
  match entryAt i w s with
  | some e => e.state == .faulty
  | none => false

/-- The 32 values are written into way `w` as one whole-tile write: the entry becomes DIRTY with a fresh check code, a
FAULTY condition is cleared and the faulty count falls by 1, the committed flag is cleared, and the tile is marked changed
(R73, R82, R85, R105). -/
def storeWhole (t : TileNo) (w : Fin 8) (v : TileValues) (s : State) : State :=
  let cleared := if isFaulty (setOf t) w s then 1 else 0
  let s := touch (setOf t) w (setEntry (setOf t) w (some { tile := t, state := .dirty v (codeOf t v) }) s)
  let h := s.mfc.header
  markChanged t (setHeader { h with committed := false, faulty := h.faulty - cleared } s)

/-- What a whole-tile write comes to at its grant. -/
inductive WriteOutcome where
  | written
  | waits (p : OpPhase)
  | refused (worn : Bool)
  deriving DecidableEq, Repr

/-- A WRITE_TILE or clear tile operation at its grant: a hit on FILLING waits, any other hit is written, a miss takes a
victim with no fill read (R73, case 1 of R75). -/
def writeTileAt (t : TileNo) (v : TileValues) (s : State) : State × WriteOutcome :=
  match findWay t s with
  | some w =>
    match entryAt (setOf t) w s with
    | some { tile := _, state := .filling } => (s, .waits .waitFill)
    | _ => (storeWhole t w v s, .written)
  | none =>
    match chooseVictim (setOf t) s with
    | none => (s, if mayWaitForWay (setOf t) s then .waits .waitWay else .refused (s.mfc.wear == .worn))
    | some w => (storeWhole t w v (giveWay (setOf t) w t (.dirty v (codeOf t v)) s), .written)

/-! ## The ends of waits (R72) -/

/-- The tile of the JOB requester's operation: the next tile of the running work. -/
def jobTile (s : State) : Option TileNo :=
  match s.jobs.running with
  | none => none
  | some r =>
    match r.work with
    | .pass p => some p.next
    | .clear t => some t
    | .commit c =>
      match c.phase with
      | .sweep t => some t
      | _ => none

/-- A wait for the fill or repair of an entry ends at its install. -/
def fillDone (p : OpPhase) : OpPhase :=
  match p with
  | .waitFill | .waitRepair => .resumed true
  | p => p

/-- A wait for an eligible way ends. -/
def wayFreed (p : OpPhase) : OpPhase :=
  match p with
  | .waitWay => .resumed false
  | p => p

/-- A wait for queue room ends. -/
def roomMade (p : OpPhase) : OpPhase :=
  match p with
  | .waitRoom => .resumed false
  | p => p

/-- The operations on the tiles chosen by `on` have their phase changed by `f`, each at its own requester. -/
def wake (on : TileNo → Bool) (f : OpPhase → OpPhase) (s : State) : State :=
  s.setTlc
    { s.tlc with
      panel := s.tlc.panel.map fun o => if on o.tile then { o with phase := f o.phase } else o,
      access := s.tlc.access.map fun o => if on o.tile then { o with phase := f o.phase } else o,
      job :=
        match jobTile s with
        | some t => if on t then s.tlc.job.map f else s.tlc.job
        | none => s.tlc.job }

/-- Every operation that waits for an eligible way is presented again: a queue entry was removed, L was lowered, or the
flash entered WORN. -/
def wakeWays (s : State) : State :=
  wake (fun _ => true) wayFreed s

/-- A queue entry was removed, or the flash entered WORN: the waits for a way and for queue room end. -/
def wakeQueue (s : State) : State :=
  wake (fun _ => true) (fun p => roomMade (wayFreed p)) s

/-- The fill of a tile was installed: the waits on its entry end, and those for a way of its set. -/
def wakeInstall (t : TileNo) (s : State) : State :=
  wake (fun u => setOf u == setOf t) wayFreed (wake (fun u => u == t) fillDone s)

/-! ## The port arbiter -/

/-- An operation is presented. -/
def isPresented : OpPhase → Bool
  | .presented | .resumed _ => true
  | _ => false

/-- An operation is presented again after a wait. -/
def isResumed : OpPhase → Bool
  | .resumed _ => true
  | _ => false

/-- The JOB requester has an operation presented. -/
def jobPresented (s : State) : Bool :=
  match s.tlc.job with
  | some p => isPresented p
  | none => false

/-- The ACCESS operation next in turn: a resumed one first, else the one taken first (R70). -/
def accessTurn (s : State) : Option AccessOp :=
  match s.tlc.access.find? fun o => isResumed o.phase with
  | some o => some o
  | none => s.tlc.access.find? fun o => isPresented o.phase

/-- Whom the arbiter grants the port to. -/
inductive Grant where
  | fill (f : Fill)
  | panel (o : PanelOp)
  | access (o : AccessOp)
  | job
  deriving DecidableEq, Repr

/-- The next grant of the TLC port arbiter: FILL, PANEL, ACCESS, JOB, but JOB first once its wait count is 8 (R70, R71). -/
def nextGrant (s : State) : Option Grant :=
  if jobPresented s && decide (Config.jobWaitLimit ≤ s.tlc.jobWait) then some .job
  else
    match s.tlc.fills with
    | f :: _ => some (.fill f)
    | [] =>
      match s.tlc.panel.filter fun o => isPresented o.phase with
      | some o => some (.panel o)
      | none =>
        match accessTurn s with
        | some o => some (.access o)
        | none => if jobPresented s then some .job else none

/-- A grant to a requester other than JOB adds 1 to the JOB wait count while JOB has an operation presented (R71). -/
def grantOther (s : State) : State :=
  if jobPresented s then s.setTlc { s.tlc with jobWait := s.tlc.jobWait + 1 } else s

/-- A grant to JOB returns the count to 0 (R71). -/
def grantJob (s : State) : State :=
  s.setTlc { s.tlc with jobWait := 0 }

/-- The JOB requester's operation takes a phase, or is withdrawn; a withdrawal returns the count to 0 (R71). -/
def setJobOp (p : Option OpPhase) (s : State) : State :=
  s.setTlc { s.tlc with job := p, jobWait := 0 }

/-- An ACCESS operation takes a phase. -/
def setAccessPhase (o : AccessOp) (p : OpPhase) (s : State) : State :=
  s.setTlc { s.tlc with access := s.tlc.access.map fun x => if x = o then { x with phase := p } else x }

/-- An ACCESS operation ends. -/
def dropAccess (o : AccessOp) (s : State) : State :=
  s.setTlc { s.tlc with access := s.tlc.access.erase o }

/-- An ACCESS operation is presented, in the order in which the requests were taken (R70). -/
def insertAccess (o : AccessOp) : List AccessOp → List AccessOp
  | [] => [o]
  | x :: rest => if o.req.ticket < x.req.ticket then o :: x :: rest else x :: insertAccess o rest

/-- A taken READ_TILE or WRITE_TILE is presented as an ACCESS operation (R89, R90). -/
def presentAccess (req : Request) (t : TileNo) (k : AccessKind) (s : State) : State :=
  s.setTlc { s.tlc with access := insertAccess { req := req, tile := t, kind := k, phase := .presented } s.tlc.access }

end Sys2Proof.Machine
end

