-- ==== Sys2Proof/Machine/Engine.lean ====
section
/-! DEFINITION. The shared operations of the job engine and the flash: the end of a job, the moment of a drain, the entry
into WORN, and the end of a program (R52, R92, R102, R103, R111). -/

namespace Sys2Proof.Machine

open Sys2Proof

/-! ## Boxes -/

/-- A job box, absent when FREE. -/
def boxAt (b : Fin 16) (s : State) : Option Box :=
  s.jobs.boxes[b]

/-- A job box takes a content. -/
def setBox (b : Fin 16) (x : Option Box) (s : State) : State :=
  s.setJobs { s.jobs with boxes := s.jobs.boxes.set b x }

/-- The RUNNING box and its work change. -/
def setRunning (r : Option Running) (s : State) : State :=
  s.setJobs { s.jobs with running := r }

/-- A box ends: its result record is written, the new-result flag is set, its state becomes the end's, and JOB_ENDED is
raised (R52). A hold ends with it (R58). -/
def endBox (b : Fin 16) (st : BoxState) (r : JobResult) (s : State) : State :=
  match boxAt b s with
  | none => s
  | some x =>
    raise .jobEnded
      (setBox b (some { x with state := st, result := some r, newResult := true, hold := none }) s)

/-- The RUNNING job ends: no box is RUNNING and the JOB requester has no operation (R52, R71). -/
def endRunning (b : Fin 16) (st : BoxState) (r : JobResult) (s : State) : State :=
  setJobOp none (setRunning none (endBox b st r s))

/-- The capture becomes CONSUMED as the RUN_PASS box leaves RUNNING (R44). -/
def consumeCapture (s : State) : State :=
  s.setCap { s.cap with state := .consumed }

/-- A started pass ends early: CANCELLED at a safe point, or FAILED after start (R63). -/
def endPassEarly (b : Fin 16) (st : BoxState) (tiles : Nat) (s : State) : State :=
  endRunning b st (.stopped true tiles) (consumeCapture s)

/-- A started clear ends early (R66). -/
def endClearEarly (b : Fin 16) (st : BoxState) (tiles : Nat) (s : State) : State :=
  endRunning b st (.stopped true tiles) s

/-- A refusal at the tile cache as a job's failure reason (R22, R65). -/
def refusalReason (worn : Bool) : Reason :=
  if worn then .flashWorn else .tileFault

/-! ## Commits -/

/-- The number of UNUSED spares (R112). -/
def unusedSpares (s : State) : Nat :=
  (List.finRange 24).countP fun k => s.mfc.spares[k] == .unused

/-- The commit result record at the end of a commit (R112); the generation is the working one as it then stands. -/
def commitResult (placed : Nat) (w : CommitWork) (converged : Option Bool) (s : State) : CommitResult :=
  { generation := s.mfc.header.generation, placed := placed, programmed := w.programmed, sparesUsed := w.sparesUsed,
    sparesLeft := unusedSpares s, previous := w.previous, converged := converged }

/-- The progress of a box. -/
def progressOf (b : Fin 16) (s : State) : Nat :=
  match boxAt b s with
  | some x => x.progress
  | none => 0

/-- A commit ends FAILED after its start checks have passed: the working committed flag is cleared (R105, R111, R112). -/
def failCommit (b : Fin 16) (w : CommitWork) (reason : Reason) (converged : Option Bool) (s : State) : State :=
  let s := setHeader { s.mfc.header with committed := false } s
  endRunning b (.failed reason) (.commit (commitResult (progressOf b s) w converged s)) s

/-- The work of a running commit changes. -/
def setCommit (b : Fin 16) (w : CommitWork) (s : State) : State :=
  setRunning (some { box := b, work := .commit w }) s

/-- A running commit counts a tile program that verified, and a spare taken (R112). -/
def countForCommit (programmed spares : Nat) (s : State) : State :=
  match s.jobs.running with
  | some { box := b, work := .commit w } =>
    setCommit b { w with programmed := w.programmed + programmed, sparesUsed := w.sparesUsed + spares } s
  | _ => s

/-! ## Drains -/

/-- A flash program of any record is in flight: it has been granted and has not completed. One that is presented and waits
for its grant is not counted (log 41). -/
def programming (s : State) : Bool :=
  match s.mfc.flash with
  | .programming _ _ => true
  | _ => false

/-- The moment that a DRAIN and a commit's drain wait for: the write-back queue is empty and no flash program is in
flight (R92, R111; log 41). -/
def drained (s : State) : Bool :=
  s.tlc.queue.isEmpty && !programming s

/-- The status due to a withheld DRAIN is fixed by the first moment that gives it one. -/
def dueDrains (st : Status) (s : State) : State :=
  s.setTlc { s.tlc with drains := s.tlc.drains.map fun d => (d.1, some (d.2.getD st)) }

/-- A running commit's drain finds its moment (R111). -/
def commitMoment (s : State) : State :=
  match s.jobs.running with
  | some { box := b, work := .commit w } =>
    match w.phase with
    | .drain _ => setCommit b { w with phase := .drain true } s
    | _ => s
  | _ => s

/-- The moment is tested, as at each queue removal and each program completion (R92, R111; log 18, log 19). -/
def testDrains (s : State) : State :=
  if drained s then commitMoment (dueDrains .ok s) else s

/-! ## Flash -/

/-- The flash state changes. -/
def setFlash (f : FlashState) (s : State) : State :=
  s.setMfc { s.mfc with flash := f }

/-- A program is granted: it takes the counter's value, and the counter rises by 1 (R96). -/
def startProgram (j : FlashJob) (s : State) : State :=
  s.setMfc { s.mfc with flash := .programming j s.mfc.seq, seq := s.mfc.seq + 1 }

/-- A program has completed: the flash is IDLE, and the drains are tested (R92, R98). -/
def programDone (s : State) : State :=
  testDrains (setFlash .idle s)

/-- A record program is presented in class 2 (R97). -/
def presentProgram (p : RecordProgram) (s : State) : State :=
  s.setMfc { s.mfc with programs := s.mfc.programs ++ [p] }

/-- The header home takes a content. -/
def setHeaderHome (h : Home HeaderRecord) (s : State) : State :=
  s.setHomes { s.homes with header := h }

/-- A home of tiles takes a content. -/
def setTileHome (t : TileNo) (where_ : TileHome) (h : Home TileRecord) (s : State) : State :=
  match where_ with
  | .own => s.setHomes { s.homes with tile := s.homes.tile.set t h }
  | .spare k => s.setHomes { s.homes with spare := s.homes.spare.set k h }

/-- The home of a tile as the remap table names it (R99). -/
def homeOf (t : TileNo) (s : State) : TileHome :=
  match (List.finRange 24).find? fun k => s.mfc.spares[k] == .mapped t with
  | some k => .spare k
  | none => .own

/-- The content of a tile's home. -/
def tileHomeContent (t : TileNo) (where_ : TileHome) (s : State) : Home TileRecord :=
  match where_ with
  | .own => s.homes.tile[t]
  | .spare k => s.homes.spare[k]

/-- A spare takes a state. -/
def setSpare (k : Fin 24) (x : SpareState) (s : State) : State :=
  s.setMfc { s.mfc with spares := s.mfc.spares.set k x }

/-- The next unused spare: the lowest-numbered UNUSED one (R101). -/
def nextSpare (s : State) : Option (Fin 24) :=
  (List.finRange 24).find? fun k => s.mfc.spares[k] == .unused

/-- A commit's header program that is presented is taken back (R111: no header is programmed; log 42). -/
def withdrawHeader (s : State) : State :=
  s.setMfc { s.mfc with programs := s.mfc.programs.filter (· ≠ .header) }

/-- A COMMIT_MAP that is RUNNING fails at once when the flash enters WORN, and its header is not programmed (R103,
R111). -/
def wornCommit (s : State) : State :=
  match s.jobs.running with
  | some { box := b, work := .commit w } => failCommit b w .flashWorn none (withdrawHeader s)
  | _ => s

/-- The flash enters WORN (R103). -/
def enterWorn (s : State) : State :=
  let s := s.setMfc { s.mfc with flash := .idle, wear := .worn }
  wornCommit (dueDrains .flashWorn (wakeQueue (raise .flashWorn s)))

end Sys2Proof.Machine
end

