-- ==== Sys2Proof/Machine/Keys.lean ====
section
/-! DEFINITION. Key slots: LOAD_KEY, FIX_KEY, ERASE_KEY, CHECK_KEY, RELEASE_KEY and the two program completions
(section 7.1). -/

namespace Sys2Proof.Machine

open Sys2Proof

/-- A key slot. -/
def slotAt (k : Fin 12) (s : State) : KeySlot :=
  s.srb.keys[k]

/-- A key slot takes a content. -/
def setSlot (k : Fin 12) (x : KeySlot) (s : State) : State :=
  s.setSrb { s.srb with keys := s.srb.keys.set k x }

/-- A key home takes a content. -/
def setKeyHome (k : Fin 12) (h : Home KeyRecord) (s : State) : State :=
  s.setHomes { s.homes with key := s.homes.key.set k h }

/-- The requester is the station. -/
def isStation (m : Master) (st : Station) : Bool :=
  m == .station st

/-- Checks 1 to 4 of R137: what refuses the request, or its slot. -/
def keyDoor (req : Request) (slot : Option (Fin 12)) (s : State) : Except Status (Fin 12) :=
  if !stationWith .keys req.master s then .error .refusedOrigin
  else if !stageAdmits lineStage s then .error .refusedStage
  else
    match slot with
    | none => .error .badArg
    | some k => if (slotAt k s).pending then .error .busy else .ok k

/-! ## LOAD_KEY -/

/-- Check 5 of LOAD_KEY: what refuses it, if anything does (R138). -/
def loadRefusal (m : Master) (x : KeySlot) : Option Status :=
  match x.state with
  | .empty => none
  | .loaded key => if isStation m key.loader then none else some .refusedOrigin
  | .fixed _ => some .refusedState

/-- The slot becomes LOADED (R138). -/
def loadSlot (req : Request) (k : Fin 12) (cls : KeyClass) (material : List Byte) (st : Station) (s : State) : State :=
  let key : Key := { cls := cls, material := material, check := crc32 material, loader := st }
  reply req .ok (.keyLoaded k cls material.length key.check)
    (setSlot k { slotAt k s with state := .loaded key } s)

/-- LOAD_KEY at the SRB (R136 to R138). -/
def loadKey (req : Request) (s : State) : State :=
  match keyDoor req (parseLoadSlot req.body) s with
  | .error st => refuse req st s
  | .ok k =>
    match loadRefusal req.master (slotAt k s) with
    | some st => refuse req st s
    | none =>
      match parseKey req.body, req.master with
      | some (cls, material), .station st => loadSlot req k cls material st s
      | _, _ => refuse req .badArg s

/-- LOAD_KEY. -/
def execLoadKey (m : Master) (s : State) : Host.Outcome State Fault Refusal :=
  .next (serve .loadKey m loadKey s)

/-! ## FIX_KEY -/

/-- FIX_KEY at the SRB: a key record program is presented and the reply withheld (R137, R139). -/
def fixKey (req : Request) (s : State) : State :=
  match keyDoor req (parseSlotOnly req.body) s with
  | .error st => refuse req st s
  | .ok k =>
    match (slotAt k s).state with
    | .loaded key =>
      if isStation req.master key.loader then
        presentProgram (.keyFix req k key) (setSlot k { slotAt k s with pending := true } s)
      else refuse req .refusedOrigin s
    | .empty | .fixed _ => refuse req .refusedState s

/-- FIX_KEY. -/
def execFixKey (m : Master) (s : State) : Host.Outcome State Fault Refusal :=
  .next (serve .fixKey m fixKey s)

/-- A fix has verified (R139). -/
def fixVerified (req : Request) (k : Fin 12) (key : Key) (seq : BitVec 32) (s : State) : State :=
  let s := setKeyHome k (.holds { slot := k.val, key := some key, seq := seq }) s
  let s := setSlot k { state := .fixed key, pending := false, homeFault := false } s
  programDone (reply req .ok (.keyFixed k key.check) s)

/-- A fix has failed to verify (R139). -/
def fixFailed (req : Request) (k : Fin 12) (s : State) : State :=
  let s := setKeyHome k .failing s
  let s := setSlot k { slotAt k s with pending := false, homeFault := true } s
  programDone (refuse req .flashFault s)

/-- KEY_FIX_COMPLETE (R139; log 8). -/
def keyFixComplete (verified : Bool) (s : State) : State :=
  match s.mfc.flash with
  | .programming (.record (.keyFix req k key)) seq =>
    if verified then fixVerified req k key seq s else fixFailed req k s
  | _ => s

/-- KEY_FIX_COMPLETE. -/
def execKeyFixComplete (verified : Bool) (s : State) : Host.Outcome State Fault Refusal :=
  .next (keyFixComplete verified s)

/-! ## ERASE_KEY -/

/-- ERASE_KEY at the SRB: a LOADED slot becomes EMPTY at once; for a FIXED one an erased key record program is presented
and the reply withheld (R137, R140). -/
def eraseKey (req : Request) (s : State) : State :=
  match keyDoor req (parseSlotOnly req.body) s with
  | .error st => refuse req st s
  | .ok k =>
    match (slotAt k s).state with
    | .empty => refuse req .refusedState s
    | .loaded key =>
      if isStation req.master key.loader then reply req .ok .empty (setSlot k { slotAt k s with state := .empty } s)
      else refuse req .refusedOrigin s
    | .fixed _ =>
      if s.srb.stage.stage = .rework then
        presentProgram (.keyErase req k) (setSlot k { slotAt k s with pending := true } s)
      else refuse req .refusedStage s

/-- ERASE_KEY. -/
def execEraseKey (m : Master) (s : State) : Host.Outcome State Fault Refusal :=
  .next (serve .eraseKey m eraseKey s)

/-- An erase has completed: the slot is EMPTY, verified or not (R140). -/
def eraseDone (req : Request) (k : Fin 12) (verified : Bool) (seq : BitVec 32) (s : State) : State :=
  let s := setKeyHome k (if verified then .holds { slot := k.val, key := none, seq := seq } else .failing) s
  let s := setSlot k { state := .empty, pending := false, homeFault := !verified } s
  programDone (reply req (if verified then .ok else .flashFault) .empty s)

/-- KEY_ERASE_COMPLETE (R140; log 8). -/
def keyEraseComplete (verified : Bool) (s : State) : State :=
  match s.mfc.flash with
  | .programming (.record (.keyErase req k)) seq => eraseDone req k verified seq s
  | _ => s

/-- KEY_ERASE_COMPLETE. -/
def execKeyEraseComplete (verified : Bool) (s : State) : Host.Outcome State Fault Refusal :=
  .next (keyEraseComplete verified s)

/-! ## CHECK_KEY and RELEASE_KEY -/

/-- CHECK_KEY at the SRB, for any master in every stage (R141). -/
def checkKey (req : Request) (s : State) : State :=
  match parseSlotOnly req.body with
  | none => refuse req .badArg s
  | some k => reply req .ok (.keyChecked k (slotAt k s)) s

/-- CHECK_KEY. -/
def execCheckKey (m : Master) (s : State) : Host.Outcome State Fault Refusal :=
  .next (serve .checkKey m checkKey s)

/-- The classes whose keys may be released (R142). -/
def releasable : KeyClass → Bool
  | .identity | .content => true
  | .service | .pairing => false

/-- RELEASE_KEY at the SRB (R142). -/
def releaseKey (req : Request) (s : State) : State :=
  if req.master != .system then refuse req .refusedOrigin s
  else
    match parseSlotOnly req.body with
    | none => refuse req .badArg s
    | some k =>
      if !stageAdmits closedStage s then refuse req .refusedStage s
      else
        match (slotAt k s).state with
        | .fixed key =>
          if releasable key.cls then
            reply req .ok (.keyReleased k key.cls key.material.length key.check key.material) s
          else refuse req .refusedState s
        | .empty | .loaded _ => refuse req .refusedState s

/-- RELEASE_KEY. -/
def execReleaseKey (m : Master) (s : State) : Host.Outcome State Fault Refusal :=
  .next (serve .releaseKey m releaseKey s)

end Sys2Proof.Machine
end

