-- ==== Sys2Proof/Machine/Records.lean ====
section
/-! DEFINITION. The region and label records and their reservations (sections 7.2 to 7.4). -/

namespace Sys2Proof.Machine

open Sys2Proof

/-! ## The reservation table -/

/-- The entry of a master in the reservation table; PANEL has none (R146). -/
def reserveIndex : Master → Option (Fin 5)
  | .station i => some ⟨i.val, by omega⟩
  | .system => some 4
  | .panel => none

/-- A master's reservation. -/
def reservationOf (m : Master) (s : State) : Option (Target × BitVec 16) :=
  match reserveIndex m with
  | some i => s.srb.reserve[i]
  | none => none

/-- A master's entry takes a content. -/
def setReservation (m : Master) (r : Option (Target × BitVec 16)) (s : State) : State :=
  match reserveIndex m with
  | some i => s.setSrb { s.srb with reserve := s.srb.reserve.set i r }
  | none => s

/-- An entry names a target. -/
def namesTarget (t : Target) (r : Option (Target × BitVec 16)) : Bool :=
  match r with
  | some x => x.1 == t
  | none => false

/-- Every entry that names a target is cleared (R146, R150). -/
def clearTarget (t : Target) (s : State) : State :=
  s.setSrb { s.srb with
    reserve := Vector.ofFn fun i : Fin 5 => if namesTarget t s.srb.reserve[i] then none else s.srb.reserve[i] }

/-! ## The two records -/

/-- The region record takes a content. -/
def setRegion (r : SetRecord RegionFields) (s : State) : State :=
  s.setSrb { s.srb with region := r }

/-- The label record takes a content. -/
def setLabel (r : SetRecord LabelFields) (s : State) : State :=
  s.setSrb { s.srb with label := r }

/-- A record whose program has verified (items 1 to 3 of R150). -/
def writtenRecord {α : Type} (content : α) (r : SetRecord α) : SetRecord α :=
  { content := some content, version := r.version + 1, committed := true, pending := false, homeFault := false }

/-- A record whose program has failed to verify (items 1 and 2 of R151). -/
def failedRecord {α : Type} (r : SetRecord α) : SetRecord α :=
  { r with pending := false, homeFault := true }

/-! ## Reads -/

/-- A read with reserve sets the requester's entry (R147). -/
def reserveIf (flag : Bool) (m : Master) (t : Target) (v : BitVec 16) (s : State) : State :=
  if flag then setReservation m (some (t, v)) s else s

/-- READ_REGION at the SRB (R147). -/
def readRegion (req : Request) (s : State) : State :=
  match parseReserve req.body with
  | none => refuse req .badArg s
  | some flag =>
    reply req .ok (.region s.srb.region) (reserveIf flag req.master .region s.srb.region.version s)

/-- READ_REGION. -/
def execReadRegion (m : Master) (s : State) : Host.Outcome State Fault Refusal :=
  .next (serve .readRegion m readRegion s)

/-- READ_LABEL at the SRB (R147). -/
def readLabel (req : Request) (s : State) : State :=
  match parseReserve req.body with
  | none => refuse req .badArg s
  | some flag =>
    reply req .ok (.label s.srb.label) (reserveIf flag req.master .label s.srb.label.version s)

/-- READ_LABEL. -/
def execReadLabel (m : Master) (s : State) : Host.Outcome State Fault Refusal :=
  .next (serve .readLabel m readLabel s)

/-! ## Writes -/

/-- Check 1 of R148. -/
def recordsOrSystem (m : Master) (s : State) : Bool :=
  stationWith .records m s || m == .system

/-- Check 2 of R148 for WRITE_REGION: SYSTEM is admitted in every stage. -/
def regionStage (m : Master) (s : State) : Bool :=
  m == .system || stageAdmits lineStage s

/-- The reservation check (R149). -/
def reservationHolds (m : Master) (t : Target) (v : BitVec 16) (s : State) : Bool :=
  reservationOf m s == some (t, v)

/-- A failed reservation check clears the requester's entry, whichever target it named (R149). -/
def loseReservation (req : Request) (s : State) : State :=
  refuse req .reservationLost (setReservation req.master none s)

/-- WRITE_REGION at the SRB (R148, R149). -/
def writeRegion (req : Request) (s : State) : State :=
  let r := s.srb.region
  if !recordsOrSystem req.master s then refuse req .refusedOrigin s
  else if !regionStage req.master s then refuse req .refusedStage s
  else
    match parseRegion req.body with
    | none => refuse req .badArg s
    | some content =>
      if !reservationHolds req.master .region r.version s then loseReservation req s
      else if r.pending then refuse req .busy s
      else presentProgram (.region req content (r.version + 1)) (setRegion { r with pending := true } s)

/-- WRITE_REGION. -/
def execWriteRegion (m : Master) (s : State) : Host.Outcome State Fault Refusal :=
  .next (serve .writeRegion m writeRegion s)

/-- WRITE_LABEL at the SRB (R148, R149). -/
def writeLabel (req : Request) (s : State) : State :=
  let r := s.srb.label
  if !recordsOrSystem req.master s then refuse req .refusedOrigin s
  else if !stageAdmits lineStage s then refuse req .refusedStage s
  else
    match parseLabel req.body with
    | none => refuse req .badArg s
    | some content =>
      if !reservationHolds req.master .label r.version s then loseReservation req s
      else if r.pending then refuse req .busy s
      else presentProgram (.label req content (r.version + 1)) (setLabel { r with pending := true } s)

/-- WRITE_LABEL. -/
def execWriteLabel (m : Master) (s : State) : Host.Outcome State Fault Refusal :=
  .next (serve .writeLabel m writeLabel s)

/-! ## RECORD_WRITE_COMPLETE -/

/-- The region home takes a content. -/
def setRegionHome (h : Home (StoredRecord RegionFields)) (s : State) : State :=
  s.setHomes { s.homes with region := h }

/-- The label home takes a content. -/
def setLabelHome (h : Home (StoredRecord LabelFields)) (s : State) : State :=
  s.setHomes { s.homes with label := h }

/-- A region program has completed (R150, R151). -/
def regionDone (req : Request) (content : RegionFields) (version : BitVec 16) (seq : BitVec 32) (verified : Bool)
    (s : State) : State :=
  if verified then
    let s := setRegionHome (.holds { content := content, version := version, seq := seq }) s
    let s := clearTarget .region (setRegion (writtenRecord content s.srb.region) s)
    programDone (reply req .ok (.version s.srb.region.version) s)
  else
    let s := setRegion (failedRecord s.srb.region) (setRegionHome .failing s)
    programDone (refuse req .flashFault (setReservation req.master none s))

/-- A label program has completed (R150, R151). -/
def labelDone (req : Request) (content : LabelFields) (version : BitVec 16) (seq : BitVec 32) (verified : Bool)
    (s : State) : State :=
  if verified then
    let s := setLabelHome (.holds { content := content, version := version, seq := seq }) s
    let s := clearTarget .label (setLabel (writtenRecord content s.srb.label) s)
    programDone (reply req .ok (.version s.srb.label.version) s)
  else
    let s := setLabel (failedRecord s.srb.label) (setLabelHome .failing s)
    programDone (refuse req .flashFault (setReservation req.master none s))

/-- RECORD_WRITE_COMPLETE (R150, R151; log 8). -/
def recordWriteComplete (verified : Bool) (s : State) : State :=
  match s.mfc.flash with
  | .programming (.record (.region req content version)) seq => regionDone req content version seq verified s
  | .programming (.record (.label req content version)) seq => labelDone req content version seq verified s
  | _ => s

/-- RECORD_WRITE_COMPLETE. -/
def execRecordWriteComplete (verified : Bool) (s : State) : Host.Outcome State Fault Refusal :=
  .next (recordWriteComplete verified s)

end Sys2Proof.Machine
end

