-- ==== Sys2Proof/Machine/Stage.lean ====
section
/-! DEFINITION. The commissioning stage: the four items, STAGE_QUERY, CLOSE_SET, REOPEN_SET and their completions
(chapter 8). -/

namespace Sys2Proof.Machine

open Sys2Proof

/-! ## Items (R157) -/

/-- The MAP item is present. -/
def mapPresent (h : Header) : Bool :=
  h.committed && h.converged && !h.mixed && h.faulty == 0

/-- A slot counts for the KEYS item: FIXED with program pending clear. -/
def slotCounts (x : KeySlot) : Bool :=
  match x.state with
  | .fixed _ => !x.pending
  | .empty | .loaded _ => false

/-- The required slots that do not count. -/
def missingSlots (s : State) : List (Fin 12) :=
  (List.finRange 12).filter fun k => s.config.required.getLsbD k.val && !slotCounts (slotAt k s)

/-- The KEYS item is present. -/
def keysPresent (s : State) : Bool :=
  (missingSlots s).isEmpty

/-- The REGION item is present. -/
def regionPresent (s : State) : Bool :=
  s.srb.region.committed

/-- The LABEL item is present. -/
def labelPresent (s : State) : Bool :=
  s.srb.label.committed

/-- The missing items, each with its detail (R159). -/
def missingItems (s : State) : List MissingItem :=
  let h := s.mfc.header
  let region := s.srb.region
  let label := s.srb.label
  (if mapPresent h then [] else [.map (!h.committed) (!h.converged) h.mixed (h.faulty != 0) h.faulty]) ++
  (if keysPresent s then [] else
    [.keys ((missingSlots s).map fun k => (k.val, slotStateCode (slotAt k s).state))]) ++
  (if regionPresent s then [] else [.region region.version region.pending region.homeFault]) ++
  (if labelPresent s then [] else [.label label.version label.pending label.homeFault])

/-- The stage record changes. -/
def setStage (r : StageRec) (s : State) : State :=
  s.setSrb { s.srb with stage := r }

/-- The stage home takes a content. -/
def setStageHome (h : Home StageRecord) (s : State) : State :=
  s.setHomes { s.homes with stage := h }

/-! ## STAGE_QUERY -/

/-- What STAGE_QUERY gives (R164). -/
def stageView (s : State) : StageView :=
  let r := s.srb.stage
  { stage := r.stage, program := r.program, closeCount := r.closeCount, reopenCount := r.reopenCount,
    reopenLimit := s.config.reopenLimit, homeFault := r.homeFault, demoted := r.demoted, missing := missingItems s,
    faulty := s.mfc.header.faulty }

/-- STAGE_QUERY at the SRB, for any master in every stage (R164). -/
def stageQuery (req : Request) (s : State) : State :=
  if !noArguments req.body then refuse req .badArg s
  else reply req .ok (.stage (stageView s)) s

/-- STAGE_QUERY. -/
def execStageQuery (m : Master) (s : State) : Host.Outcome State Fault Refusal :=
  .next (serve .stageQuery m stageQuery s)

/-! ## CLOSE_SET -/

/-- An ACCESS operation is a WRITE_TILE. -/
def isWriteOp (o : AccessOp) : Bool :=
  match o.kind with
  | .write _ _ => true
  | .read => false

/-- A WRITE_TILE has been taken and its reply is not yet formed: it is on its way to the TLC or presented there (check 4
of R159; log 24). -/
def writeTaken (s : State) : Bool :=
  s.tlc.access.any isWriteOp || s.inbox.any fun r => r.kind == .writeTile

/-- The map is busy: a job box is RUNNING, or a WRITE_TILE is taken (check 4 of R159). -/
def mapBusy (s : State) : Bool :=
  s.jobs.running.isSome || writeTaken s

/-- A CLOSE_SET is taken: its program is presented and the reply withheld (R159). -/
def takeClose (req : Request) (s : State) : State :=
  let r := s.srb.stage
  presentProgram (.close req (min (r.closeCount + 1) 255) r.reopenCount) (setStage { r with program := .closing } s)

/-- CLOSE_SET at the SRB (R159, R161; log 11). -/
def closeSet (req : Request) (s : State) : State :=
  if !stationWith .stage req.master s then refuse req .refusedOrigin s
  else if !lineStage s.srb.stage.stage then refuse req .refusedStage s
  else if !noArguments req.body then refuse req .badArg s
  else if s.srb.stage.program ≠ .none then refuse req .busy s
  else if mapBusy s then refuse req .busy s
  else if (missingItems s).isEmpty then takeClose req s
  else reply req .notReady (.missing (missingItems s)) s

/-- CLOSE_SET. -/
def execCloseSet (m : Master) (s : State) : Host.Outcome State Fault Refusal :=
  .next (serve .closeSet m closeSet s)

/-- A close has verified (R160). -/
def closeVerified (req : Request) (c r : Nat) (seq : BitVec 32) (s : State) : State :=
  let s := setStageHome (.holds { stage := .closed, closeCount := c, reopenCount := r, seq := seq }) s
  let s := setStage
    { s.srb.stage with stage := .closed, closeCount := c, program := .none, homeFault := false, demoted := false } s
  programDone (reply req .ok (.stageCounts c s.srb.stage.reopenCount) (raise .stageChanged s))

/-- A stage program has failed to verify (R160, R163). -/
def stageFailed (req : Request) (s : State) : State :=
  let s := setStageHome .failing s
  let s := setStage { s.srb.stage with program := .none, homeFault := true } s
  programDone (refuse req .flashFault s)

/-- CLOSE_PROGRAM_COMPLETE (R160; log 8). -/
def closeProgramComplete (verified : Bool) (s : State) : State :=
  match s.mfc.flash with
  | .programming (.record (.close req c r)) seq =>
    if verified then closeVerified req c r seq s else stageFailed req s
  | _ => s

/-- CLOSE_PROGRAM_COMPLETE. -/
def execCloseProgramComplete (verified : Bool) (s : State) : Host.Outcome State Fault Refusal :=
  .next (closeProgramComplete verified s)

/-! ## REOPEN_SET -/

/-- A REOPEN_SET is taken: its program is presented and the reply withheld (R163). -/
def takeReopen (req : Request) (s : State) : State :=
  let r := s.srb.stage
  presentProgram (.reopen req r.closeCount (r.reopenCount + 1)) (setStage { r with program := .reopening } s)

/-- REOPEN_SET at the SRB (R161, R163; log 11). -/
def reopenSet (req : Request) (s : State) : State :=
  if !stationWith .stage req.master s then refuse req .refusedOrigin s
  else if !closedStage s.srb.stage.stage then refuse req .refusedStage s
  else if !noArguments req.body then refuse req .badArg s
  else if s.srb.stage.program ≠ .none then refuse req .busy s
  else if s.config.reopenLimit ≤ s.srb.stage.reopenCount then refuse req .refusedLimit s
  else takeReopen req s

/-- REOPEN_SET. -/
def execReopenSet (m : Master) (s : State) : Host.Outcome State Fault Refusal :=
  .next (serve .reopenSet m reopenSet s)

/-- A reopen has verified (R163). -/
def reopenVerified (req : Request) (c r : Nat) (seq : BitVec 32) (s : State) : State :=
  let s := setStageHome (.holds { stage := .rework, closeCount := c, reopenCount := r, seq := seq }) s
  let s := setStage { s.srb.stage with stage := .rework, reopenCount := r, program := .none, homeFault := false } s
  programDone (reply req .ok (.stageCounts s.srb.stage.closeCount r) (raise .stageChanged s))

/-- REOPEN_PROGRAM_COMPLETE (R163; log 8). -/
def reopenProgramComplete (verified : Bool) (s : State) : State :=
  match s.mfc.flash with
  | .programming (.record (.reopen req c r)) seq =>
    if verified then reopenVerified req c r seq s else stageFailed req s
  | _ => s

/-- REOPEN_PROGRAM_COMPLETE. -/
def execReopenProgramComplete (verified : Bool) (s : State) : Host.Outcome State Fault Refusal :=
  .next (reopenProgramComplete verified s)

end Sys2Proof.Machine
end

