-- ==== Sys2Proof/Machine/Boot.lean ====
section
/-! DEFINITION. Power-on, the RESET pin and start-up (R93, R113, R114, R153, R154, R156, R182, R188). -/

namespace Sys2Proof.Machine

open Sys2Proof

/-! ## Resets -/

/-- The home of a record program fails its check after the program is interrupted (R93, R98). -/
def failRecordHome (p : RecordProgram) (h : Homes) : Homes :=
  match p with
  | .keyFix _ k _ => { h with key := h.key.set k .failing }
  | .keyErase _ k => { h with key := h.key.set k .failing }
  | .region _ _ _ => { h with region := .failing }
  | .label _ _ _ => { h with label := .failing }
  | .close _ _ _ => { h with stage := .failing }
  | .reopen _ _ _ => { h with stage := .failing }
  | .config _ _ => { h with config := .failing }
  | .header => { h with header := .failing }

/-- The homes after the operation granted to the flash is ended without a completion (R93, R98). -/
def grantedHomes (f : FlashState) (h : Homes) : Homes :=
  match f with
  | .idle | .readingFill _ _ | .readingHeader => h
  | .programming (.record p) _ => failRecordHome p h
  | .programming (.header _) _ => { h with header := .failing }
  | .programming (.uncommit _) _ => { h with header := .failing }
  | .programming (.tile c .own) _ => { h with tile := h.tile.set c.tile .failing }
  | .programming (.tile _ (.spare k)) _ => { h with spare := h.spare.set k .failing }

/-- A record program that is in flight from the step that presents it: a close or a reopen, which is CLOSING or REOPENING
from that step (R155, R159, R162, R163), and a commit's header, after whose presentation a reset leaves the header home
failing its check (R112). Any other is in flight from its grant, and leaves its home as it stood before (R98; log 38). -/
def inFlightPresented : RecordProgram → Bool
  | .close _ _ _ | .reopen _ _ _ | .header => true
  | .keyFix _ _ _ | .keyErase _ _ | .region _ _ _ | .label _ _ _ | .config _ _ => false

/-- The homes after a reset has ended what was in flight: the granted operation, and the presented programs that are in
flight with it (R93, R98, R112, R155). -/
def interruptedHomes (m : Mfc) (h : Homes) : Homes :=
  (m.programs.filter inFlightPresented).foldl (fun h p => failRecordHome p h) (grantedHomes m.flash h)

/-- Every block takes its reset values; the flash array, the model's bookkeeping and the queue of commands go on (R182
and the reset rules of each block; log 1, log 27). -/
def resetPart (phase : BootPhase) (s : State) : State :=
  { State.reset with
    boot := { phase := phase, maxSeq := none }, homes := interruptedHomes s.mfc s.homes, book := s.book,
    pending := s.pending }

/-- POWER_ON (R182). -/
def execPowerOn (s : State) : Host.Outcome State Fault Refusal :=
  .next (resetPart .config s)

/-- RESET_ASSERT: a start-up in progress is abandoned (R182). -/
def execResetAssert (s : State) : Host.Outcome State Fault Refusal :=
  .next (resetPart .held s)

/-- Start-up moves on. -/
def setPhase (p : BootPhase) (s : State) : State :=
  s.setBoot { s.boot with phase := p }

/-- RESET_RELEASE: start-up begins from the config read (R182). -/
def resetRelease (s : State) : State :=
  match s.boot.phase with
  | .held => setPhase .config s
  | _ => s

/-- RESET_RELEASE. -/
def execResetRelease (s : State) : Host.Outcome State Fault Refusal :=
  .next (resetRelease s)

/-! ## The program sequence (R96, R114) -/

/-- The higher of the highest sequence so far and another. -/
def maxSequence (m : Option (BitVec 32)) (seq : BitVec 32) : BitVec 32 :=
  match m with
  | none => seq
  | some x => if x.toNat < seq.toNat then seq else x

/-- A record read at start-up has passed its check: its sequence is considered (R96). -/
def noteSequence (seq : BitVec 32) (s : State) : State :=
  s.setBoot { s.boot with maxSeq := some (maxSequence s.boot.maxSeq seq) }

/-- The counter's value when every read is done (R96). -/
def firstSequence (m : Option (BitVec 32)) : BitVec 32 :=
  match m with
  | none => 1
  | some x => x + 1

/-! ## STARTUP_CONFIG_READ -/

/-- A config record passes its check (R188). -/
def configPasses (r : ConfigRecord) : Bool :=
  r.signed && decide (r.config.reopenLimit ≤ 15)

/-- The default configuration is taken (R188). -/
def defaultConfig (s : State) : State :=
  raise .configDefaulted (s.setConfig Config.defaults)

/-- The config home's content gives the live configuration (R188). -/
def loadConfig (s : State) : State :=
  match s.homes.config with
  | .holds r => if configPasses r then noteSequence r.seq (s.setConfig r.config) else defaultConfig s
  | .erased | .failing => defaultConfig s

/-- STARTUP_CONFIG_READ: the first read of start-up (R182, R188). -/
def startupConfigRead (s : State) : State :=
  match s.boot.phase with
  | .config => setPhase (.spare 0) (loadConfig s)
  | _ => s

/-- STARTUP_CONFIG_READ. -/
def execStartupConfigRead (s : State) : Host.Outcome State Fault Refusal :=
  .next (startupConfigRead s)

/-! ## SPARE_SCAN -/

/-- The program sequence of the record in a spare home; 0 where there is none, which a MAPPED spare is not. -/
def spareSequence (k : Fin 24) (s : State) : BitVec 32 :=
  match s.homes.spare[k] with
  | .holds r => r.seq
  | .erased | .failing => 0

/-- The spare that is MAPPED for a tile. -/
def claimant (t : TileNo) (s : State) : Option (Fin 24) :=
  (List.finRange 24).find? fun k => s.mfc.spares[k] == .mapped t

/-- A spare claims a tile: the claimant with the highest program sequence is MAPPED and the others are DEAD (R113;
log 21). -/
def claimTile (k : Fin 24) (t : TileNo) (seq : BitVec 32) (s : State) : State :=
  match claimant t s with
  | none => setSpare k (.mapped t) s
  | some j =>
    if (spareSequence j s).toNat < seq.toNat then setSpare k (.mapped t) (setSpare j .dead s) else setSpare k .dead s

/-- The content of a spare home gives its spare state (R113). -/
def scanSpare (k : Fin 24) (s : State) : State :=
  match s.homes.spare[k] with
  | .erased => setSpare k .unused s
  | .failing => setSpare k .dead s
  | .holds r =>
    if codeAgrees r.tile r.values r.code then claimTile k r.tile r.seq (noteSequence r.seq s) else setSpare k .dead s

/-- The read after the read of spare `k`. -/
def afterSpare (k : Fin 24) : BootPhase :=
  if h : k.val + 1 < 24 then .spare ⟨k.val + 1, h⟩ else .header

/-- SPARE_SCAN: the read of one spare home (R113, R182). -/
def spareScan (s : State) : State :=
  match s.boot.phase with
  | .spare k => setPhase (afterSpare k) (scanSpare k s)
  | _ => s

/-- SPARE_SCAN. -/
def execSpareScan (s : State) : Host.Outcome State Fault Refusal :=
  .next (spareScan s)

/-! ## HEADER_LOAD -/

/-- A header that passes its check becomes the working header (R114). -/
def loadHeader (r : HeaderRecord) (s : State) : State :=
  noteSequence r.seq
    (s.setMfc
      { s.mfc with
        header := { generation := r.generation, passCount := r.passCount, codes := r.codes, committed := r.committed,
                    converged := r.converged, mixed := r.mixed, faulty := 0 },
        marker := r.committed })

/-- The header is lost (R114). -/
def headerLost (s : State) : State :=
  raise .mapHeaderLost (s.setMfc { s.mfc with header := .lost, marker := false })

/-- HEADER_LOAD (R114, R182). -/
def headerLoad (s : State) : State :=
  match s.boot.phase with
  | .header =>
    setPhase (.key 0)
      (match s.homes.header with
       | .holds r => if r.signed then loadHeader r s else headerLost s
       | .erased | .failing => headerLost s)
  | _ => s

/-- HEADER_LOAD. -/
def execHeaderLoad (s : State) : Host.Outcome State Fault Refusal :=
  .next (headerLoad s)

/-! ## KEY_HOME_LOAD -/

/-- A key record passes its check: its slot is the home's, its length fits, and its check value is the CRC of its material
(R136, R153). -/
def keyRecordPasses (k : Fin 12) (r : KeyRecord) : Bool :=
  r.slot == k.val &&
    match r.key with
    | none => true
    | some key => keyLengthFits key.material.length && key.check == crc32 key.material

/-- The slot that a passing record gives (R153). -/
def recordSlot (r : KeyRecord) : SlotState :=
  match r.key with
  | some key => .fixed key
  | none => .empty

/-- The content of a key home gives its slot (R153). -/
def loadKeyHome (k : Fin 12) (s : State) : State :=
  match s.homes.key[k] with
  | .erased => setSlot k { state := .empty, pending := false, homeFault := false } s
  | .failing => setSlot k { state := .empty, pending := false, homeFault := true } s
  | .holds r =>
    if keyRecordPasses k r then
      noteSequence r.seq (setSlot k { state := recordSlot r, pending := false, homeFault := false } s)
    else setSlot k { state := .empty, pending := false, homeFault := true } s

/-- The read after the read of key home `k`. -/
def afterKey (k : Fin 12) : BootPhase :=
  if h : k.val + 1 < 12 then .key ⟨k.val + 1, h⟩ else .region

/-- KEY_HOME_LOAD: the read of one key home (R153, R182). -/
def keyHomeLoad (s : State) : State :=
  match s.boot.phase with
  | .key k => setPhase (afterKey k) (loadKeyHome k s)
  | _ => s

/-- KEY_HOME_LOAD. -/
def execKeyHomeLoad (s : State) : Host.Outcome State Fault Refusal :=
  .next (keyHomeLoad s)

/-! ## REGION_LABEL_LOAD -/

/-- A record as start-up loads it from its home (R154). -/
def loadedRecord {α : Type} (fits : α → Bool) (h : Home (StoredRecord α)) : SetRecord α :=
  let blank : SetRecord α := .blank α
  match h with
  | .erased => blank
  | .failing => { blank with homeFault := true }
  | .holds r =>
    if fits r.content then
      { content := some r.content, version := r.version, committed := true, pending := false, homeFault := false }
    else { blank with homeFault := true }

/-- The sequence of a passing region or label record is considered (R96, R154). -/
def noteStored {α : Type} (fits : α → Bool) (h : Home (StoredRecord α)) (s : State) : State :=
  match h with
  | .holds r => if fits r.content then noteSequence r.seq s else s
  | .erased | .failing => s

/-- REGION_LABEL_LOAD: the read of the region home, then of the label home (R154, R182). -/
def regionLabelLoad (s : State) : State :=
  match s.boot.phase with
  | .region =>
    setPhase .label
      (noteStored regionFits s.homes.region (setRegion (loadedRecord regionFits s.homes.region) s))
  | .label =>
    setPhase .stage (noteStored labelFits s.homes.label (setLabel (loadedRecord labelFits s.homes.label) s))
  | _ => s

/-- REGION_LABEL_LOAD. -/
def execRegionLabelLoad (s : State) : Host.Outcome State Fault Refusal :=
  .next (regionLabelLoad s)

/-! ## STAGE_LOAD -/

/-- A stage record passes its check (R155). -/
def stagePasses (r : StageRecord) : Bool :=
  decide (r.reopenCount ≤ 15)

/-- Items KEYS, REGION and LABEL are present (R156). -/
def itemsSurvive (s : State) : Bool :=
  keysPresent s && regionPresent s && labelPresent s

/-- A stage record that passes its check is loaded, or demoted when it says CLOSED and an item is missing (R156). -/
def loadStage (r : StageRecord) (s : State) : State :=
  let s := noteSequence r.seq s
  let live : StageRec :=
    { stage := r.stage, closeCount := r.closeCount, reopenCount := r.reopenCount, program := .none, homeFault := false,
      demoted := false }
  if r.stage = .closed ∧ itemsSurvive s = false then
    raise .stageChanged (setStage { live with stage := .rework, demoted := true } s)
  else setStage live s

/-- A stage home that fails its check (R156). -/
def stageLost (s : State) : State :=
  raise .stageChanged
    (setStage { stage := .rework, closeCount := 0, reopenCount := s.config.reopenLimit, program := .none,
                homeFault := true, demoted := false } s)

/-- The content of the stage home gives the stage (R156). -/
def loadStageHome (s : State) : State :=
  match s.homes.stage with
  | .erased => setStage .reset s
  | .failing => stageLost s
  | .holds r => if stagePasses r then loadStage r s else stageLost s

/-- The program sequence counter is set and start-up is done (R96, R182). -/
def finishStartup (s : State) : State :=
  setPhase .done (s.setMfc { s.mfc with seq := firstSequence s.boot.maxSeq })

/-- STAGE_LOAD: the last read of start-up (R156, R182). -/
def stageLoad (s : State) : State :=
  match s.boot.phase with
  | .stage => finishStartup (loadStageHome s)
  | _ => s

/-- STAGE_LOAD. -/
def execStageLoad (s : State) : Host.Outcome State Fault Refusal :=
  .next (stageLoad s)

end Sys2Proof.Machine
end

