-- ==== Sys2Proof/Machine/Capture.lean ====
section
/-! DEFINITION. Measurement capture: OPEN_CAPTURE, PUT_ROW, DISCARD_CAPTURE, CAPTURE_STATE (chapter 2). -/

namespace Sys2Proof.Machine

open Sys2Proof

/-- The place of a row in the row presence table. -/
def rowIndex (plane channel y : Nat) : Nat :=
  (plane * 3 + channel) * 28 + y

/-- The entry of a row, absent when the row is not present. -/
def rowAt (plane channel y : Nat) (cap : Cap) : Option Row :=
  (cap.rows[rowIndex plane channel y]?).join

/-- The flag of a channel in a mask; a channel number above 2 is never in it (R36). -/
def maskHas (mask : Vector Bool 3) (c : Nat) : Bool :=
  (mask[c]?).getD false

/-- The channels of a shape, in ascending number. -/
def shapeChannels (sh : Shape) : List Nat :=
  (List.range 3).filter fun c => maskHas sh.mask c

/-- The entries of the row presence table, by plane, then channel, then row (R41). -/
def tableRows (sh : Shape) : List RowPlace :=
  (List.range sh.codes.length).flatMap fun p =>
    (shapeChannels sh).flatMap fun c => (List.range 28).map fun y => { plane := p, channel := c, y := y }

/-- The total row count: P x m x 28 (R30). -/
def totalRows (sh : Shape) : Nat :=
  sh.codes.length * (shapeChannels sh).length * 28

/-- The present row count (R30). -/
def presentRows (cap : Cap) : Nat :=
  cap.rows.toList.countP fun r => r.isSome

/-- The number of entries whose duplicate count is above 0 (R41). -/
def replacedRows (cap : Cap) : Nat :=
  cap.rows.toList.countP fun r => match r with | some x => decide (0 < x.dup) | none => false

/-- The requester is the capture owner. -/
def ownsCapture (m : Master) (s : State) : Bool :=
  match m, s.cap.owner with
  | .station i, some o => i == o
  | _, _ => false

/-- OPEN_CAPTURE at the CAP (R32, R33, R34). -/
def openCapture (req : Request) (s : State) : State :=
  if !stationWith .capture req.master s then refuse req .refusedOrigin s
  else if !stageAdmits lineStage s then refuse req .refusedStage s
  else if s.cap.state == .locked then refuse req .busy s
  else
    match parseShape req.body, req.master with
    | some sh, .station i =>
      let number := s.cap.number + 1
      reply req .ok (.opened number (totalRows sh) s.cap.state s.cap.owner)
        (s.setCap { state := .opened, owner := some i, number := number, shape := some sh,
                    rows := Vector.replicate 336 none })
    | _, _ => refuse req .badArg s

/-- OPEN_CAPTURE. -/
def execOpenCapture (m : Master) (s : State) : Host.Outcome State Fault Refusal :=
  .next (serve .openCapture m openCapture s)

/-- The row of a PUT_ROW lies in the capture's shape (R36). -/
def rowFits (a : RowArgs) (sh : Shape) : Bool :=
  decide (a.plane < sh.codes.length) && maskHas sh.mask a.channel && decide (a.y ≤ 27)

/-- A row is stored: its values whole, the duplicate count raised when it was present, and the capture COMPLETE when its
last absent entry becomes present (R37, R38). -/
def storeRow (a : RowArgs) (sh : Shape) (cap : Cap) : Cap :=
  let dup := match rowAt a.plane a.channel a.y cap with
    | some old => min (old.dup + 1) 255
    | none => 0
  let cap := { cap with rows := cap.rows.setIfInBounds (rowIndex a.plane a.channel a.y)
                                  (some { dup := dup, values := a.values }) }
  if cap.state == .opened && presentRows cap == totalRows sh then { cap with state := .complete } else cap

/-- The reply of a PUT_ROW (R37). -/
def rowReply (a : RowArgs) (cap : Cap) : ReplyBody :=
  .rowStored (match rowAt a.plane a.channel a.y cap with | some r => r.dup | none => 0)
    (a.values.toList.countP fun v => v == Config.saturated) (presentRows cap) cap.state

/-- PUT_ROW at the CAP (R32, R35 to R38). -/
def putRow (req : Request) (s : State) : State :=
  if !(stationWith .capture req.master s && ownsCapture req.master s) then refuse req .refusedOrigin s
  else if !stageAdmits lineStage s then refuse req .refusedStage s
  else
    match s.cap.state with
    | .locked => refuse req .busy s
    | .empty | .consumed => refuse req .refusedState s
    | .opened | .complete =>
      match parseRow req.body, s.cap.shape with
      | some a, some sh =>
        if rowFits a sh then
          let cap := storeRow a sh s.cap
          reply req .ok (rowReply a cap) (s.setCap cap)
        else refuse req .badArg s
      | _, _ => refuse req .badArg s

/-- PUT_ROW. -/
def execPutRow (m : Master) (s : State) : Host.Outcome State Fault Refusal :=
  .next (serve .putRow m putRow s)

/-- DISCARD_CAPTURE at the CAP (R32, R40). -/
def discardCapture (req : Request) (s : State) : State :=
  if !(stationWith .capture req.master s && ownsCapture req.master s) then refuse req .refusedOrigin s
  else if !stageAdmits lineStage s then refuse req .refusedStage s
  else
    match s.cap.state with
    | .locked => refuse req .busy s
    | .empty => refuse req .refusedState s
    | .opened | .complete | .consumed =>
      if !noArguments req.body then refuse req .badArg s
      else
        reply req .ok (.discarded s.cap.state)
          (s.setCap { state := .empty, owner := none, number := s.cap.number, shape := none,
                      rows := Vector.replicate 336 none })

/-- DISCARD_CAPTURE. -/
def execDiscardCapture (m : Master) (s : State) : Host.Outcome State Fault Refusal :=
  .next (serve .discardCapture m discardCapture s)

/-- The first missing row (R41). -/
def firstMissing (sh : Shape) (cap : Cap) : Option RowPlace :=
  (tableRows sh).find? fun r => (rowAt r.plane r.channel r.y cap).isNone

/-- The summary of the capture (R41). -/
def captureView (cap : Cap) : CaptureView :=
  { state := cap.state, owner := cap.owner, number := cap.number,
    shaped := cap.shape.map fun sh =>
      { shape := sh, present := presentRows cap, total := totalRows sh, firstMissing := firstMissing sh cap,
        replaced := replacedRows cap } }

/-- The presence detail of a plane and channel, absent when they lie outside the shape (R42). -/
def captureDetail (plane channel : Nat) (cap : Cap) : Option (List PresenceEntry) :=
  match cap.shape with
  | none => none
  | some sh =>
    if plane < sh.codes.length ∧ maskHas sh.mask channel = true then
      some ((List.range 28).map fun y =>
        match rowAt plane channel y cap with
        | some r => { y := y, present := true, dup := r.dup }
        | none => { y := y, present := false, dup := 0 })
    else none

/-- CAPTURE_STATE at the CAP (R41, R42). -/
def captureState (req : Request) (s : State) : State :=
  match parseDetail req.body with
  | none => refuse req .badArg s
  | some none => reply req .ok (.capture (captureView s.cap) none) s
  | some (some (p, c)) => reply req .ok (.capture (captureView s.cap) (captureDetail p c s.cap)) s

/-- CAPTURE_STATE. -/
def execCaptureState (m : Master) (s : State) : Host.Outcome State Fault Refusal :=
  .next (serve .captureState m captureState s)

end Sys2Proof.Machine
end

