-- ==== Sys2Proof/Machine/Tiles.lean ====
section
/-! DEFINITION. The direct tile requests, the fill install, way locking, drains and storage faults (chapter 4). -/

namespace Sys2Proof.Machine

open Sys2Proof

/-- Thirty-two zeros. -/
def zeroTile : TileValues :=
  Vector.replicate 32 0

/-! ## READ_TILE -/

/-- A station or SYSTEM; PANEL is refused (R89). -/
def notPanel : Master → Bool
  | .panel => false
  | _ => true

/-- READ_TILE at the TLC: checked, and presented as an ACCESS operation (R89). -/
def readTile (req : Request) (s : State) : State :=
  if !notPanel req.master then refuse req .refusedOrigin s
  else
    match parseTile req.body with
    | none => refuse req .badArg s
    | some t => presentAccess req t .read s

/-- READ_TILE. -/
def execReadTile (m : Master) (s : State) : Host.Outcome State Fault Refusal :=
  .next (serve .readTile m readTile s)

/-- A granted READ_TILE operation: served, found FAULTY, refused, or waiting (R89). -/
def readAccess (o : AccessOp) (s : State) : State :=
  match readTileAt o.tile (grantOther s) with
  | (s, .values _ v) =>
    reply o.req .ok (.tileRead o.tile .ok v) (rise o.req.master .tiles 1 (dropAccess o s))
  | (s, .faulty _) => reply o.req .dataFault (.tileRead o.tile .fault zeroTile) (dropAccess o s)
  | (s, .waits p) => setAccessPhase o p s
  | (s, .refused true) => reply o.req .flashWorn (.tileNamed o.tile) (dropAccess o s)
  | (s, .refused false) => reply o.req .dataFault (.tileRead o.tile .fault zeroTile) (dropAccess o s)

/-- READ_TILE_ACCESS: when the arbiter's next grant is a READ_TILE. -/
def readTileAccess (s : State) : State :=
  match nextGrant s with
  | some (.access o) =>
    match o.kind with
    | .read => readAccess o s
    | .write _ _ => s
  | _ => s

/-- READ_TILE_ACCESS. -/
def execReadTileAccess (s : State) : Host.Outcome State Fault Refusal :=
  .next (readTileAccess s)

/-! ## WRITE_TILE -/

/-- A station holding the MAP role, or SYSTEM (R90, R92). -/
def mapOrSystem (m : Master) (s : State) : Bool :=
  stationWith .map m s || m == .system

/-- The values of a WRITE_TILE with -512 raised to -511 (R90). -/
def raiseLowest (v : TileValues) : TileValues :=
  Vector.ofFn fun k : Fin 32 => if v[k] < -511 then -511 else v[k]

/-- How many values are raised (R90). -/
def clampedCount (v : TileValues) : Nat :=
  v.toList.countP fun x => decide (x < -511)

/-- WRITE_TILE at the TLC: checks 1 to 3 of R90, and presented as an ACCESS operation. -/
def writeTile (req : Request) (s : State) : State :=
  if !mapOrSystem req.master s then refuse req .refusedOrigin s
  else if !stageAdmits lineStage s then refuse req .refusedStage s
  else
    match parseTileWrite req.body with
    | none => refuse req .badArg s
    | some (t, v) => presentAccess req t (.write (raiseLowest v) (clampedCount v)) s

/-- WRITE_TILE. -/
def execWriteTile (m : Master) (s : State) : Host.Outcome State Fault Refusal :=
  .next (serve .writeTile m writeTile s)

/-- A COMMIT_MAP or CLEAR_MAP box is RUNNING (check 4 of R90). -/
def mapJobRunning (s : State) : Bool :=
  match s.jobs.running with
  | some r =>
    match r.work with
    | .clear _ | .commit _ => true
    | .pass _ => false
  | none => false

/-- A WRITE_TILE carried out sets the outside-write flag of a running pass, or clears converged-last-pass (R23, R29, R90). -/
def noteWrite (s : State) : State :=
  match s.jobs.running with
  | some { box := b, work := .pass w } =>
    setRunning (some { box := b, work := .pass { w with outsideWrite := true } }) s
  | _ => setHeader { s.mfc.header with converged := false } s

/-- A granted WRITE_TILE operation (R90). -/
def writeAccess (o : AccessOp) (v : TileValues) (clamped : Nat) (s : State) : State :=
  let s := grantOther s
  if mapJobRunning s then refuse o.req .busy (dropAccess o s)
  else
    match writeTileAt o.tile v s with
    | (s, .written) =>
      reply o.req .ok (.tileWritten o.tile clamped) (rise o.req.master .tiles 1 (noteWrite (dropAccess o s)))
    | (s, .waits p) => setAccessPhase o p s
    | (s, .refused worn) =>
      reply o.req (if worn then .flashWorn else .dataFault) (.tileNamed o.tile) (dropAccess o s)

/-- WRITE_TILE_ACCESS: when the arbiter's next grant is a WRITE_TILE. -/
def writeTileAccess (s : State) : State :=
  match nextGrant s with
  | some (.access o) =>
    match o.kind with
    | .read => s
    | .write v clamped => writeAccess o v clamped s
  | _ => s

/-- WRITE_TILE_ACCESS. -/
def execWriteTileAccess (s : State) : Host.Outcome State Fault Refusal :=
  .next (writeTileAccess s)

/-! ## FILL_INSTALL -/

/-- The way of a tile whose entry is FILLING. -/
def fillingWay (t : TileNo) (s : State) : Option (Fin 8) :=
  (List.finRange 8).find? fun w => entryAt (setOf t) w s == some { tile := t, state := .filling }

/-- A fill result installed in its FILLING entry (R76). -/
def installFill (t : TileNo) (w : Fin 8) (r : FillResult) (s : State) : State :=
  match r with
  | .values v => setEntry (setOf t) w (some { tile := t, state := .clean v (codeOf t v) }) s
  | .erased => setEntry (setOf t) w (some { tile := t, state := .clean zeroTile (codeOf t zeroTile) }) s
  | .failed => loseTile t w s

/-- A granted FILL operation (R76): the head of the fill FIFO is installed, and the operations waiting on its entry, or
for a way of its set, are presented again (R72). -/
def installHead (f : Fill) (rest : List Fill) (s : State) : State :=
  let s := grantOther s
  let s := s.setTlc { s.tlc with fills := rest }
  match fillingWay f.tile s with
  | some w => wakeInstall f.tile (installFill f.tile w f.result s)
  | none => s

/-- FILL_INSTALL: when the arbiter's next grant is FILL. -/
def fillInstall (s : State) : State :=
  match nextGrant s with
  | some (.fill f) => installHead f s.tlc.fills.tail s
  | _ => s

/-- FILL_INSTALL. -/
def execFillInstall (s : State) : Host.Outcome State Fault Refusal :=
  .next (fillInstall s)

/-! ## LOCK_WAYS -/

/-- LOCK_WAYS at the TLC (R80): L takes the count carried; lowering it presents again the operations that wait for an
eligible way (R72). -/
def lockWays (req : Request) (s : State) : State :=
  if !stationWith .map req.master s then refuse req .refusedOrigin s
  else if !stageAdmits lineStage s then refuse req .refusedStage s
  else
    match parseLock req.body with
    | none => refuse req .badArg s
    | some l =>
      let before := s.tlc.lock
      let s := s.setTlc { s.tlc with lock := l }
      reply req .ok (.lockBefore before.val) (if l < before then wakeWays s else s)

/-- LOCK_WAYS. -/
def execLockWays (m : Master) (s : State) : Host.Outcome State Fault Refusal :=
  .next (serve .lockWays m lockWays s)

/-! ## DRAIN -/

/-- The status due to a DRAIN at its taking: FLASH_WORN while WORN, OK at the moment itself, none while it must wait
(R92). -/
def drainDue (s : State) : Option Status :=
  if s.mfc.wear = .worn then some .flashWorn else if drained s then some .ok else none

/-- DRAIN at the TLC: its reply is withheld until its moment (R92). -/
def drain (req : Request) (s : State) : State :=
  if !mapOrSystem req.master s then refuse req .refusedOrigin s
  else if !noArguments req.body then refuse req .badArg s
  else s.setTlc { s.tlc with drains := s.tlc.drains ++ [(req, drainDue s)] }

/-- DRAIN. -/
def execDrain (m : Master) (s : State) : Host.Outcome State Fault Refusal :=
  .next (serve .drain m drain s)

/-- DRAIN_REPLY: the oldest withheld DRAIN whose moment has come is answered with the status due (R92; log 18). -/
def drainReply (s : State) : State :=
  match s.tlc.drains.find? fun d => d.2.isSome with
  | some (req, some st) =>
    reply req st .empty (s.setTlc { s.tlc with drains := s.tlc.drains.erase (req, some st) })
  | _ => s

/-- DRAIN_REPLY. -/
def execDrainReply (s : State) : Host.Outcome State Fault Refusal :=
  .next (drainReply s)

/-! ## STORAGE_FAULT -/

/-- Values after the changes of a storage fault. -/
def changeValues (changes : List (Fin 32 × Int)) (v : TileValues) : TileValues :=
  changes.foldl (fun v c => v.set c.1 c.2) v

/-- A CLEAN or DIRTY entry's values are changed, its code left (R82). -/
def strikeEntry (changes : List (Fin 32 × Int)) (e : Entry) : Entry :=
  match e.state with
  | .clean v c => { e with state := .clean (changeValues changes v) c }
  | .dirty v c => { e with state := .dirty (changeValues changes v) c }
  | .filling | .faulty => e

/-- A queued copy's values are changed, its code left (R82). -/
def strikeCopy (changes : List (Fin 32 × Int)) (c : TileCopy) : TileCopy :=
  { c with values := changeValues changes c.values }

/-- STORAGE_FAULT (R82; log 30). -/
def storageFault (place : FaultPlace) (changes : List (Fin 32 × Int)) (s : State) : State :=
  if changesFit changes then
    match place with
    | .entry i w => setEntry i w ((entryAt i w s).map (strikeEntry changes)) s
    | .queued n => s.setTlc { s.tlc with queue := s.tlc.queue.modify n.val (strikeCopy changes) }
  else s

/-- STORAGE_FAULT. -/
def execStorageFault (place : FaultPlace) (changes : List (Fin 32 × Int)) (s : State) :
    Host.Outcome State Fault Refusal :=
  .next (storageFault place changes s)

end Sys2Proof.Machine
end

