-- ==== Sys2Proof/Machine/Commit.lean ====
section
/-! DEFINITION. COMMIT_MAP: the header check read, the copy-out sweep, the drain and the header program (chapter 5). -/

namespace Sys2Proof.Machine

open Sys2Proof

/-! ## HEADER_CHECK_READ_COMPLETE -/

/-- The previous header that a content of the header home says (R95, R109). -/
def previousHeader (h : Home HeaderRecord) : PrevHeader :=
  match h with
  | .erased => .erased
  | .failing => .lost
  | .holds r => if r.signed then .intact else .lost

/-- The sweep begins with tile 0 (R109, R110). -/
def beginSweep (b : Fin 16) (w : CommitWork) (s : State) : State :=
  setJobOp (some .presented)
    (setCommit b { w with phase := .sweep 0, previous := some (previousHeader s.homes.header) } s)

/-- The result of the header check read is recorded by the commit that waits for it (R109); one that has failed since
takes nothing from it (R111). -/
def recordHeaderCheck (s : State) : State :=
  match s.jobs.running with
  | some { box := b, work := .commit w } =>
    match w.phase with
    | .headerRead => beginSweep b w s
    | .sweep _ | .drain _ | .header => s
  | _ => s

/-- HEADER_CHECK_READ_COMPLETE (R98, R109). -/
def headerCheckReadComplete (s : State) : State :=
  match s.mfc.flash with
  | .readingHeader => recordHeaderCheck (setFlash .idle s)
  | .idle | .readingFill _ _ | .programming _ _ => s

/-- HEADER_CHECK_READ_COMPLETE. -/
def execHeaderCheckReadComplete (s : State) : Host.Outcome State Fault Refusal :=
  .next (headerCheckReadComplete s)

/-! ## COMMIT_COPY_OUT -/

/-- The copy-out of a tile has ended: the next tile's is presented, or the drain begins with its moment tested (R110,
R111). -/
def nextCopyOut (b : Fin 16) (w : CommitWork) (t : TileNo) (s : State) : State :=
  if h : t.val + 1 < 504 then
    setJobOp (some .presented) (setCommit b { w with phase := .sweep ⟨t.val + 1, h⟩ } s)
  else setJobOp none (setCommit b { w with phase := .drain (drained s) } s)

/-- A DIRTY entry is copied to the tail of the queue and becomes CLEAN with its way untouched; tiles placed and the
progress rise by 1 (R88, R110). -/
def copyOut (b : Fin 16) (t : TileNo) (way : Fin 8) (v : TileValues) (c : CheckCode) (s : State) : State :=
  let s := s.setTlc { s.tlc with queue := s.tlc.queue ++ [{ tile := t, values := v, code := c }] }
  let s := setEntry (setOf t) way (some { tile := t, state := .clean v c }) s
  setBox b ((boxAt b s).map fun x => { x with progress := x.progress + 1 }) s

/-- A copy-out that finds its tile DIRTY (R88). -/
def copyOutDirty (b : Fin 16) (w : CommitWork) (t : TileNo) (way : Fin 8) (v : TileValues) (c : CheckCode)
    (s : State) : State :=
  if queueFull s then
    if s.mfc.wear = .worn then failCommit b w .flashWorn none s else setJobOp (some .waitRoom) s
  else nextCopyOut b w t (copyOut b t way v c s)

/-- The entry that a copy-out finds (R73, R88). -/
def copyOutTile (b : Fin 16) (w : CommitWork) (t : TileNo) (s : State) : State :=
  match findWay t s with
  | none => nextCopyOut b w t s
  | some way =>
    match entryAt (setOf t) way s with
    | some { tile := _, state := .dirty v c } => copyOutDirty b w t way v c s
    | _ => nextCopyOut b w t s

/-- COMMIT_COPY_OUT: when the arbiter's next grant is the JOB operation of a sweeping commit (R88, R110). -/
def commitCopyOut (s : State) : State :=
  match nextGrant s, s.jobs.running with
  | some .job, some { box := b, work := .commit w } =>
    match w.phase with
    | .sweep t => copyOutTile b w t (grantJob s)
    | .headerRead | .drain _ | .header => s
  | _, _ => s

/-- COMMIT_COPY_OUT. -/
def execCommitCopyOut (s : State) : Host.Outcome State Fault Refusal :=
  .next (commitCopyOut s)

/-! ## COMMIT_DRAIN_DONE -/

/-- The last check, and the presenting of the header program (steps 1 and 2 of R112). -/
def endDrain (b : Fin 16) (w : CommitWork) (s : State) : State :=
  if s.mfc.header.faulty ≠ 0 then failCommit b w .tileFault none s
  else presentProgram .header (setCommit b { w with phase := .header } s)

/-- COMMIT_DRAIN_DONE: a running commit whose drain has found its moment (R111, R112; log 19). -/
def commitDrainDone (s : State) : State :=
  match s.jobs.running with
  | some { box := b, work := .commit w } =>
    match w.phase with
    | .drain true => endDrain b w s
    | .drain false | .headerRead | .sweep _ | .header => s
  | _ => s

/-- COMMIT_DRAIN_DONE. -/
def execCommitDrainDone (s : State) : Host.Outcome State Fault Refusal :=
  .next (commitDrainDone s)

/-! ## COMMIT_HEADER_COMPLETE -/

/-- The header program has verified: the header stands in its home, the working generation and committed flag and the
flash-committed marker follow, and the box ends DONE (step 3 of R112). -/
def headerVerified (b : Fin 16) (w : CommitWork) (h : HeaderRecord) (s : State) : State :=
  let s := setHeader { s.mfc.header with generation := h.generation, committed := true } s
  endRunning b .done (.commit (commitResult (progressOf b s) w (some h.converged) s)) s

/-- COMMIT_HEADER_COMPLETE (R98, R112; log 8, log 34). -/
def commitHeaderComplete (verified : Bool) (s : State) : State :=
  match s.mfc.flash with
  | .programming (.header h) _ =>
    let s := setHeaderHome (if verified then .holds h else .failing) s
    let s := programDone (s.setMfc { s.mfc with marker := verified })
    match s.jobs.running with
    | some { box := b, work := .commit w } =>
      if verified then headerVerified b w h s else failCommit b w .headerFault (some h.converged) s
    | _ => s
  | _ => s

/-- COMMIT_HEADER_COMPLETE. -/
def execCommitHeaderComplete (verified : Bool) (s : State) : Host.Outcome State Fault Refusal :=
  .next (commitHeaderComplete verified s)

end Sys2Proof.Machine
end

