-- ==== Sys2Proof/Machine/Flash.lean ====
section
/-! DEFINITION. The flash arbiter, the fill reads, the tile programs with their remaps, and the uncommit (chapter 5). -/

namespace Sys2Proof.Machine

open Sys2Proof

/-! ## FLASH_GRANT -/

/-- A tile read is granted (R97, R99): a fill read finds the tile's home at that moment. -/
def grantRead (r : FlashRead) (s : State) : State :=
  match r with
  | .fill t => setFlash (.readingFill t (homeOf t s)) s
  | .header => setFlash .readingHeader s

/-- The generation after a generation, never 0 (R112). -/
def nextGeneration (g : BitVec 16) : BitVec 16 :=
  if g = 65535#16 then 1#16 else g + 1

/-- The header that a commit programs, fixed at its grant (R106, R112). -/
def commitHeader (s : State) : HeaderRecord :=
  let h := s.mfc.header
  { signed := true, generation := nextGeneration h.generation, passCount := h.passCount, codes := h.codes,
    committed := true, converged := h.converged && !h.mixed, mixed := h.mixed, seq := s.mfc.seq }

/-- The header of an uncommit, fixed at its grant (R104). -/
def uncommitHeader (s : State) : HeaderRecord :=
  let h := s.mfc.header
  { signed := true, generation := h.generation, passCount := h.passCount, codes := h.codes, committed := false,
    converged := false, mixed := true, seq := s.mfc.seq }

/-- A record program is granted (R97, R100, R112). -/
def grantRecord (p : RecordProgram) (s : State) : State :=
  match p with
  | .header => startProgram (.header (commitHeader s)) s
  | p => startProgram (.record p) s

/-- A tile program of the head copy is granted, or an uncommit in its place while the flash-committed marker is set
(R102, R104). -/
def grantTile (c : TileCopy) (s : State) : State :=
  if s.mfc.marker then startProgram (.uncommit (uncommitHeader s)) s
  else startProgram (.tile c (homeOf c.tile s)) s

/-- FLASH_GRANT: the idle arbiter grants the first operation of the lowest class that has one (R97). -/
def flashGrant (s : State) : State :=
  if s.mfc.flash = .idle then
    match s.mfc.reads, s.mfc.programs, s.tlc.queue with
    | r :: rest, _, _ => grantRead r (s.setMfc { s.mfc with reads := rest })
    | [], p :: rest, _ => grantRecord p (s.setMfc { s.mfc with programs := rest })
    | [], [], c :: _ => if s.mfc.wear = .normal then grantTile c s else s
    | [], [], [] => s
  else s

/-- FLASH_GRANT. -/
def execFlashGrant (s : State) : Host.Outcome State Fault Refusal :=
  .next (flashGrant s)

/-! ## FILL_READ_COMPLETE -/

/-- What a fill read of a home gives for a tile (R94, R99). -/
def readResult (t : TileNo) (h : Home TileRecord) : FillResult :=
  match h with
  | .erased => .erased
  | .failing => .failed
  | .holds r => if r.tile == t && codeAgrees t r.values r.code then .values r.values else .failed

/-- FILL_READ_COMPLETE: the result joins the fill FIFO (R98, R99). -/
def fillReadComplete (s : State) : State :=
  match s.mfc.flash with
  | .readingFill t home =>
    let f : Fill := { tile := t, result := readResult t (tileHomeContent t home s) }
    setFlash .idle (s.setTlc { s.tlc with fills := s.tlc.fills ++ [f] })
  | .idle | .readingHeader | .programming _ _ => s

/-- FILL_READ_COMPLETE. -/
def execFillReadComplete (s : State) : Host.Outcome State Fault Refusal :=
  .next (fillReadComplete s)

/-! ## TILE_PROGRAM_COMPLETE -/

/-- The tile record of a copy under a program sequence (R94, R102). -/
def recordOf (c : TileCopy) (seq : BitVec 32) : TileRecord :=
  { tile := c.tile, seq := seq, values := c.values, code := c.code }

/-- A tile program has verified: the record stands, the head leaves the queue, and the waits on that end (R72, R87,
R102). -/
def tileVerified (c : TileCopy) (home : TileHome) (seq : BitVec 32) (s : State) : State :=
  let s := setTileHome c.tile home (.holds (recordOf c seq)) s
  let s := countForCommit 1 0 (s.setTlc { s.tlc with queue := s.tlc.queue.tail })
  programDone (wakeQueue s)

/-- The spare that a tile leaves becomes DEAD (step 1 of R102). -/
def leaveHome (home : TileHome) (s : State) : State :=
  match home with
  | .own => s
  | .spare k => setSpare k .dead s

/-- A tile program has failed to verify: the home fails its check, and the program is repeated at the next unused spare, or
the flash enters WORN (R102, R103). The repeat carries the copy as it stood at the first grant, whatever a storage fault has
made of the queued head since (log 37). -/
def tileFailed (c : TileCopy) (home : TileHome) (s : State) : State :=
  let s := setTileHome c.tile home .failing s
  match nextSpare s with
  | some k =>
    startProgram (.tile c (.spare k)) (countForCommit 0 1 (setSpare k (.mapped c.tile) (leaveHome home s)))
  | none => enterWorn s

/-- TILE_PROGRAM_COMPLETE (R98, R102, R103; log 8). -/
def tileProgramComplete (verified : Bool) (s : State) : State :=
  match s.mfc.flash with
  | .programming (.tile c home) seq => if verified then tileVerified c home seq s else tileFailed c home s
  | _ => s

/-- TILE_PROGRAM_COMPLETE. -/
def execTileProgramComplete (verified : Bool) (s : State) : Host.Outcome State Fault Refusal :=
  .next (tileProgramComplete verified s)

/-! ## UNCOMMIT_PROGRAM_COMPLETE -/

/-- UNCOMMIT_PROGRAM_COMPLETE: the marker is cleared, verified or not, and the working header stays (R104; log 8). -/
def uncommitProgramComplete (verified : Bool) (s : State) : State :=
  match s.mfc.flash with
  | .programming (.uncommit h) _ =>
    let s := setHeaderHome (if verified then .holds h else .failing) s
    programDone (s.setMfc { s.mfc with marker := false })
  | _ => s

/-- UNCOMMIT_PROGRAM_COMPLETE. -/
def execUncommitProgramComplete (verified : Bool) (s : State) : Host.Outcome State Fault Refusal :=
  .next (uncommitProgramComplete verified s)

end Sys2Proof.Machine
end

