-- ==== Sys2Proof/Machine/Pass.lean ====
section
/-! DEFINITION. The correction arithmetic and the pass: targets, slope, flat test, residual, substitution, accumulation,
verdict, and PASS_TILE_OPERATION (chapter 1, sections 3.7). -/

namespace Sys2Proof.Machine

open Sys2Proof

/-! ## Tiles and nodes -/

/-- The channel of a tile (R2). -/
def tileChannel (t : TileNo) : Nat := t.val / 168

/-- The plane of a tile (R2). -/
def tilePlane (t : TileNo) : Nat := t.val / 42 % 4

/-- The node column of a value index of a tile (R2). -/
def nodeX (t : TileNo) (k : Fin 32) : Nat := t.val % 6 * 8 + k.val % 8

/-- The node row of a value index of a tile (R2). -/
def nodeY (t : TileNo) (k : Fin 32) : Nat := t.val / 6 % 7 * 4 + k.val / 8

/-- A tile is included in a pass: its channel is in the mask and its plane is below P (R7). -/
def tileIncluded (sh : Shape) (t : TileNo) : Bool :=
  maskHas sh.mask (tileChannel t) && decide (tilePlane t < sh.codes.length)

/-- The lowest included tile at or above a number (R6, R7). -/
def nextIncluded (sh : Shape) (start : Nat) : Option TileNo :=
  (List.finRange 504).find? fun t => decide (start ≤ t.val) && tileIncluded sh t

/-! ## Measurements -/

/-- The measured value M of a node at a plane and channel (R37); 0 for a row that is not present, which a LOCKED
capture has none of. -/
def measured (cap : Cap) (plane channel x y : Nat) : Nat :=
  match rowAt plane channel y cap with
  | some r => (r.values[x]?).getD 0
  | none => 0

/-- A plane code. -/
def planeCode (sh : Shape) (p : Nat) : Nat :=
  sh.codes.getD p 0

/-! ## Stage 1: targets -/

/-- The nodes of the reference window (R9). -/
def windowNodes (w : Window) : List (Nat × Nat) :=
  (List.range' w.y0 (w.y1 + 1 - w.y0)).flatMap fun y => (List.range' w.x0 (w.x1 + 1 - w.x0)).map fun x => (x, y)

/-- The non-saturated measured values of the window at a plane and channel (R9). -/
def windowValues (cap : Cap) (w : Window) (plane channel : Nat) : List Nat :=
  ((windowNodes w).map fun n => measured cap plane channel n.1 n.2).filter fun v => v != Config.saturated

/-- The mean of a list of counts, truncated (R9). -/
def meanTruncated (vs : List Nat) : Nat :=
  vs.sum / vs.length

/-- The target of a channel and plane (R8, R9). -/
def targetOf (cap : Cap) (a : PassArgs) (channel : Fin 3) (plane : Fin 4) : Nat :=
  match a.modes[channel] with
  | .fixed ts => ts[plane]
  | .window =>
    match a.window with
    | some w => meanTruncated (windowValues cap w plane.val channel.val)
    | none => 0

/-- The targets of a pass: of every included channel and plane, 0 elsewhere (R5, R8, R9). -/
def prepareTargets (cap : Cap) (sh : Shape) (a : PassArgs) : Vector (Vector Nat 4) 3 :=
  Vector.ofFn fun c => Vector.ofFn fun p =>
    if maskHas sh.mask c.val && decide (p.val < sh.codes.length) then targetOf cap a c p else 0

/-! ## Stages 2 to 6 -/

/-- The pair of planes of a slope (R10). -/
def slopePair (planes p : Nat) : Nat × Nat :=
  if p + 1 < planes then (p, p + 1) else (planes - 2, planes - 1)

/-- The slope in 1/16 count per code step, truncated toward zero (R11). -/
def slopeOf (mLo mHi gLo gHi : Nat) : Int :=
  (((mHi : Int) - mLo) * 16).tdiv ((gHi : Int) - gLo)

/-- The slope of a non-flat node, none for a flat one (R12). -/
def nonFlatSlope (cap : Cap) (sh : Shape) (minSlope plane channel x y : Nat) : Option Int :=
  let pair := slopePair sh.codes.length plane
  let m := measured cap plane channel x y
  let mLo := measured cap pair.1 channel x y
  let mHi := measured cap pair.2 channel x y
  if m = Config.saturated ∨ mLo = Config.saturated ∨ mHi = Config.saturated then none
  else
    let slope := slopeOf mLo mHi (planeCode sh pair.1) (planeCode sh pair.2)
    if slope < minSlope then none else some slope

/-- The raw residual: ((T - M) x 64) / s, to nearest with ties away from zero, on magnitudes (R14, R15). -/
def rawResidual (target m : Nat) (slope : Int) : Int :=
  let n := ((target : Int) - m) * 64
  let q := n.natAbs / slope.natAbs
  let e := n.natAbs % slope.natAbs
  let q := if slope.natAbs ≤ 2 * e then q + 1 else q
  if n < 0 then -(q : Int) else (q : Int)

/-- A value limited to plus or minus a limit (R16, R19). -/
def limitTo (limit : Nat) (v : Int) : Int :=
  if (limit : Int) < v then limit else if v < -(limit : Int) then -(limit : Int) else v

/-- The value lies outside plus or minus the limit (R16, R19). -/
def isOutside (limit : Nat) (v : Int) : Bool :=
  decide ((limit : Int) < v) || decide (v < -(limit : Int))

/-- What a pass computes with: the capture, its shape, the targets and the arguments (R18). -/
structure PassInput where
  cap     : Cap
  shape   : Shape
  targets : Vector (Vector Nat 4) 3
  args    : PassArgs
  deriving DecidableEq, Repr

/-- T[p][c]. -/
def targetAt (i : PassInput) (plane channel : Nat) : Nat :=
  ((i.targets[channel]?).bind fun ts => ts[plane]?).getD 0

/-- The raw residual of a non-flat node, none for a flat one (R12, R14). -/
def residualAt (i : PassInput) (plane channel x y : Nat) : Option Int :=
  (nonFlatSlope i.cap i.shape i.args.minSlope plane channel x y).map fun slope =>
    rawResidual (targetAt i plane channel) (measured i.cap plane channel x y) slope

/-- The 4-neighbours of a node within the grid (R17). -/
def neighbours (x y : Nat) : List (Nat × Nat) :=
  (if 0 < x then [(x - 1, y)] else []) ++ (if x < 47 then [(x + 1, y)] else []) ++
  (if 0 < y then [(x, y - 1)] else []) ++ (if y < 27 then [(x, y + 1)] else [])

/-- The mean of borrowed values, truncated toward zero; 0 when there are none (R17). -/
def borrowedMean (ds : List Int) : Int :=
  if ds.isEmpty then 0 else ds.sum.tdiv ds.length

/-- The d that a flat node borrows from its non-flat neighbours' stage-5 values (R17, R18). -/
def substituted (i : PassInput) (plane channel x y : Nat) : Int :=
  borrowedMean
    ((neighbours x y).filterMap fun n => (residualAt i plane channel n.1 n.2).map (limitTo i.args.stepLimit))

/-- What stages 2 to 6 give for one node. -/
structure NodeResidual where
  d           : Int
  flat        : Bool
  stepClamped : Bool
  deriving DecidableEq, Repr

/-- Stages 2 to 6 for one node (R10 to R17). -/
def nodeResidual (i : PassInput) (plane channel x y : Nat) : NodeResidual :=
  match residualAt i plane channel x y with
  | some r => { d := limitTo i.args.stepLimit r, flat := false, stepClamped := isOutside i.args.stepLimit r }
  | none => { d := substituted i plane channel x y, flat := true, stepClamped := false }

/-! ## Stages 7 and 8 -/

/-- The residual of a value index of a tile. -/
def tileResidual (i : PassInput) (t : TileNo) (k : Fin 32) : NodeResidual :=
  nodeResidual i (tilePlane t) (tileChannel t) (nodeX t k) (nodeY t k)

/-- V + d for a value index. -/
def nodeSum (i : PassInput) (t : TileNo) (old : TileValues) (k : Fin 32) : Int :=
  old[k] + (tileResidual i t k).d

/-- The values V' of a tile (R19). -/
def newValues (i : PassInput) (t : TileNo) (old : TileValues) : TileValues :=
  Vector.ofFn fun k => limitTo i.args.valLimit (nodeSum i t old k)

/-- R_max and its node after one more node: the first non-flat node is recorded, a later one only when its |d| is greater
(R24). -/
def raiseMax (acc : Nat × Option Node) (r : NodeResidual) (n : Node) : Nat × Option Node :=
  if r.flat then acc
  else if acc.2.isNone || decide (acc.1 < r.d.natAbs) then (r.d.natAbs, some n)
  else acc

/-- The node of a value index of a tile. -/
def nodeOf (t : TileNo) (k : Fin 32) : Node :=
  { channel := tileChannel t, plane := tilePlane t, x := nodeX t k, y := nodeY t k }

/-- The pass working state after a tile has been computed and written (R13, R16, R19, R20, R21, R24). -/
def countTile (i : PassInput) (t : TileNo) (old : TileValues) (wasFaulty : Bool) (w : PassWork) : PassWork :=
  let ks := List.finRange 32
  let top := ks.foldl (fun acc k => raiseMax acc (tileResidual i t k) (nodeOf t k)) (w.rmax, w.rmaxNode)
  { w with
    flat := w.flat + ks.countP fun k => (tileResidual i t k).flat,
    stepClamped := w.stepClamped + ks.countP fun k => (tileResidual i t k).stepClamped,
    valueClamped := w.valueClamped + ks.countP fun k => isOutside i.args.valLimit (nodeSum i t old k),
    faultyRestarted := w.faultyRestarted + (if wasFaulty then 1 else 0),
    tilesWritten := w.tilesWritten + 1,
    rmax := top.1,
    rmaxNode := top.2 }

/-- The verdict of a completed pass (R25). -/
def passConverged (a : PassArgs) (w : PassWork) : Bool :=
  decide (w.rmax ≤ a.tolerance) && decide (w.flat ≤ a.flatLimit)

/-- The pass result record (R26). -/
def passResult (a : PassArgs) (w : PassWork) (passNumber : Nat) : PassResult :=
  { passNumber := passNumber, rmax := w.rmax, rmaxNode := w.rmaxNode, flat := w.flat, stepClamped := w.stepClamped,
    valueClamped := w.valueClamped, faultyRestarted := w.faultyRestarted, tilesWritten := w.tilesWritten,
    outsideWrite := w.outsideWrite, converged := passConverged a w }

/-- The pass completes: verdict, working header, capture CONSUMED, box DONE (R27, R62). -/
def completePass (b : Fin 16) (a : PassArgs) (w : PassWork) (s : State) : State :=
  let h := s.mfc.header
  let count := min (h.passCount + 1) 65535
  let s := setHeader { h with passCount := count, converged := passConverged a w && !w.outsideWrite, mixed := false } s
  endRunning b .done (.pass (passResult a w count)) (consumeCapture s)

/-- The next tile of a pass is requested. -/
def requestPassTile (b : Fin 16) (w : PassWork) (s : State) : State :=
  setJobOp (some .presented) (setRunning (some { box := b, work := .pass w }) s)

/-- What follows the writing of a pass's tile: completion when no included tile is left, the safe point, or the next tile
(R59, R62). -/
def passWritten (b : Fin 16) (x : Box) (a : PassArgs) (w : PassWork) (next : Option TileNo) (s : State) : State :=
  match next with
  | none => completePass b a w s
  | some u =>
    if x.cancelNoted then endPassEarly b .cancelled w.tilesWritten s
    else requestPassTile b { w with next := u } s

/-- Steps 3 to 6 of a pass tile operation, and what follows it (R21). -/
def writePassTile (b : Fin 16) (x : Box) (a : PassArgs) (sh : Shape) (w : PassWork) (way : Fin 8) (old : TileValues)
    (wasFaulty : Bool) (s : State) : State :=
  let t := w.next
  let i : PassInput := { cap := s.cap, shape := sh, targets := w.targets, args := a }
  let w := countTile i t old wasFaulty w
  let s := storeWhole t way (newValues i t old) s
  let s := rise (.station x.owner) .tiles 1 s
  let s := setBox b (some { x with progress := w.tilesWritten }) s
  passWritten b x a w (nextIncluded sh (t.val + 1)) s

/-- A granted pass tile operation (R21, R22, R59, R62, R63). -/
def passTile (b : Fin 16) (x : Box) (a : PassArgs) (sh : Shape) (w : PassWork) (s : State) : State :=
  match readTileAt w.next (grantJob s) with
  | (s, .values way v) => writePassTile b x a sh w way v false s
  | (s, .faulty way) => writePassTile b x a sh w way (Vector.replicate 32 0) true s
  | (s, .waits p) =>
    if p == .waitWay && x.cancelNoted then endPassEarly b .cancelled w.tilesWritten s else setJobOp (some p) s
  | (s, .refused worn) => endPassEarly b (.failed (refusalReason worn)) w.tilesWritten s

/-- PASS_TILE_OPERATION: when the arbiter's next grant is the JOB operation of a running pass. -/
def passTileOperation (s : State) : State :=
  match nextGrant s, s.jobs.running with
  | some .job, some { box := b, work := .pass w } =>
    match boxAt b s, s.cap.shape with
    | some x, some sh =>
      match x.args with
      | some a => passTile b x a sh w s
      | none => s
    | _, _ => s
  | _, _ => s

/-- PASS_TILE_OPERATION. -/
def execPassTileOperation (s : State) : Host.Outcome State Fault Refusal :=
  .next (passTileOperation s)

end Sys2Proof.Machine
end

