-- ==== Sys2Proof/Machine/Jobs.lean ====
section
/-! DEFINITION. The job table and the job engine: the six job requests, READ_BOX, HOLD_EXPIRY, JOB_START and the clear
(chapter 3). -/

namespace Sys2Proof.Machine

open Sys2Proof

/-! ## Checks -/

/-- Checks 1 and 2 of R48: what refuses the request, if anything does. -/
def jobDoor (req : Request) (s : State) : Option Status :=
  if !stationWith .map req.master s then some .refusedOrigin
  else if !stageAdmits lineStage s then some .refusedStage
  else none

/-- The requester owns the box. -/
def ownsBox (m : Master) (x : Box) : Bool :=
  match m with
  | .station i => i == x.owner
  | _ => false

/-- Checks 3 and 4 of R48 for HOLD_BOX, CANCEL_JOB and FREE_BOX: the named box, not FREE and the requester's own. -/
def ownBox (req : Request) (s : State) : Except Status (Fin 16 × Box) :=
  match parseBoxOnly req.body with
  | none => .error .badArg
  | some b =>
    match boxAt b s with
    | some x => if ownsBox req.master x then .ok (b, x) else .error .refusedOrigin
    | none => .error .refusedOrigin

/-! ## Submitting -/

/-- The highest-numbered FREE box (R49). -/
def highestFree (s : State) : Option (Fin 16) :=
  (List.finRange 16).reverse.find? fun b => (boxAt b s).isNone

/-- How many boxes that are not FREE a station owns (R50). -/
def ownedBoxes (st : Station) (s : State) : Nat :=
  (List.finRange 16).countP fun b => match boxAt b s with | some x => x.owner == st | none => false

/-- The box that SUBMIT_JOB fills (R49). -/
def queuedBox (st : Station) (k : JobKind) (a : Option PassArgs) (seq : BitVec 16) : Box :=
  { state := .queued, owner := st, kind := k, args := a, seq := seq, progress := 0, started := false, cancelNoted := false,
    hold := none, holdExpired := false, result := none, newResult := false }

/-- SUBMIT_JOB at the job table (R48 to R50). -/
def submitJob (req : Request) (s : State) : State :=
  match jobDoor req s with
  | some st => refuse req st s
  | none =>
    match parseSubmit req.body, req.master with
    | some (k, a), .station i =>
      if 4 ≤ ownedBoxes i s then refuse req .noBox s
      else
        match highestFree s with
        | none => refuse req .noBox s
        | some b =>
          let seq := s.jobs.seq
          let s := setBox b (some (queuedBox i k a seq)) s
          reply req .ok (.submitted b seq) (s.setJobs { s.jobs with seq := seq + 1 })
    | _, _ => refuse req .badArg s

/-- SUBMIT_JOB. -/
def execSubmitJob (m : Master) (s : State) : Host.Outcome State Fault Refusal :=
  .next (serve .submitJob m submitJob s)

/-! ## Reading -/

/-- The time left to a deadline in whole milliseconds, truncated, 0..50 (R53; log 2). -/
def timeLeft (deadline now : Nat) : Nat :=
  min ((deadline - now) / 1000) 50

/-- A box as READ_BOX gives it (R53). -/
def boxView (b : Fin 16) (s : State) : Option BoxView :=
  (boxAt b s).map fun x => { box := x, timeLeft := x.hold.map fun d => timeLeft d s.book.now }

/-- The box has ended. -/
def boxEnded : BoxState → Bool
  | .done | .failed _ | .cancelled => true
  | .queued | .running => false

/-- A read by the owner of an ended box clears its new-result flag (R53). -/
def markRead (m : Master) (b : Fin 16) (s : State) : State :=
  match boxAt b s with
  | some x => if boxEnded x.state && ownsBox m x then setBox b (some { x with newResult := false }) s else s
  | none => s

/-- READ_BOX at the job table (R53). -/
def readBox (req : Request) (s : State) : State :=
  match parseBoxOnly req.body with
  | none => refuse req .badArg s
  | some b => reply req .ok (.box (boxView b s)) (markRead req.master b s)

/-- READ_BOX. -/
def execReadBox (m : Master) (s : State) : Host.Outcome State Fault Refusal :=
  .next (serve .readBox m readBox s)

/-! ## Holds -/

/-- HOLD_BOX at the job table (R48, R54). -/
def holdBox (req : Request) (s : State) : State :=
  match jobDoor req s with
  | some st => refuse req st s
  | none =>
    match ownBox req s with
    | .error st => refuse req st s
    | .ok (b, x) =>
      match x.state, x.hold with
      | .queued, none =>
        reply req .ok .empty
          (setBox b (some { x with hold := some (s.book.now + Config.holdMicroseconds), holdExpired := false }) s)
      | .running, _ => refuse req .busy s
      | _, _ => refuse req .refusedState s

/-- HOLD_BOX. -/
def execHoldBox (m : Master) (s : State) : Host.Outcome State Fault Refusal :=
  .next (serve .holdBox m holdBox s)

/-- The requester is the hold holder of a held box (R48). -/
def holdsBox (m : Master) (x : Box) : Bool :=
  x.hold.isSome && ownsBox m x

/-- EDIT_BOX at the job table (R48, R55). -/
def editBox (req : Request) (s : State) : State :=
  match jobDoor req s with
  | some st => refuse req st s
  | none =>
    match parseEdit req.body with
    | none => refuse req .badArg s
    | some (b, bytes) =>
      match boxAt b s with
      | none => refuse req .holdLost s
      | some x =>
        if !holdsBox req.master x then refuse req .holdLost s
        else
          match parseJobArgs x.kind bytes with
          | none => refuse req .badArg s
          | some a => reply req .ok .empty (setBox b (some { x with args := a }) s)

/-- EDIT_BOX. -/
def execEditBox (m : Master) (s : State) : Host.Outcome State Fault Refusal :=
  .next (serve .editBox m editBox s)

/-- RELEASE_BOX at the job table (R48, R56). -/
def releaseBox (req : Request) (s : State) : State :=
  match jobDoor req s with
  | some st => refuse req st s
  | none =>
    match parseBoxOnly req.body with
    | none => refuse req .badArg s
    | some b =>
      match boxAt b s with
      | none => refuse req .holdLost s
      | some x =>
        if !holdsBox req.master x then refuse req .holdLost s
        else reply req .ok .empty (setBox b (some { x with hold := none, holdExpired := false }) s)

/-- RELEASE_BOX. -/
def execReleaseBox (m : Master) (s : State) : Host.Outcome State Fault Refusal :=
  .next (serve .releaseBox m releaseBox s)

/-- A box whose hold has reached its deadline: unheld, HOLD_EXPIRED set, everything else as it was (R57). -/
def expired (x : Box) : Box :=
  { x with hold := none, holdExpired := true }

/-- A box when the clock comes to a moment: a hold whose deadline lies before it has ended (R57; log 3). -/
def holdAt (now : Nat) (x : Box) : Box :=
  match x.hold with
  | some d => if d < now then expired x else x
  | none => x

/-- A held box reaches its deadline: the clock stands at the deadline or later, the hold ends and HOLD_EXPIRED is set, and
so does every hold whose deadline the clock passes on the way there (R57; log 3). -/
def holdExpiry (b : Fin 16) (s : State) : State :=
  match boxAt b s with
  | none => s
  | some x =>
    match x.hold with
    | none => s
    | some d =>
      let now := max s.book.now d
      let s := s.setJobs { s.jobs with boxes := s.jobs.boxes.map (Option.map (holdAt now)) }
      let s := setBox b (some (expired x)) s
      s.setBook { s.book with now := now }

/-- HOLD_EXPIRY. -/
def execHoldExpiry (b : Fin 16) (s : State) : Host.Outcome State Fault Refusal :=
  .next (holdExpiry b s)

/-! ## Cancelling and freeing -/

/-- The JOB operation has written nothing and taken no way: it waits for its grant or for an eligible way (R59; log 20). -/
def withdrawable (s : State) : Bool :=
  match s.tlc.job with
  | some .presented | some (.resumed false) | some .waitWay => true
  | _ => false

/-- A cancel on a RUNNING pass or clear is noted, and acted on at once while the JOB operation is withdrawable (R59). -/
def noteCancel (b : Fin 16) (x : Box) (s : State) : State :=
  let s' := setBox b (some { x with cancelNoted := true }) s
  if withdrawable s then
    match x.kind with
    | .runPass => endPassEarly b .cancelled x.progress s'
    | .clearMap => endClearEarly b .cancelled x.progress s'
    | .commitMap => s'
  else s'

/-- CANCEL_JOB at the job table (R48, R58, R59). -/
def cancelJob (req : Request) (s : State) : State :=
  match jobDoor req s with
  | some st => refuse req st s
  | none =>
    match ownBox req s with
    | .error st => refuse req st s
    | .ok (b, x) =>
      match x.state with
      | .queued => reply req .ok .empty (endBox b .cancelled (.stopped false 0) s)
      | .running =>
        match x.kind with
        | .commitMap => refuse req .busy s
        | .runPass | .clearMap => reply req .ok .empty (noteCancel b x s)
      | .done | .failed _ | .cancelled => refuse req .refusedState s

/-- CANCEL_JOB. -/
def execCancelJob (m : Master) (s : State) : Host.Outcome State Fault Refusal :=
  .next (serve .cancelJob m cancelJob s)

/-- FREE_BOX at the job table (R48, R60). -/
def freeBox (req : Request) (s : State) : State :=
  match jobDoor req s with
  | some st => refuse req st s
  | none =>
    match ownBox req s with
    | .error st => refuse req st s
    | .ok (b, x) =>
      if boxEnded x.state then reply req .ok .empty (setBox b none s) else refuse req .refusedState s

/-- FREE_BOX. -/
def execFreeBox (m : Master) (s : State) : Host.Outcome State Fault Refusal :=
  .next (serve .freeBox m freeBox s)

/-! ## Starting -/

/-- The box is QUEUED and not held. -/
def startable (b : Fin 16) (s : State) : Bool :=
  match boxAt b s with
  | some x => x.state == .queued && x.hold.isNone
  | none => false

/-- The age of a box: the counter minus its acceptance sequence number, modulo 65536 (R51). -/
def ageOf (b : Fin 16) (s : State) : Nat :=
  match boxAt b s with
  | some x => (s.jobs.seq - x.seq).toNat
  | none => 0

/-- The oldest box that may start, the lower number first among equals (R51). -/
def oldestStartable (s : State) : Option (Fin 16) :=
  (List.finRange 16).foldl
    (fun best b =>
      if startable b s then
        match best with
        | none => some b
        | some x => if ageOf x s < ageOf b s then some b else some x
      else best)
    none

/-- The engine may start a box (R51). -/
def engineFree (s : State) : Bool :=
  s.jobs.running.isNone && lineStage s.srb.stage.stage && s.srb.stage.program == .none

/-- The start checks of a RUN_PASS: the reason of the first that fails (R61). -/
def passStartFault (a : PassArgs) (s : State) : Option Reason :=
  match s.cap.state, s.cap.shape with
  | .complete, some sh =>
    if s.mfc.header.codes ≠ [] ∧ s.mfc.header.codes ≠ sh.codes then some .planeMismatch
    else
      let lacks := (List.finRange 3).any fun c =>
        maskHas sh.mask c.val && a.modes[c] == .window &&
          (List.range sh.codes.length).any fun p =>
            match a.window with
            | some w => (windowValues s.cap w p c.val).isEmpty
            | none => true
      if lacks then some .noReference else none
  | _, _ => some .noCapture

/-- The pass working state at the start of a pass (R6). -/
def passWorkAtStart (cap : Cap) (sh : Shape) (a : PassArgs) : PassWork :=
  { targets := prepareTargets cap sh a, flat := 0, stepClamped := 0, valueClamped := 0, faultyRestarted := 0,
    tilesWritten := 0, rmax := 0, rmaxNode := none, outsideWrite := false, next := (nextIncluded sh 0).getD 0 }

/-- A pass starts: the capture LOCKED, the working header changed, the targets prepared (R27, R43, R61). -/
def startPass (b : Fin 16) (a : PassArgs) (sh : Shape) (s : State) : State :=
  let h := s.mfc.header
  let w := passWorkAtStart s.cap sh a
  let codes := if h.codes = [] then sh.codes else h.codes
  let s := setHeader { h with codes := codes, mixed := true, converged := false } s
  requestPassTile b w (s.setCap { s.cap with state := .locked })

/-- A clear starts (R64). -/
def startClear (b : Fin 16) (s : State) : State :=
  let s := setHeader { s.mfc.header with mixed := true, converged := false } s
  setJobOp (some .presented) (setRunning (some { box := b, work := .clear 0 }) s)

/-- The commit's counts at its start (R108). -/
def commitAtStart : CommitWork :=
  { phase := .headerRead, programmed := 0, sparesUsed := 0, previous := none }

/-- The start checks of a COMMIT_MAP (R108). -/
def commitStartFault (s : State) : Option Reason :=
  if s.mfc.header.faulty ≠ 0 then some .tileFault
  else if s.mfc.wear = .worn then some .flashWorn
  else none

/-- A commit starts: its header check read is presented (R108, R109). -/
def startCommit (b : Fin 16) (s : State) : State :=
  setCommit b commitAtStart (s.setMfc { s.mfc with reads := s.mfc.reads ++ [.header] })

/-- A box becomes RUNNING, its cancel-noted flag clear; whether its start checks have passed is recorded (R51, R52). -/
def runBox (b : Fin 16) (x : Box) (started : Bool) (s : State) : State :=
  setBox b (some { x with state := .running, started := started, cancelNoted := false }) s

/-- A box becomes RUNNING and its start checks are made in the same step; a failing one ends it FAILED with started clear
(R51, R52, R61, R64, R108). -/
def startBox (b : Fin 16) (x : Box) (s : State) : State :=
  match x.kind, x.args with
  | .runPass, some a =>
    match passStartFault a s, s.cap.shape with
    | none, some sh => startPass b a sh (runBox b x true s)
    | some r, _ => endBox b (.failed r) (.stopped false 0) (runBox b x false s)
    | none, none => s
  | .runPass, none => s
  | .clearMap, _ => startClear b (runBox b x true s)
  | .commitMap, _ =>
    match commitStartFault s with
    | none => startCommit b (runBox b x true s)
    | some r => endBox b (.failed r) (.commit (commitResult 0 commitAtStart none s)) (runBox b x false s)

/-- JOB_START: the engine starts the oldest QUEUED box that is not held (R51). -/
def jobStart (s : State) : State :=
  if engineFree s then
    match oldestStartable s with
    | none => s
    | some b =>
      match boxAt b s with
      | none => s
      | some x => startBox b x s
  else s

/-- JOB_START. -/
def execJobStart (s : State) : Host.Outcome State Fault Refusal :=
  .next (jobStart s)

/-! ## Clearing -/

/-- The clear completes (R66, R107). -/
def completeClear (b : Fin 16) (tiles : Nat) (s : State) : State :=
  let s := setHeader { s.mfc.header with codes := [], mixed := false, converged := false, passCount := 0 } s
  endRunning b .done (.cleared tiles) s

/-- What follows the writing of a clear's tile: the counts, then completion, the safe point or the next tile (R59, R65,
R66). -/
def clearWritten (b : Fin 16) (x : Box) (t : TileNo) (s : State) : State :=
  let s := rise (.station x.owner) .tiles 1 s
  let s := setBox b (some { x with progress := x.progress + 1 }) s
  if h : t.val + 1 < 504 then
    if x.cancelNoted then endClearEarly b .cancelled (x.progress + 1) s
    else setJobOp (some .presented) (setRunning (some { box := b, work := .clear ⟨t.val + 1, h⟩ }) s)
  else completeClear b (x.progress + 1) s

/-- A granted clear tile operation (R65). -/
def clearTile (b : Fin 16) (x : Box) (t : TileNo) (s : State) : State :=
  match writeTileAt t (Vector.replicate 32 0) (grantJob s) with
  | (s, .written) => clearWritten b x t s
  | (s, .waits p) =>
    if p == .waitWay && x.cancelNoted then endClearEarly b .cancelled x.progress s else setJobOp (some p) s
  | (s, .refused worn) => endClearEarly b (.failed (refusalReason worn)) x.progress s

/-- CLEAR_TILE_OPERATION: when the arbiter's next grant is the JOB operation of a running clear. -/
def clearTileOperation (s : State) : State :=
  match nextGrant s, s.jobs.running with
  | some .job, some { box := b, work := .clear t } =>
    match boxAt b s with
    | some x => clearTile b x t s
    | none => s
  | _, _ => s

/-- CLEAR_TILE_OPERATION. -/
def execClearTileOperation (s : State) : Host.Outcome State Fault Refusal :=
  .next (clearTileOperation s)

end Sys2Proof.Machine
end

