-- ==== Sys2Proof/Machine/Panel.lean ====
section
/-! DEFINITION. The panel's requests and the panel snapshot (chapter 6). -/

namespace Sys2Proof.Machine

open Sys2Proof

/-! ## FETCH_RUN -/

/-- The tiles of a run: n tiles from t on, wrapping within t's row group (R124). -/
def runTiles (t : TileNo) (n : Nat) : List TileNo :=
  (List.range n).map fun k => ⟨t.val - t.val % 6 + (t.val % 6 + k) % 6, by omega⟩

/-- The PNP presents the snapshot of the run's next tile when the PANEL requester has no operation (R126, R134). -/
def presentSnapshot (s : State) : State :=
  match s.tlc.panel, s.pnp.run with
  | none, some r =>
    match r.todo with
    | t :: _ => s.setTlc { s.tlc with panel := some { tile := t, abandoned := false, phase := .presented } }
    | [] => s
  | _, _ => s

/-- The tiles of a run become WAITING and leave the notice queue (R125). -/
def awaitTiles (ts : List TileNo) (s : State) : State :=
  s.setPcd { s.pcd with dir := ts.foldl (fun (d : Vector DirState 504) (t : TileNo) => d.set t .waiting) s.pcd.dir,
                        notices := s.pcd.notices.filter fun t => !ts.contains t }

/-- FETCH_RUN at the PNP and PCD (R119, R124, R125). -/
def fetchRun (req : Request) (s : State) : State :=
  if req.master != .panel then refuse req .refusedOrigin s
  else
    match parseRun req.body with
    | none => refuse req .badArg s
    | some (t, n) =>
      let ts := runTiles t n
      let s := awaitTiles ts s
      presentSnapshot
        (s.setPnp { s.pnp with run := some { req := req, first := t, count := n, todo := ts, done := [] } })

/-- FETCH_RUN. -/
def execFetchRun (m : Master) (s : State) : Host.Outcome State Fault Refusal :=
  .next (serve .fetchRun m fetchRun s)

/-! ## PANEL_SNAPSHOT -/

/-- The PANEL requester's operation changes. -/
def setPanelOp (o : Option PanelOp) (s : State) : State :=
  s.setTlc { s.tlc with panel := o }

/-- A WAITING entry takes the state of its snapshot point (R126). -/
def leaveWaiting (t : TileNo) (d : DirState) (s : State) : State :=
  if dirOf t s = .waiting then setDir t d s else s

/-- A snapshot point passes: the tile's part of the reply is taken, its entry takes its state, and the next tile is
presented, or the whole reply is placed in the slot (R126, R128). The values of an abandoned run's operation are
discarded, and it changes no entry (R134). -/
def snapshotPoint (o : PanelOp) (x : RunTile) (d : DirState) (s : State) : State :=
  let s := setPanelOp none s
  if o.abandoned then presentSnapshot s
  else
    match s.pnp.run with
    | none => s
    | some r =>
      let s := leaveWaiting o.tile d s
      let r := { r with todo := r.todo.tail, done := r.done ++ [x] }
      if r.todo.isEmpty then reply r.req .ok (.run r.first r.count r.done) (s.setPnp { s.pnp with run := none })
      else presentSnapshot (s.setPnp { s.pnp with run := some r })

/-- A granted panel snapshot (R126). -/
def snapshot (o : PanelOp) (s : State) : State :=
  match readTileAt o.tile (grantOther s) with
  | (s, .values _ v) => snapshotPoint o { tile := o.tile, status := .ok, values := v } .sending s
  | (s, .faulty _) => snapshotPoint o { tile := o.tile, status := .fault, values := zeroTile } .sending s
  | (s, .refused _) => snapshotPoint o { tile := o.tile, status := .fault, values := zeroTile } .sendingChanged s
  | (s, .waits p) => setPanelOp (some { o with phase := p }) s

/-- PANEL_SNAPSHOT: when the arbiter's next grant is PANEL. -/
def panelSnapshot (s : State) : State :=
  match nextGrant s with
  | some (.panel o) => snapshot o s
  | _ => s

/-- PANEL_SNAPSHOT. -/
def execPanelSnapshot (s : State) : Host.Outcome State Fault Refusal :=
  .next (panelSnapshot s)

/-! ## Notices, the stale scan and the profile -/

/-- READ_NOTICES at the PCD (R130). -/
def readNotices (req : Request) (s : State) : State :=
  if req.master != .panel then refuse req .refusedOrigin s
  else if !noArguments req.body then refuse req .badArg s
  else if s.pcd.overflow then reply req .ok .resync s
  else
    let left := s.pcd.notices.drop 8
    reply req .ok (.notices (s.pcd.notices.take 8) left.length) (s.setPcd { s.pcd with notices := left })

/-- READ_NOTICES. -/
def execReadNotices (m : Master) (s : State) : Host.Outcome State Fault Refusal :=
  .next (serve .readNotices m readNotices s)

/-- The lowest-numbered STALE entry at or after the pointer, wrapping from 503 to 0 (R131). -/
def findStale (s : State) : Option TileNo :=
  ((List.finRange 504).find? fun t => decide (s.pcd.scan.val ≤ t.val) && dirOf t s == .stale).or
    ((List.finRange 504).find? fun t => dirOf t s == .stale)

/-- The tile after a tile, 0 after 503. -/
def tileAfter (t : TileNo) : TileNo :=
  ⟨(t.val + 1) % 504, Nat.mod_lt _ (by decide)⟩

/-- The answer of NEXT_STALE to what its scan has found (R131). -/
def answerStale (req : Request) (found : Option TileNo) (s : State) : State :=
  match found with
  | some t => reply req .ok (.stale (some t) s.pcd.overflow) (s.setPcd { s.pcd with scan := tileAfter t })
  | none => reply req .ok (.stale none false) (s.setPcd { s.pcd with overflow := false })

/-- NEXT_STALE at the PCD (R131). -/
def nextStale (req : Request) (s : State) : State :=
  if req.master != .panel then refuse req .refusedOrigin s
  else if !noArguments req.body then refuse req .badArg s
  else answerStale req (findStale s) s

/-- NEXT_STALE. -/
def execNextStale (m : Master) (s : State) : Host.Outcome State Fault Refusal :=
  .next (serve .nextStale m nextStale s)

/-- READ_PROFILE at the PCD (R132), for any master. -/
def readProfile (req : Request) (s : State) : State :=
  if !noArguments req.body then refuse req .badArg s
  else reply req .ok (.profile (profileOf s)) s

/-- READ_PROFILE. -/
def execReadProfile (m : Master) (s : State) : Host.Outcome State Fault Refusal :=
  .next (serve .readProfile m readProfile s)

/-! ## PANEL_HELLO -/

/-- The panel side is reset: the pending request is abandoned with its run, the reply in the slot is discarded, the
directory, the notice queue, the overflow flag and the pointer take their reset values, and the PANEL_HELLO becomes the
outstanding request (R133). A request of PANEL that its block has not served yet is the pending request, and is dropped
(log 26). An operation of the abandoned run stays at the tile cache (R134). -/
def resetPanelSide (req : Request) (s : State) : State :=
  let s := s.setPnp { s.pnp with pending := some req.ticket, slot := none, run := none }
  let s := s.setInbox (s.inbox.filter fun r => r.master != .panel)
  let s := s.setPcd Pcd.reset
  setPanelOp (s.tlc.panel.map fun o => { o with abandoned := true }) s

/-- PANEL_HELLO at the PNP (R119, R133). A body that should be empty and is not makes the answer BAD_ARG; the panel side
is reset all the same, since R133 resets it in the step that takes the request (log 9). -/
def panelHello (req : Request) (s : State) : State :=
  if req.master != .panel then refuse req .refusedOrigin s
  else if !noArguments req.body then refuse req .badArg (resetPanelSide req s)
  else reply req .ok (.profile (profileOf s)) (resetPanelSide req s)

/-- PANEL_HELLO: a PANEL_HELLO that waits at its block is served; the panel port serves PANEL's own in the step that takes
it (R133; log 5). -/
def execPanelHello (m : Master) (s : State) : Host.Outcome State Fault Refusal :=
  .next (serve .panelHello m panelHello s)

end Sys2Proof.Machine
end

