-- ==== Sys2Proof/Machine/Ports.lean ====
section
/-! DEFINITION. The transactions on the two SPI ports (R115 to R117, R129, R180, R181, R190, R191). -/

namespace Sys2Proof.Machine

open Sys2Proof

/-! ## REQUEST transactions -/

/-- What the bytes of a REQUEST transaction hold (R116, R180, R191). -/
inductive SpiRequest where
  | other
  | ignored
  | cut
  | record (kind tag : Byte) (body : List Byte)
  deriving DecidableEq, Repr

/-- The request record within the bytes shifted in, the type byte first (R190, R191). -/
def spiRequest (mosi : List Byte) : SpiRequest :=
  match mosi with
  | [] => .other
  | t :: rest =>
    if t = 0x02#8 ∨ t = 0x03#8 then .other
    else if t ≠ 0x01#8 then .ignored
    else
      match rest with
      | h :: l :: more =>
        let len := natOfBytes [h, l]
        if len < 2 ∨ 300 < len then .ignored
        else
          match more.take len with
          | kind :: tag :: body => if more.length < len then .cut else .record kind tag body
          | _ => .cut
      | _ => .cut

/-- A request record is taken: it takes a ticket, TAKEN rises, and it goes to its owning block; one whose kind is not in
the catalogue is answered BAD_ARG (R119, R171, R180, R186). The port has noted it as outstanding under the ticket. -/
def takeRequest (m : Master) (kind tag : Byte) (body : List Byte) (s : State) : State :=
  let ticket := s.book.ticket
  let s := rise m .taken 1 (s.setBook { s.book with ticket := ticket + 1 })
  match kindOfCode kind with
  | some k => s.setInbox (s.inbox ++ [{ master := m, ticket := ticket, kind := k, tag := tag, body := body }])
  | none =>
    routeReply m ticket { kind := kind, tag := tag, status := .badArg, body := .empty } (countReply m .badArg s)

/-- The code of an acceptance (R190). -/
def acceptanceCode : Acceptance → Byte
  | .taken => 0x00#8
  | .starting => 0x01#8
  | .busy => 0x02#8

/-- The bytes shifted out after a request record: its kind, its tag and the acceptance (R116, R180, R190). -/
def acceptanceBytes (kind tag : Byte) (a : Acceptance) : List Byte :=
  [kind, tag, acceptanceCode a]

/-- The bytes shifted out in an ignored transaction: FFh for every byte of it (R191). -/
def ignoredBytes (n : Nat) : List Byte :=
  List.replicate n 0xFF#8

/-- What the panel port shifted out. -/
def panelOut (o : SpiOut) (s : State) : State :=
  s.setPnp { s.pnp with out := o }

/-- PANEL has a request outstanding (R115). -/
def panelOutstanding (s : State) : Bool :=
  s.pnp.pending.isSome || s.pnp.slot.isSome

/-- A PANEL_HELLO is taken: in that step it takes its ticket, TAKEN rises, the panel side is reset and its reply is placed
in the slot (R133; log 5, log 9). -/
def takeHello (tag : Byte) (body : List Byte) (s : State) : State :=
  let ticket := s.book.ticket
  panelHello { master := .panel, ticket := ticket, kind := .panelHello, tag := tag, body := body }
    (rise .panel .taken 1 (s.setBook { s.book with ticket := ticket + 1 }))

/-- A whole request record on the panel port (R116). A PANEL_HELLO is taken whatever is outstanding. -/
def panelRecord (kind tag : Byte) (body : List Byte) (s : State) : State :=
  if !startupDone s then panelOut (.bytes (acceptanceBytes kind tag .starting)) (rise .panel .refused 1 s)
  else if kind = kindCode .panelHello then panelOut (.bytes (acceptanceBytes kind tag .taken)) (takeHello tag body s)
  else if panelOutstanding s then panelOut (.bytes (acceptanceBytes kind tag .busy)) (rise .panel .refused 1 s)
  else
    let s := s.setPnp { s.pnp with pending := some s.book.ticket }
    panelOut (.bytes (acceptanceBytes kind tag .taken)) (takeRequest .panel kind tag body s)

/-- PANEL_REQUEST_TRANSACTION (R116, R191). -/
def panelRequestTransaction (mosi : List Byte) (s : State) : State :=
  match spiRequest mosi with
  | .other => s
  | .ignored => panelOut (.bytes (ignoredBytes mosi.length)) s
  | .cut => panelOut (.bytes []) s
  | .record kind tag body => panelRecord kind tag body s

/-- PANEL_REQUEST_TRANSACTION. -/
def execPanelRequestTransaction (mosi : List Byte) (s : State) : Host.Outcome State Fault Refusal :=
  .next (panelRequestTransaction mosi s)

/-- What the system port shifted out. -/
def systemOut (o : SpiOut) (s : State) : State :=
  s.setSyp { s.syp with out := o }

/-- SYSTEM has a request outstanding (R180). -/
def systemOutstanding (s : State) : Bool :=
  s.syp.pending.isSome || s.syp.slot.isSome

/-- A whole request record on the system port (R180). -/
def systemRecord (kind tag : Byte) (body : List Byte) (s : State) : State :=
  if !startupDone s then systemOut (.bytes (acceptanceBytes kind tag .starting)) (rise .system .refused 1 s)
  else if systemOutstanding s then systemOut (.bytes (acceptanceBytes kind tag .busy)) (rise .system .refused 1 s)
  else
    let s := s.setSyp { s.syp with pending := some s.book.ticket }
    systemOut (.bytes (acceptanceBytes kind tag .taken)) (takeRequest .system kind tag body s)

/-- SYSTEM_REQUEST_TRANSACTION (R180, R191). -/
def systemRequestTransaction (mosi : List Byte) (s : State) : State :=
  match spiRequest mosi with
  | .other => s
  | .ignored => systemOut (.bytes (ignoredBytes mosi.length)) s
  | .cut => systemOut (.bytes []) s
  | .record kind tag body => systemRecord kind tag body s

/-- SYSTEM_REQUEST_TRANSACTION. -/
def execSystemRequestTransaction (mosi : List Byte) (s : State) : Host.Outcome State Fault Refusal :=
  .next (systemRequestTransaction mosi s)

/-! ## REPLY transactions -/

/-- The bytes of a REPLY transaction after its type byte: length and record, or the NONE record (R190). -/
def slotBytes (slot : Option Reply) : List Byte :=
  match slot with
  | none => bytesOfNat 2 0
  | some r => bytesOfNat 2 (replyBytes r).length ++ replyBytes r

/-- One entry of a delivered run (R129). -/
def deliverTile (x : RunTile) (s : State) : State :=
  match dirOf x.tile s with
  | .sending => setDir x.tile .current s
  | .sendingChanged => appendNotice x.tile (setDir x.tile .stale s)
  | .absent | .current | .stale | .waiting => s

/-- How many tiles of a run carry a status. -/
def tilesWith (st : TileStatus) (xs : List RunTile) : Nat :=
  xs.countP fun x => x.status == st

/-- The delivery of a FETCH_RUN reply (R129). -/
def deliverRun (xs : List RunTile) (s : State) : State :=
  rise .panel .faults (tilesWith .fault xs)
    (rise .panel .tiles (tilesWith .ok xs) (xs.foldl (fun (s : State) (x : RunTile) => deliverTile x s) s))

/-- A reply on the panel port is delivered (R117). -/
def deliverPanel (r : Reply) (s : State) : State :=
  let s := s.setPnp { s.pnp with slot := none }
  match r.body with
  | .run _ _ tiles => deliverRun tiles s
  | _ => s

/-- PANEL_REPLY_TRANSACTION: the slot is shifted out as far as the panel clocks, and delivered when it is read whole
(R117; log 33). -/
def panelReplyTransaction (clocks : Nat) (s : State) : State :=
  let bytes := slotBytes s.pnp.slot
  let t := panelOut (.bytes (bytes.take clocks)) s
  match s.pnp.slot with
  | none => t
  | some r => if bytes.length ≤ clocks then deliverPanel r t else t

/-- PANEL_REPLY_TRANSACTION. -/
def execPanelReplyTransaction (clocks : Nat) (s : State) : Host.Outcome State Fault Refusal :=
  .next (panelReplyTransaction clocks s)

/-- SYSTEM_REPLY_TRANSACTION (R180; log 33). -/
def systemReplyTransaction (clocks : Nat) (s : State) : State :=
  let bytes := slotBytes s.syp.slot
  let t := systemOut (.bytes (bytes.take clocks)) s
  match s.syp.slot with
  | none => t
  | some _ => if bytes.length ≤ clocks then t.setSyp { t.syp with slot := none } else t

/-- SYSTEM_REPLY_TRANSACTION. -/
def execSystemReplyTransaction (clocks : Nat) (s : State) : Host.Outcome State Fault Refusal :=
  .next (systemReplyTransaction clocks s)

/-! ## STATUS transactions -/

/-- PANEL_STATUS_TRANSACTION (R117; log 16). -/
def panelStatusTransaction (s : State) : State :=
  panelOut (.panelStatus (startupDone s) s.pnp.slot.isSome s.pcd.notices.length s.pcd.overflow) s

/-- PANEL_STATUS_TRANSACTION. -/
def execPanelStatusTransaction (s : State) : Host.Outcome State Fault Refusal :=
  .next (panelStatusTransaction s)

/-- SYSTEM_STATUS_TRANSACTION (R181; log 16). -/
def systemStatusTransaction (s : State) : State :=
  systemOut (.systemStatus (startupDone s) s.syp.slot.isSome s.syp.flags s.syp.mask s.fxl.link s.fxl.lec s.fxl.release) s

/-- SYSTEM_STATUS_TRANSACTION. -/
def execSystemStatusTransaction (s : State) : Host.Outcome State Fault Refusal :=
  .next (systemStatusTransaction s)

end Sys2Proof.Machine
end

