-- ==== Sys2Proof/Machine/Link.lean ====
section
/-! DEFINITION. The fixture link: the receiver, the link error counter, the taking of requests, replies, SILENT, release
and the fixture break (chapter 9). -/

namespace Sys2Proof.Machine

open Sys2Proof

/-! ## The link error counter -/

/-- The link state of a counter value, outside SILENT (R170). -/
def linkStateOf (lec : Nat) : LinkState :=
  if lec < 96 then .normal else if lec < 128 then .warning else .guarded

/-- The event of an upward entry below SILENT (R170). -/
def upwardEvent (before after : LinkState) : Option Event :=
  match before, after with
  | .normal, .warning => some .linkWarning
  | .warning, .guarded => some .linkGuarded
  | _, _ => none

/-- An event, if there is one, is raised. -/
def raiseIf (e : Option Event) (s : State) : State :=
  match e with
  | some e => raise e s
  | none => s

/-- The counter takes a value outside SILENT, and the link state follows it (R170). -/
def setLec (n : Nat) (s : State) : State :=
  raiseIf (upwardEvent s.fxl.link (linkStateOf n)) (s.setFxl { s.fxl with lec := n, link := linkStateOf n })

/-- The tickets of the stations' outstanding requests. -/
def outstandingTickets (f : Fxl) : List Nat :=
  f.outstanding.toList.filterMap id

/-- Every place and deferred reply is emptied, the queue with them, and every outstanding request is marked abandoned
(R175, R179). -/
def letGo (f : Fxl) : Fxl :=
  { f with outstanding := Vector.replicate 4 none, place := Vector.replicate 4 none, deferred := Vector.replicate 4 none,
           queue := [], abandoned := f.abandoned ++ outstandingTickets f }

/-- The reservations of the four stations are cleared (R146, R175). -/
def clearStationReservations (s : State) : State :=
  s.setSrb { s.srb with reserve := Vector.ofFn fun i : Fin 5 => if i.val < 4 then none else s.srb.reserve[i] }

/-- The link enters SILENT (R175). -/
def enterSilent (s : State) : State :=
  raise .linkSilent
    (clearStationReservations (s.setFxl { letGo s.fxl with lec := 255, link := .silent, release := 0 }))

/-- The effect of a bad frame (R170, R176). -/
def badFrameEffect (s : State) : State :=
  if s.fxl.link = .silent then s.setFxl { s.fxl with release := 0 }
  else if s.fxl.lec + 8 ≤ 255 then setLec (s.fxl.lec + 8) s
  else enterSilent s

/-- The effect of a well-formed frame on the counter (R170). -/
def goodFrameEffect (s : State) : State :=
  if s.fxl.link = .silent then s else setLec (s.fxl.lec - 1) s

/-! ## The receiver -/

/-- The receiver's state changes. -/
def setReceiver (r : Receiver) (s : State) : State :=
  s.setFxl { s.fxl with receiver := r }

/-- SYNC_CHARACTER_RECEIVED: a hunting receiver starts a frame; nothing is taken while a reply is sent (R168). -/
def syncCharacterReceived (s : State) : State :=
  if s.fxl.receiver = .hunting ∧ s.fxl.sending = false then setReceiver .inFrame s else s

/-- SYNC_CHARACTER_RECEIVED. -/
def execSyncCharacterReceived (s : State) : Host.Outcome State Fault Refusal :=
  .next (syncCharacterReceived s)

/-- How a frame is judged bad at its last character, and the receiver after it (R168, R169): dropping after a part before
the CRC, hunting after the CRC. After a framing error in any character, one of the CRC included, the receiver drops (log 39). -/
def badVerdict (chars : List Byte) (framingError : Bool) : Option Receiver :=
  if framingError then
    if !chars.isEmpty && frameOpen chars.dropLast then some .dropping else none
  else
    match judgeFrame chars with
    | .badKind | .badLength => some .dropping
    | .badCrc => some .hunting
    | .open_ | .notOne | .good _ _ _ _ => none

/-- BAD_FRAME (R168 to R170; log 29). -/
def badFrame (chars : List Byte) (framingError : Bool) (s : State) : State :=
  if s.fxl.receiver = .inFrame then
    match badVerdict chars framingError with
    | some r => badFrameEffect (setReceiver r s)
    | none => s
  else s

/-- BAD_FRAME. -/
def execBadFrame (chars : List Byte) (framingError : Bool) (s : State) : Host.Outcome State Fault Refusal :=
  .next (badFrame chars framingError s)

/-- FRAME_GAP_TIMEOUT: the frame is bad, and the receiver hunts at once (R168 to R170). -/
def frameGapTimeout (s : State) : State :=
  if s.fxl.receiver = .inFrame then badFrameEffect (setReceiver .hunting s) else s

/-- FRAME_GAP_TIMEOUT. -/
def execFrameGapTimeout (s : State) : Host.Outcome State Fault Refusal :=
  .next (frameGapTimeout s)

/-- DROPPING_IDLE_END: a dropping receiver hunts again (R169). -/
def droppingIdleEnd (s : State) : State :=
  if s.fxl.receiver = .dropping then setReceiver .hunting s else s

/-- DROPPING_IDLE_END. -/
def execDroppingIdleEnd (s : State) : Host.Outcome State Fault Refusal :=
  .next (droppingIdleEnd s)

/-! ## REQUEST frames -/

/-- The part of a payload that names the request, and the body after it (R171, R190). -/
structure FrameRequest where
  station : Station
  tag     : Byte
  payload : List Byte
  deriving DecidableEq, Repr

/-- An answer of the link's own (R171, R172): counted in REFUSED whether or not it is dropped. -/
def fxlAnswer (st : Station) (kind tag : Byte) (status : Status) (s : State) : State :=
  placeAnswer st { kind := kind, tag := tag, status := status, body := .empty } (countReply (.station st) status s)

/-- The kind byte of the answer to a frame whose payload holds none: a free value (log 14). -/
def absentKindAnswer (st : Station) (tag : Byte) (status : Status) (s : State) : State :=
  fxlAnswer st (Config.absentKind s.book.freeUses) tag status
    (s.setBook { s.book with freeUses := s.book.freeUses + 1 })

/-- The link's own answer to a request (R171). -/
def answerRequest (r : FrameRequest) (status : Status) (s : State) : State :=
  match r.payload with
  | kind :: _ => fxlAnswer r.station kind r.tag status s
  | [] => absentKindAnswer r.station r.tag status s

/-- The request is write-type (section 2.6, R171); a payload without a kind is not one of the read-type requests
(log 15). -/
def isWriteType (payload : List Byte) : Bool :=
  match payload with
  | kind :: _ =>
    match kindOfCode kind with
    | some k => !isReadKind k
    | none => true
  | [] => true

/-- A station's request is taken (R171). -/
def takeStationRequest (st : Station) (kind tag : Byte) (body : List Byte) (s : State) : State :=
  takeRequest (.station st) kind tag body
    (s.setFxl { s.fxl with outstanding := s.fxl.outstanding.set st (some s.book.ticket) })

/-- The table of R171; `before` is the link state as the frame found it (log 32). -/
def requestEffect (r : FrameRequest) (before : LinkState) (s : State) : State :=
  if !startupDone s then answerRequest r .starting s
  else if (s.fxl.outstanding[r.station]).isSome then answerRequest r .busy s
  else if before = .guarded ∧ isWriteType r.payload = true then answerRequest r .linkGuarded s
  else
    match r.payload with
    | [] => answerRequest r .badArg s
    | kind :: body => takeStationRequest r.station kind r.tag body s

/-- A well-formed REQUEST frame: the counter, then the request; in SILENT it is ignored (R170, R171, R176). -/
def goodRequest (r : FrameRequest) (s : State) : State :=
  if s.fxl.link = .silent then s else requestEffect r s.fxl.link (goodFrameEffect s)

/-- REQUEST_FRAME (R168 to R171; log 29). -/
def requestFrame (chars : List Byte) (s : State) : State :=
  if s.fxl.receiver = .inFrame then
    match judgeFrame chars with
    | .good .request st tag payload =>
      goodRequest { station := st, tag := tag, payload := payload } (setReceiver .hunting s)
    | _ => s
  else s

/-- REQUEST_FRAME. -/
def execRequestFrame (chars : List Byte) (s : State) : Host.Outcome State Fault Refusal :=
  .next (requestFrame chars s)

/-! ## IDLE_MARK frames and release -/

/-- The link is released from SILENT by its frames (R177). -/
def releaseLink (s : State) : State :=
  raise .linkReleased (s.setFxl { s.fxl with lec := 0, link := .normal, release := 0 })

/-- A well-formed IDLE_MARK frame (R170, R177). -/
def goodIdleMark (s : State) : State :=
  if s.fxl.link = .silent then
    if Config.releaseFrames ≤ s.fxl.release + 1 then releaseLink s
    else s.setFxl { s.fxl with release := s.fxl.release + 1 }
  else goodFrameEffect s

/-- IDLE_MARK (R168 to R170, R177; log 29). -/
def idleMark (chars : List Byte) (s : State) : State :=
  if s.fxl.receiver = .inFrame then
    match judgeFrame chars with
    | .good .idleMark _ _ _ => goodIdleMark (setReceiver .hunting s)
    | _ => s
  else s

/-- IDLE_MARK. -/
def execIdleMark (chars : List Byte) (s : State) : Host.Outcome State Fault Refusal :=
  .next (idleMark chars s)

/-! ## Replies -/

/-- REPLY_FRAME_START: with the receiver hunting and a station in the queue, sending starts (R173). -/
def replyFrameStart (s : State) : State :=
  if s.fxl.receiver = .hunting ∧ s.fxl.sending = false ∧ s.fxl.queue ≠ [] then
    s.setFxl { s.fxl with sending := true }
  else s

/-- REPLY_FRAME_START. -/
def execReplyFrameStart (s : State) : Host.Outcome State Fault Refusal :=
  .next (replyFrameStart s)

/-- A station's deferred reply enters its place, and the station joins the tail of the queue (item 3 of R173). -/
def placeDeferred (st : Station) (f : Fxl) : Fxl :=
  match f.deferred[st] with
  | none => f
  | some r =>
    { f with place := f.place.set st (some { reply := r, own := true }), deferred := f.deferred.set st none,
             queue := f.queue ++ [st] }

/-- The reply of the head of the queue has been sent in full (R173). -/
def replySent (st : Station) (p : Placed) (f : Fxl) : Fxl :=
  placeDeferred st
    { f with sending := false, out := replyFrame st p.reply, queue := f.queue.tail, place := f.place.set st none,
             outstanding := if p.own then f.outstanding.set st none else f.outstanding }

/-- REPLY_FRAME_SENT (R173). -/
def replyFrameSent (s : State) : State :=
  if s.fxl.sending then
    match s.fxl.queue with
    | [] => s
    | st :: _ =>
      match s.fxl.place[st] with
      | none => s
      | some p => s.setFxl (replySent st p s.fxl)
  else s

/-- REPLY_FRAME_SENT. -/
def execReplyFrameSent (s : State) : Host.Outcome State Fault Refusal :=
  .next (replyFrameSent s)

/-! ## FIXTURE_BREAK -/

/-- The link interface is reset by a break (R166, R179). -/
def resetLink (s : State) : State :=
  let t := s.setFxl
    { letGo s.fxl with lec := 0, link := .normal, release := 0, receiver := .hunting, sending := false }
  if s.fxl.link = .silent then raise .linkReleased t else t

/-- FIXTURE_BREAK: a frame that was arriving is judged bad first (R179; log 23). -/
def fixtureBreak (s : State) : State :=
  resetLink (if s.fxl.receiver = .inFrame then badFrameEffect s else s)

/-- FIXTURE_BREAK. -/
def execFixtureBreak (s : State) : Host.Outcome State Fault Refusal :=
  .next (fixtureBreak s)

end Sys2Proof.Machine
end

