-- ==== Sys2Proof/Machine/System.lean ====
section
/-! DEFINITION. The system side: LINK_RESUME, the event requests, the counter requests and WRITE_CONFIG (R178, R185, R187,
R189). -/

namespace Sys2Proof.Machine

open Sys2Proof

/-! ## LINK_RESUME -/

/-- The link is released or its counter paid back, from the system side (R178). -/
def resumeLink (s : State) : State :=
  let t := s.setFxl { s.fxl with lec := 0, link := .normal, release := 0 }
  if s.fxl.link = .silent then raise .linkReleased t else t

/-- LINK_RESUME at the FXL (R178). -/
def linkResume (req : Request) (s : State) : State :=
  if req.master != .system then refuse req .refusedOrigin s
  else if !noArguments req.body then refuse req .badArg s
  else reply req .ok (.link s.fxl.link s.fxl.lec) (resumeLink s)

/-- LINK_RESUME. -/
def execLinkResume (m : Master) (s : State) : Host.Outcome State Fault Refusal :=
  .next (serve .linkResume m linkResume s)

/-! ## Events -/

/-- The reply of ACK_EVENTS and SET_EVENT_MASK (R185). -/
def replyFlags (req : Request) (s : State) : State :=
  reply req .ok (.flags s.syp.flags s.syp.mask) s

/-- ACK_EVENTS at the SYP (R185). -/
def ackEvents (req : Request) (s : State) : State :=
  if req.master != .system then refuse req .refusedOrigin s
  else
    match parseEventBits req.body with
    | none => refuse req .badArg s
    | some bits => replyFlags req (s.setSyp { s.syp with flags := s.syp.flags &&& ~~~bits })

/-- ACK_EVENTS. -/
def execAckEvents (m : Master) (s : State) : Host.Outcome State Fault Refusal :=
  .next (serve .ackEvents m ackEvents s)

/-- SET_EVENT_MASK at the SYP (R185). -/
def setEventMask (req : Request) (s : State) : State :=
  if req.master != .system then refuse req .refusedOrigin s
  else
    match parseEventBits req.body with
    | none => refuse req .badArg s
    | some bits => replyFlags req (s.setSyp { s.syp with mask := bits })

/-- SET_EVENT_MASK. -/
def execSetEventMask (m : Master) (s : State) : Host.Outcome State Fault Refusal :=
  .next (serve .setEventMask m setEventMask s)

/-! ## Counters -/

/-- READ_COUNTERS at the MCT, for any master (R187). -/
def readCounters (req : Request) (s : State) : State :=
  if !noArguments req.body then refuse req .badArg s
  else reply req .ok (.counters s.mct.counter s.mct.wrap) s

/-- READ_COUNTERS. -/
def execReadCounters (m : Master) (s : State) : Host.Outcome State Fault Refusal :=
  .next (serve .readCounters m readCounters s)

/-- A counter is among those that a selector names (R187). -/
def selects (sel : CounterSelect) (i : Fin 24) : Bool :=
  match sel with
  | .master m => decide (i.val / 4 = m.val)
  | .counter c => i == c

/-- The named counters and wrap flags are cleared (R187). -/
def clearSelected (sel : CounterSelect) (c : Mct) : Mct :=
  { counter := Vector.ofFn fun i : Fin 24 => if selects sel i then 0 else c.counter[i],
    wrap := Vector.ofFn fun i : Fin 24 => if selects sel i then false else c.wrap[i] }

/-- CLEAR_COUNTERS at the MCT (R187). -/
def clearCounters (req : Request) (s : State) : State :=
  if req.master != .system then refuse req .refusedOrigin s
  else
    match parseSelect req.body with
    | none => refuse req .badArg s
    | some sel => reply req .ok .empty (s.setMct (clearSelected sel s.mct))

/-- CLEAR_COUNTERS. -/
def execClearCounters (m : Master) (s : State) : Host.Outcome State Fault Refusal :=
  .next (serve .clearCounters m clearCounters s)

/-! ## Configuration -/

/-- WRITE_CONFIG at the MFC: the configuration carried is live at once, a config record program is presented, and the
reply is withheld (R189). -/
def writeConfig (req : Request) (s : State) : State :=
  if req.master != .system then refuse req .refusedOrigin s
  else if !stageAdmits openStage s then refuse req .refusedStage s
  else
    match parseConfig req.body with
    | none => refuse req .badArg s
    | some c => presentProgram (.config req c) (s.setConfig c)

/-- WRITE_CONFIG. -/
def execWriteConfig (m : Master) (s : State) : Host.Outcome State Fault Refusal :=
  .next (serve .writeConfig m writeConfig s)

/-- The config home takes a content. -/
def setConfigHome (h : Home ConfigRecord) (s : State) : State :=
  s.setHomes { s.homes with config := h }

/-- CONFIG_PROGRAM_COMPLETE (R189; log 8). -/
def configProgramComplete (verified : Bool) (s : State) : State :=
  match s.mfc.flash with
  | .programming (.record (.config req c)) seq =>
    if verified then
      let s := setConfigHome (.holds { signed := true, config := c, seq := seq }) s
      programDone (reply req .ok (.config s.config) s)
    else programDone (refuse req .flashFault (setConfigHome .failing s))
  | _ => s

/-- CONFIG_PROGRAM_COMPLETE. -/
def execConfigProgramComplete (verified : Bool) (s : State) : Host.Outcome State Fault Refusal :=
  .next (configProgramComplete verified s)

end Sys2Proof.Machine
end

