-- ==== Sys2Proof/Machine/Dispatch.lean ====
section
/-! DEFINITION. The meaning of each command. -/

namespace Sys2Proof.Machine

open Sys2Proof

/-- The effect of a command on everything but the queue of commands. -/
def exec (i : Instr) (s : State) : Host.Outcome State Fault Refusal :=
  match i with
  | .powerOn => Sys2Proof.Machine.execPowerOn s
  | .resetAssert => Sys2Proof.Machine.execResetAssert s
  | .resetRelease => Sys2Proof.Machine.execResetRelease s
  | .startupConfigRead => Sys2Proof.Machine.execStartupConfigRead s
  | .spareScan => Sys2Proof.Machine.execSpareScan s
  | .headerLoad => Sys2Proof.Machine.execHeaderLoad s
  | .keyHomeLoad => Sys2Proof.Machine.execKeyHomeLoad s
  | .regionLabelLoad => Sys2Proof.Machine.execRegionLabelLoad s
  | .stageLoad => Sys2Proof.Machine.execStageLoad s
  | .panelRequestTransaction mosi => Sys2Proof.Machine.execPanelRequestTransaction mosi s
  | .panelReplyTransaction clocks => Sys2Proof.Machine.execPanelReplyTransaction clocks s
  | .panelStatusTransaction => Sys2Proof.Machine.execPanelStatusTransaction s
  | .systemRequestTransaction mosi => Sys2Proof.Machine.execSystemRequestTransaction mosi s
  | .systemReplyTransaction clocks => Sys2Proof.Machine.execSystemReplyTransaction clocks s
  | .systemStatusTransaction => Sys2Proof.Machine.execSystemStatusTransaction s
  | .requestFrame chars => Sys2Proof.Machine.execRequestFrame chars s
  | .idleMark chars => Sys2Proof.Machine.execIdleMark chars s
  | .badFrame chars framingError => Sys2Proof.Machine.execBadFrame chars framingError s
  | .frameGapTimeout => Sys2Proof.Machine.execFrameGapTimeout s
  | .droppingIdleEnd => Sys2Proof.Machine.execDroppingIdleEnd s
  | .replyFrameStart => Sys2Proof.Machine.execReplyFrameStart s
  | .replyFrameSent => Sys2Proof.Machine.execReplyFrameSent s
  | .fixtureBreak => Sys2Proof.Machine.execFixtureBreak s
  | .openCapture m => Sys2Proof.Machine.execOpenCapture m s
  | .putRow m => Sys2Proof.Machine.execPutRow m s
  | .discardCapture m => Sys2Proof.Machine.execDiscardCapture m s
  | .captureState m => Sys2Proof.Machine.execCaptureState m s
  | .submitJob m => Sys2Proof.Machine.execSubmitJob m s
  | .readBox m => Sys2Proof.Machine.execReadBox m s
  | .holdBox m => Sys2Proof.Machine.execHoldBox m s
  | .editBox m => Sys2Proof.Machine.execEditBox m s
  | .releaseBox m => Sys2Proof.Machine.execReleaseBox m s
  | .cancelJob m => Sys2Proof.Machine.execCancelJob m s
  | .freeBox m => Sys2Proof.Machine.execFreeBox m s
  | .holdExpiry box => Sys2Proof.Machine.execHoldExpiry box s
  | .jobStart => Sys2Proof.Machine.execJobStart s
  | .passTileOperation => Sys2Proof.Machine.execPassTileOperation s
  | .clearTileOperation => Sys2Proof.Machine.execClearTileOperation s
  | .commitCopyOut => Sys2Proof.Machine.execCommitCopyOut s
  | .readTile m => Sys2Proof.Machine.execReadTile m s
  | .readTileAccess => Sys2Proof.Machine.execReadTileAccess s
  | .writeTile m => Sys2Proof.Machine.execWriteTile m s
  | .writeTileAccess => Sys2Proof.Machine.execWriteTileAccess s
  | .panelSnapshot => Sys2Proof.Machine.execPanelSnapshot s
  | .fillInstall => Sys2Proof.Machine.execFillInstall s
  | .lockWays m => Sys2Proof.Machine.execLockWays m s
  | .drain m => Sys2Proof.Machine.execDrain m s
  | .drainReply => Sys2Proof.Machine.execDrainReply s
  | .storageFault place changes => Sys2Proof.Machine.execStorageFault place changes s
  | .flashGrant => Sys2Proof.Machine.execFlashGrant s
  | .fillReadComplete => Sys2Proof.Machine.execFillReadComplete s
  | .tileProgramComplete verified => Sys2Proof.Machine.execTileProgramComplete verified s
  | .uncommitProgramComplete verified => Sys2Proof.Machine.execUncommitProgramComplete verified s
  | .headerCheckReadComplete => Sys2Proof.Machine.execHeaderCheckReadComplete s
  | .commitDrainDone => Sys2Proof.Machine.execCommitDrainDone s
  | .commitHeaderComplete verified => Sys2Proof.Machine.execCommitHeaderComplete verified s
  | .panelHello m => Sys2Proof.Machine.execPanelHello m s
  | .fetchRun m => Sys2Proof.Machine.execFetchRun m s
  | .readNotices m => Sys2Proof.Machine.execReadNotices m s
  | .nextStale m => Sys2Proof.Machine.execNextStale m s
  | .readProfile m => Sys2Proof.Machine.execReadProfile m s
  | .loadKey m => Sys2Proof.Machine.execLoadKey m s
  | .fixKey m => Sys2Proof.Machine.execFixKey m s
  | .keyFixComplete verified => Sys2Proof.Machine.execKeyFixComplete verified s
  | .eraseKey m => Sys2Proof.Machine.execEraseKey m s
  | .keyEraseComplete verified => Sys2Proof.Machine.execKeyEraseComplete verified s
  | .checkKey m => Sys2Proof.Machine.execCheckKey m s
  | .releaseKey m => Sys2Proof.Machine.execReleaseKey m s
  | .readRegion m => Sys2Proof.Machine.execReadRegion m s
  | .readLabel m => Sys2Proof.Machine.execReadLabel m s
  | .writeRegion m => Sys2Proof.Machine.execWriteRegion m s
  | .writeLabel m => Sys2Proof.Machine.execWriteLabel m s
  | .recordWriteComplete verified => Sys2Proof.Machine.execRecordWriteComplete verified s
  | .stageQuery m => Sys2Proof.Machine.execStageQuery m s
  | .closeSet m => Sys2Proof.Machine.execCloseSet m s
  | .closeProgramComplete verified => Sys2Proof.Machine.execCloseProgramComplete verified s
  | .reopenSet m => Sys2Proof.Machine.execReopenSet m s
  | .reopenProgramComplete verified => Sys2Proof.Machine.execReopenProgramComplete verified s
  | .linkResume m => Sys2Proof.Machine.execLinkResume m s
  | .ackEvents m => Sys2Proof.Machine.execAckEvents m s
  | .setEventMask m => Sys2Proof.Machine.execSetEventMask m s
  | .readCounters m => Sys2Proof.Machine.execReadCounters m s
  | .clearCounters m => Sys2Proof.Machine.execClearCounters m s
  | .writeConfig m => Sys2Proof.Machine.execWriteConfig m s
  | .configProgramComplete verified => Sys2Proof.Machine.execConfigProgramComplete verified s
  | .syncCharacterReceived => Sys2Proof.Machine.execSyncCharacterReceived s

end Sys2Proof.Machine
end

