-- ==== Sys2Proof/Machine/Step.lean ====
section
/-! DEFINITION. One step: the command at the front of the queue, or an idle tick. -/

namespace Sys2Proof.Machine

open Sys2Proof

/-- A box is held, and its deadline has been reached. -/
def deadlineReached (s : State) (b : Fin 16) : Bool :=
  match boxAt b s with
  | none => false
  | some x =>
    match x.hold with
    | none => false
    | some d => decide (d ≤ s.book.now)

/-- The block idles: one microsecond passes, but the clock does not pass the deadline of a held box, at which HOLD_EXPIRY
comes first (log 2, log 3). -/
def idle (s : State) : State :=
  if (List.finRange 16).any (deadlineReached s) then s
  else s.setBook { s.book with now := s.book.now + 1 }

/-- The command at the front of the queue is executed on the state with the queue's rest; on an empty queue the block
idles (log 2). -/
def step (s : State) : Host.Outcome State Fault Refusal :=
  match s.pending with
  | [] => .next (idle s)
  | c :: rest => exec c (s.setPending rest)

/-- The state with the command that a word spells put at the front of the queue; the table's rows have no bits, so no
word spells one, and the state is unchanged. -/
def State.withFetchWord (s : State) (nbits w : Nat) : State :=
  match decodeTableWord nbits w with
  | some c => s.setPending (c :: s.pending)
  | none => s

end Sys2Proof.Machine
end

