-- ==== Sys2Proof/Safety.lean ====
section
/-! DEFINITION. What a sound state is, part by part: the conditions that the rules say hold in every state of the part. -/

namespace Sys2Proof.Machine

open Sys2Proof

/-! ## The fixture link (R166, R170, R172, R173) -/

/-- The counter lies within 0..255; SILENT stands at 255; outside SILENT the link state follows the counter and the
release count is 0; the release count stays below 128. -/
def LinkSound (f : Fxl) : Prop :=
  f.lec ≤ 255 ∧ f.release < Config.releaseFrames ∧ (f.link = .silent → f.lec = 255) ∧
    (f.link ≠ .silent → f.link = linkStateOf f.lec ∧ f.release = 0)

/-- The reply queue holds each station whose place holds a reply once, and no other; a station with a deferred reply has a
reply in its place; a reply is sent for the head of the queue, with the receiver hunting. -/
def ReplyQueueSound (f : Fxl) : Prop :=
  f.queue.Nodup ∧ (∀ st : Station, st ∈ f.queue ↔ (f.place[st]).isSome = true) ∧
    (∀ st : Station, (f.deferred[st]).isSome = true → (f.place[st]).isSome = true) ∧
    (f.sending = true → f.receiver = .hunting ∧ f.queue ≠ [])

/-! ## The panel copy directory (R122, R123) -/

/-- The notice queue holds at most 32 tile numbers, none twice, each of a STALE tile, and none while the overflow flag is
set. -/
def NoticesSound (p : Pcd) : Prop :=
  p.notices.length ≤ Config.noticeRoom ∧ p.notices.Nodup ∧ (∀ t ∈ p.notices, p.dir[t] = .stale) ∧
    (p.overflow = true → p.notices = [])

/-! ## The write-back queue (R86) -/

/-- The write-back queue holds at most 4 copies. -/
def QueueSound (s : State) : Prop :=
  s.tlc.queue.length ≤ Config.queueRoom

/-! ## Start-up (section 5.8, R182) -/

/-- Until start-up is done no request is inside the part, the tile cache, the job table and the flash are as a reset left
them, and the stage is OPEN with no program in flight. -/
def StartupQuiet (s : State) : Prop :=
  startupDone s = false →
    s.inbox = [] ∧ s.tlc = .reset ∧ s.jobs = .reset ∧ s.mfc.flash = .idle ∧ s.mfc.reads = [] ∧ s.mfc.programs = [] ∧
      s.mfc.wear = .normal ∧ s.srb.stage = .reset

/-! ## The tile cache's entries (R68, R85) -/

/-- Each entry stands in its tile's set, and no tile is held by two entries. -/
def OneEntryPerTile (s : State) : Prop :=
  (∀ (i : Fin 16) (w : Fin 8) (e : Entry), entryAt i w s = some e → setOf e.tile = i) ∧
    ∀ (i : Fin 16) (w x : Fin 8) (e f : Entry),
      entryAt i w s = some e → entryAt i x s = some f → e.tile = f.tile → w = x

/-- The number of FAULTY entries. -/
def faultyEntries (s : State) : Nat :=
  ((List.finRange 16).map fun i => (List.finRange 8).countP fun w => isFaulty i w s).sum

/-- A tile is held by at most one entry, and the working header's faulty count is the number of FAULTY entries. -/
def EntriesSound (s : State) : Prop :=
  StartupQuiet s ∧ OneEntryPerTile s ∧ s.mfc.header.faulty = faultyEntries s

/-! ## The running job (R43, R51) -/

/-- The kind of job that a work belongs to. -/
def kindOfWork : Work → JobKind
  | .pass _ => .runPass
  | .clear _ => .clearMap
  | .commit _ => .commitMap

/-- A box is RUNNING exactly when the engine works on it, so that at most one is; the work is of the box's kind, and its
start checks have passed; a RUN_PASS box has its arguments; and the capture is LOCKED exactly while a RUN_PASS box is
RUNNING. -/
def RunningSound (s : State) : Prop :=
  (∀ (b : Fin 16) (x : Box), boxAt b s = some x → x.state = .running →
    ∃ w : Work, s.jobs.running = some { box := b, work := w }) ∧
  (∀ (b : Fin 16) (w : Work), s.jobs.running = some { box := b, work := w } →
    ∃ x : Box, boxAt b s = some x ∧ x.state = .running ∧ x.kind = kindOfWork w ∧ x.started = true) ∧
  (∀ (b : Fin 16) (x : Box), boxAt b s = some x → x.kind = .runPass → x.args.isSome = true) ∧
  (s.cap.state = .locked ↔ ∃ (b : Fin 16) (p : PassWork), s.jobs.running = some { box := b, work := .pass p })

/-! ## The committed promise (R104) -/

/-- The header home claims a committed map. -/
def claimsCommitted (h : Home HeaderRecord) : Bool :=
  match h with
  | .holds r => r.signed && r.committed
  | .erased | .failing => false

/-- The header home has been read since the last reset. -/
def headerRead : BootPhase → Bool
  | .key _ | .region | .label | .stage | .done => true
  | .held | .config | .spare _ | .header => false

/-- What a flash program may carry: a commit's header is signed and committed, an uncommit's is not committed. -/
def headerJobSound : FlashState → Prop
  | .programming (.header h) _ => h.signed = true ∧ h.committed = true
  | .programming (.uncommit h) _ => h.committed = false
  | _ => True

/-- A tile is being programmed. -/
def programmingTile : FlashState → Bool
  | .programming (.tile _ _) _ => true
  | _ => false

/-- The marker is set exactly while the header record in flash claims committed, and while a tile is being programmed the
flash claims nothing. -/
def PromiseSound (s : State) : Prop :=
  StartupQuiet s ∧ headerJobSound s.mfc.flash ∧
    (headerRead s.boot.phase = true → s.mfc.marker = claimsCommitted s.homes.header) ∧
    (programmingTile s.mfc.flash = true → s.mfc.marker = false)

/-! ## The remap table (R101, R102) -/

/-- The home of the tile program in flight, if there is one, is the home that the remap table names. -/
def tileProgramAtHome (s : State) : Prop :=
  match s.mfc.flash with
  | .programming (.tile c home) _ => homeOf c.tile s = home
  | _ => True

/-- No tile appears twice in the remap table, and a tile is programmed at the home that the table names. -/
def RemapSound (s : State) : Prop :=
  StartupQuiet s ∧ tileProgramAtHome s ∧
    ∀ (j k : Fin 24) (t : TileNo), s.mfc.spares[j] = .mapped t → s.mfc.spares[k] = .mapped t → j = k

/-! ## Map values (R68, R86, R94) -/

/-- Every value of a tile lies within -511..511. -/
def inRange (v : TileValues) : Prop :=
  ∀ k : Fin 32, -511 ≤ v[k] ∧ v[k] ≤ 511

/-- The values of a cache entry lie in range. -/
def entryInRange (e : Entry) : Prop :=
  match e.state with
  | .clean v _ | .dirty v _ => inRange v
  | .filling | .faulty => True

/-- The values of a fill result lie in range. -/
def fillInRange (r : FillResult) : Prop :=
  match r with
  | .values v => inRange v
  | .erased | .failed => True

/-- The values that an ACCESS operation writes lie in range. -/
def accessInRange (k : AccessKind) : Prop :=
  match k with
  | .write v _ => inRange v
  | .read => True

/-- The values of a tile record lie in range. -/
def homeInRange (h : Home TileRecord) : Prop :=
  match h with
  | .holds r => inRange r.values
  | .erased | .failing => True

/-- The values of the tile copy being programmed lie in range. -/
def flashInRange (f : FlashState) : Prop :=
  match f with
  | .programming (.tile c _) _ => inRange c.values
  | _ => True

/-- The value limit of a box's arguments lies in the range of R4. -/
def limitInRange (x : Box) : Prop :=
  match x.args with
  | some a => a.valLimit ≤ 511
  | none => True

/-- Every map value in the cache, in the write-back queue, on its way to or from them, and in flash lies within
-511..511. -/
def ValuesSound (s : State) : Prop :=
  (∀ (i : Fin 16) (w : Fin 8) (e : Entry), entryAt i w s = some e → entryInRange e) ∧
  (∀ c ∈ s.tlc.queue, inRange c.values) ∧ (∀ f ∈ s.tlc.fills, fillInRange f.result) ∧
  (∀ o ∈ s.tlc.access, accessInRange o.kind) ∧ (∀ t : TileNo, homeInRange s.homes.tile[t]) ∧
  (∀ k : Fin 24, homeInRange s.homes.spare[k]) ∧ flashInRange s.mfc.flash ∧
  (∀ (b : Fin 16) (x : Box), boxAt b s = some x → limitInRange x)

/-! ## The closed set (R158) -/

/-- The record programs inside the part: the one in flight, then the presented ones. -/
def recordPrograms (s : State) : List RecordProgram :=
  match s.mfc.flash with
  | .programming (.record p) _ => p :: s.mfc.programs
  | _ => s.mfc.programs

/-- The slot whose home a record program programs. -/
def slotOfProgram : RecordProgram → Option (Fin 12)
  | .keyFix _ k _ => some k
  | .keyErase _ k => some k
  | _ => none

/-- The stage program that a record program is. -/
def stageOfProgram : RecordProgram → Option StageProgram
  | .close _ _ _ => some .closing
  | .reopen _ _ _ => some .reopening
  | _ => none

/-- At most one program of a key slot is inside the part, and then the slot's program pending flag is set. -/
def KeyProgramsSound (s : State) : Prop :=
  ((recordPrograms s).filterMap slotOfProgram).Nodup ∧
    ∀ k ∈ (recordPrograms s).filterMap slotOfProgram, (slotAt k s).pending = true

/-- At most one stage program is inside the part, and the stage record names it. -/
def StageProgramSound (s : State) : Prop :=
  ((recordPrograms s).filterMap stageOfProgram).length ≤ 1 ∧
    ∀ p ∈ (recordPrograms s).filterMap stageOfProgram, s.srb.stage.program = p

/-- While the set is CLOSED, and while a close is in flight, every required key slot is FIXED with no program pending and
the region and label records are committed. -/
def ClosedSound (s : State) : Prop :=
  StartupQuiet s ∧ KeyProgramsSound s ∧ StageProgramSound s ∧
    (s.srb.stage.stage = .closed ∨ s.srb.stage.program = .closing →
      keysPresent s = true ∧ regionPresent s = true ∧ labelPresent s = true)

/-! ## Terms of the statements -/

/-- The state once the owning block has taken a request from its port. -/
def withoutRequest (req : Request) (s : State) : State :=
  s.setInbox (s.inbox.erase req)

/-- A station's request of a kind waits at its owning block, the station holds the role, and the stage is OPEN or REWORK
with no change of stage in flight that would refuse it (R161, R165, R171). -/
def lineRequest (role : Role) (k : Kind) (i : Station) (req : Request) (s : State) : Prop :=
  waitingRequest k (.station i) s = some req ∧ roleIn role s.config.roles[i] = true ∧ stageAdmits lineStage s = true

/-- Way `w` holds tile `t` as CLEAN or DIRTY with values `v`, and the check code agrees. -/
def holdsTile (t : TileNo) (w : Fin 8) (v : TileValues) (s : State) : Prop :=
  findWay t s = some w ∧
    (entryAt (setOf t) w s = some { tile := t, state := .clean v (codeOf t v) } ∨
      entryAt (setOf t) w s = some { tile := t, state := .dirty v (codeOf t v) })

/-- The walk of a tree with the lowest `lock` ways locked ends at way `w`: at each node on the way's path the side that holds
it is the side pointed to exactly when that side has an unlocked way (step 2 of R77). A node that is set points to its
upper side. -/
def walkEndsAt (tree : Vector Bool 7) (lock w : Fin 8) : Prop :=
  (decide (4 ≤ w.val) = tree[0] ↔ ∃ x : Fin 8, decide (4 ≤ x.val) = tree[0] ∧ lock ≤ x) ∧
  (decide (2 ≤ w.val % 4) = tree[1 + w.val / 4] ↔
    ∃ x : Fin 8, x.val / 4 = w.val / 4 ∧ decide (2 ≤ x.val % 4) = tree[1 + w.val / 4] ∧ lock ≤ x) ∧
  (decide (w.val % 2 = 1) = tree[3 + w.val / 2] ↔
    ∃ x : Fin 8, x.val / 2 = w.val / 2 ∧ decide (x.val % 2 = 1) = tree[3 + w.val / 2] ∧ lock ≤ x)

/-- Way `w` of a set may be replaced: it is valid, not locked, and CLEAN, or DIRTY with room in the write-back queue
(R78). -/
def replaceable (i : Fin 16) (w : Fin 8) (s : State) : Prop :=
  s.tlc.lock ≤ w ∧ ∃ e : Entry, entryAt i w s = some e ∧
    ((∃ v c, e.state = .clean v c) ∨ (∃ v c, e.state = .dirty v c) ∧ s.tlc.queue.length < 4)

/-- An operation that finds no way to replace in a set must wait: the flash is not WORN, and an unlocked way is FILLING, or
DIRTY with the write-back queue full (R79). -/
def mustWait (i : Fin 16) (s : State) : Prop :=
  s.mfc.wear = .normal ∧ ∃ (w : Fin 8) (e : Entry), s.tlc.lock ≤ w ∧ entryAt i w s = some e ∧
    (e.state = .filling ∨ (∃ v c, e.state = .dirty v c) ∧ 4 ≤ s.tlc.queue.length)

/-- What the replacement of a way adds to the write-back queue: the copy of a DIRTY entry (R75). -/
def copyOfWay (i : Fin 16) (w : Fin 8) (s : State) : List TileCopy :=
  match entryAt i w s with
  | some { tile := t, state := .dirty v c } => [{ tile := t, values := v, code := c }]
  | _ => []

/-- The tile cache has given way `w` of tile `t`'s set to the tile, in a state: the DIRTY victim's copy is at the tail of
the queue, the way is touched, and nothing else of the cache has changed (R74, R75). -/
def wayGiven (t : TileNo) (w : Fin 8) (e : EntryState) (s u : State) : Prop :=
  entryAt (setOf t) w u = some { tile := t, state := e } ∧
    (∀ (j : Fin 16) (x : Fin 8), ¬(j = setOf t ∧ x = w) → entryAt j x u = entryAt j x s) ∧
    (∀ j : Fin 16, (u.tlc.sets[j]).tree =
      if j = setOf t then touchTree w (s.tlc.sets[setOf t]).tree else (s.tlc.sets[j]).tree) ∧
    u.tlc.queue = s.tlc.queue ++ copyOfWay (setOf t) w s

/-- The phase of every operation at the tile cache has become what `f` makes of it: the PANEL operation's, the ACCESS
operations', and the JOB operation's, whose tile is the next tile of the running work; every operation stays at its
requester (R72). -/
def operationsGoOn (f : TileNo → OpPhase → OpPhase) (s t : State) : Prop :=
  t.tlc.panel = s.tlc.panel.map (fun o => { o with phase := f o.tile o.phase }) ∧
    t.tlc.access = s.tlc.access.map (fun o => { o with phase := f o.tile o.phase }) ∧
    t.tlc.job =
      match jobTile s with
      | some u => s.tlc.job.map (f u)
      | none => s.tlc.job

/-- The number of UNUSED spares (R112). -/
def sparesUnused (s : State) : Nat :=
  (Finset.univ.filter fun k : Fin 24 => s.mfc.spares[k] = .unused).card

/-- A commit whose drain waits for its moment has found it (R111). -/
def momentFound (w : CommitWork) : CommitWork :=
  match w.phase with
  | .drain _ => { w with phase := .drain true }
  | .headerRead | .sweep _ | .header => w

/-- The work of a running commit has become what `f` makes of it, in the same box; a pass, a clear, and no job, go on as they
were. -/
def commitGoesOn (f : CommitWork → CommitWork) (s t : State) : Prop :=
  (∀ (b : Fin 16) (w : CommitWork), s.jobs.running = some { box := b, work := .commit w } →
    t.jobs.running = some { box := b, work := .commit (f w) }) ∧
  ((∀ (b : Fin 16) (w : CommitWork), s.jobs.running ≠ some { box := b, work := .commit w }) →
    t.jobs.running = s.jobs.running)

/-- What the end of a flash program makes of the drains: with the write-back queue empty every withheld DRAIN is due OK, if
it has no status yet, and a commit's drain finds its moment; else nothing changes (R92, R98, R111). -/
def drainsTested (s t : State) : Prop :=
  t.tlc.drains = (if s.tlc.queue = [] then s.tlc.drains.map fun d => (d.1, some (d.2.getD .ok)) else s.tlc.drains) ∧
    commitGoesOn (fun w => if s.tlc.queue = [] then momentFound w else w) s t

/-- An operation at the TLC port arbiter is presented, for the first time or again after a wait (R70, R72). -/
def standsPresented (p : OpPhase) : Prop :=
  p = .presented ∨ ∃ inFlight : Bool, p = .resumed inFlight

/-- A tile is included in a pass over a shape: its channel is in the mask, and its plane is below the plane count (R2,
R7). -/
def inPass (sh : Shape) (t : TileNo) : Prop :=
  ∃ (c : Fin 3) (p : Fin 4) (tr : Fin 7) (tc : Fin 6), t.val = ((c.val * 4 + p.val) * 7 + tr.val) * 6 + tc.val ∧
    sh.mask[c] = true ∧ p.val < sh.codes.length

/-- A station does not hold a box: it is FREE, not held, or another station's (R55, R56). -/
def notHolding (i : Station) (b : Fin 16) (s : State) : Prop :=
  ∀ x : Box, boxAt b s = some x → x.hold = none ∨ x.owner ≠ i

/-- Some WINDOW channel of the capture's mask has a plane at which no node of the reference window holds a measured value
other than the saturation marker (check 3 of R61). -/
def referenceLacks (a : PassArgs) (sh : Shape) (cap : Cap) : Prop :=
  ∃ (c : Fin 3) (p : Nat) (w : Window), sh.mask[c] = true ∧ a.modes[c] = .window ∧ p < sh.codes.length ∧
    a.window = some w ∧ ∀ x y : Nat, w.x0 ≤ x → x ≤ w.x1 → w.y0 ≤ y → y ≤ w.y1 → measured cap p c x y = 65535

/-- A fill of tile `t` has been requested: served at once from the newest queued copy, by its own check, or presented to the
flash arbiter as the last tile read (R97, R99). -/
def fillRequested (t : TileNo) (s u : State) : Prop :=
  ((∀ c ∈ s.tlc.queue, c.tile ≠ t) → u.mfc.reads = s.mfc.reads ++ [.fill t] ∧ u.tlc.fills = s.tlc.fills) ∧
    ∀ (before after : List TileCopy) (c : TileCopy), s.tlc.queue = before ++ c :: after → c.tile = t →
      (∀ d ∈ after, d.tile ≠ t) →
      u.mfc.reads = s.mfc.reads ∧
        u.tlc.fills = s.tlc.fills ++
          [{ tile := t, result := if c.code = codeOf t c.values then .values c.values else .failed }]

/-- The job of box `b` has been stopped after its start with `n` tiles written: the box has ended, no box is RUNNING, and the
JOB requester has no operation (R52, R63, R66). -/
def stoppedJob (b : Fin 16) (x : Box) (st : BoxState) (n : Nat) (s : State) : State :=
  { raise .jobEnded s with
    jobs := { s.jobs with
      boxes := s.jobs.boxes.set b (some
        { x with state := st, result := some (.stopped true n), newResult := true, hold := none }),
      running := none },
    tlc := { s.tlc with job := none, jobWait := 0 } }

/-- Every way but one holds what it held. -/
def otherWaysKept (i : Fin 16) (w : Fin 8) (s t : State) : Prop :=
  ∀ (j : Fin 16) (x : Fin 8), ¬(j = i ∧ x = w) → entryAt j x t = entryAt j x s

/-- Every box but one holds what it held. -/
def otherBoxesKept (b : Fin 16) (s t : State) : Prop :=
  ∀ c : Fin 16, c ≠ b → boxAt c t = boxAt c s

/-- Every directory entry but one holds what it held. -/
def otherDirsKept (t : TileNo) (s s' : State) : Prop :=
  ∀ u : TileNo, u ≠ t → dirOf u s' = dirOf u s

/-- The bytes of a REQUEST transaction that carries one whole record (R190). -/
def requestBytes (kind tag : Byte) (body extra : List Byte) : List Byte :=
  0x01#8 :: (bytesOfNat 2 (body.length + 2) ++ (kind :: tag :: body ++ extra))

/-- What a change of a tile makes of its directory entry (R121). -/
def changedDir : DirState → DirState
  | .current => .stale
  | .sending => .sendingChanged
  | .absent => .absent
  | .stale => .stale
  | .waiting => .waiting
  | .sendingChanged => .sendingChanged

/-- The whole-tile write of tile `t` with values `v` stands in way `w`, from state `s` to state `u`: the entry is DIRTY with a
fresh check code, the way is touched, every other way and tree is as it was, and the queue has gained the copy of a DIRTY
entry that a miss replaced; committed is clear, a FAULTY condition of the entry is off the faulty count, and the tile is
marked changed (R73 to R75, R82, R85, R105, R121). -/
def tileStored (t : TileNo) (w : Fin 8) (v : TileValues) (s u : State) : Prop :=
  entryAt (setOf t) w u = some { tile := t, state := .dirty v (codeOf t v) } ∧
    otherWaysKept (setOf t) w s u ∧
    (∀ j : Fin 16, (u.tlc.sets[j]).tree =
      if j = setOf t then touchTree w (s.tlc.sets[setOf t]).tree else (s.tlc.sets[j]).tree) ∧
    u.tlc.queue = s.tlc.queue ++ (if findWay t s = none then copyOfWay (setOf t) w s else []) ∧
    u.mfc.header.committed = false ∧
    u.mfc.header.faulty =
      s.mfc.header.faulty - (if entryAt (setOf t) w s = some { tile := t, state := .faulty } then 1 else 0) ∧
    u.pcd = (markChanged t s).pcd ∧ dirOf t u = changedDir (dirOf t s) ∧ otherDirsKept t s u

/-- Way `w` is the one that a whole-tile write of tile `t` is carried out in at once: the tile's own entry, not FILLING, or
on a miss the victim's way (R73, R75). -/
def wayToWrite (t : TileNo) (w : Fin 8) (s : State) : Prop :=
  (∃ e : Entry, findWay t s = some w ∧ entryAt (setOf t) w s = some e ∧ e.state ≠ .filling) ∨
    findWay t s = none ∧ chooseVictim (setOf t) s = some w

/-- The command that serves a kind of request from a master. -/
def commandOf (k : Kind) (m : Master) : Instr :=
  match k with
  | .openCapture => .openCapture m
  | .putRow => .putRow m
  | .discardCapture => .discardCapture m
  | .captureState => .captureState m
  | .submitJob => .submitJob m
  | .readBox => .readBox m
  | .holdBox => .holdBox m
  | .editBox => .editBox m
  | .releaseBox => .releaseBox m
  | .cancelJob => .cancelJob m
  | .freeBox => .freeBox m
  | .readTile => .readTile m
  | .writeTile => .writeTile m
  | .lockWays => .lockWays m
  | .drain => .drain m
  | .panelHello => .panelHello m
  | .fetchRun => .fetchRun m
  | .readNotices => .readNotices m
  | .nextStale => .nextStale m
  | .readProfile => .readProfile m
  | .loadKey => .loadKey m
  | .fixKey => .fixKey m
  | .eraseKey => .eraseKey m
  | .checkKey => .checkKey m
  | .releaseKey => .releaseKey m
  | .readRegion => .readRegion m
  | .readLabel => .readLabel m
  | .writeRegion => .writeRegion m
  | .writeLabel => .writeLabel m
  | .stageQuery => .stageQuery m
  | .closeSet => .closeSet m
  | .reopenSet => .reopenSet m
  | .linkResume => .linkResume m
  | .ackEvents => .ackEvents m
  | .setEventMask => .setEventMask m
  | .readCounters => .readCounters m
  | .clearCounters => .clearCounters m
  | .writeConfig => .writeConfig m

/-- The masters whom the catalogue admits for a kind, with the station's role in the live configuration and the capture's
owner (section 10.6). The owner of a box and the holder of a hold are checked after the stage (R48). -/
def mayAsk (k : Kind) (m : Master) (s : State) : Bool :=
  match k with
  | .openCapture => stationWith .capture m s
  | .putRow | .discardCapture => stationWith .capture m s && ownsCapture m s
  | .submitJob | .holdBox | .editBox | .releaseBox | .cancelJob | .freeBox | .lockWays => stationWith .map m s
  | .readTile => m != .panel
  | .writeTile | .drain => stationWith .map m s || m == .system
  | .panelHello | .fetchRun | .readNotices | .nextStale => m == .panel
  | .loadKey | .fixKey | .eraseKey => stationWith .keys m s
  | .writeRegion | .writeLabel => stationWith .records m s || m == .system
  | .closeSet | .reopenSet => stationWith .stage m s
  | .releaseKey | .linkResume | .ackEvents | .setEventMask | .clearCounters | .writeConfig => m == .system
  | .captureState | .readBox | .readProfile | .checkKey | .readRegion | .readLabel | .stageQuery | .readCounters => true

/-- The stages that admit a kind from a master (R161, R165); CLOSE_SET and REOPEN_SET are judged by the live stage alone. -/
def stageOpenTo (k : Kind) (m : Master) (s : State) : Bool :=
  match k with
  | .openCapture | .putRow | .discardCapture | .submitJob | .holdBox | .editBox | .releaseBox | .cancelJob | .freeBox
  | .writeTile | .lockWays | .loadKey | .fixKey | .eraseKey | .writeLabel => stageAdmits lineStage s
  | .writeRegion => m == .system || stageAdmits lineStage s
  | .releaseKey => stageAdmits closedStage s
  | .writeConfig => stageAdmits openStage s
  | .closeSet => lineStage s.srb.stage.stage
  | .reopenSet => closedStage s.srb.stage.stage
  | .captureState | .readBox | .readTile | .drain | .panelHello | .fetchRun | .readNotices | .nextStale | .readProfile
  | .checkKey | .readRegion | .readLabel | .stageQuery | .linkResume | .ackEvents | .setEventMask | .readCounters
  | .clearCounters => true

end Sys2Proof.Machine
end

