-- ==== Sys2Proof/Certificates/Slice0/Obligations.lean ====
section
/-! DEFINITION. The statements. Each names the rules it rests on; where one rests on a choice of the model's, its
docstring says so and names the log entry. -/

open Sys2Proof Sys2Proof.Machine

/-! ## The machine -/

/-- The command at the front of the queue is executed on the state with the queue's rest. On an empty queue the part
idles: only the model's clock moves, by at most one microsecond, and never past the deadline of a held box. That is the
model's choice (log 2). -/
def Obligations.StepServesFront : Prop :=
  ∀ s : State,
    (∀ (c : Instr) (rest : List Instr), s.pending = c :: rest → step s = exec c (s.setPending rest)) ∧
    (s.pending = [] → ∃ n : Nat, step s = .next (s.setBook { s.book with now := n }) ∧ s.book.now ≤ n ∧
      n ≤ s.book.now + 1 ∧
      ∀ (b : Fin 16) (x : Box) (d : Nat), boxAt b s = some x → x.hold = some d → s.book.now ≤ d → n ≤ d)

/-! ## Invariants that every step keeps -/

/-- R166, R170, R172, R173: the link error counter lies within 0..255, the link is SILENT only at 255 and follows the
counter otherwise, the release count is 0 outside SILENT; the reply queue holds exactly the stations whose places hold a
reply, each once, and a reply is sent only for its head with the receiver hunting. -/
def Obligations.LinkStaysSound : Prop :=
  ∀ s t : State, LinkSound s.fxl ∧ ReplyQueueSound s.fxl → step s = .next t → LinkSound t.fxl ∧ ReplyQueueSound t.fxl

/-- R122, R123: the notice queue holds at most 32 tile numbers, none twice, each of a STALE tile, and none while the
overflow flag is set. -/
def Obligations.NoticesStaySound : Prop :=
  ∀ s t : State, NoticesSound s.pcd → step s = .next t → NoticesSound t.pcd

/-- R68, R85, R86, with the quiet of start-up (section 5.8): the write-back queue never holds more than 4 copies; a tile
is held by at most one cache entry, which stands in the tile's set; the working header's faulty count is the number of
FAULTY entries. -/
def Obligations.TheCacheStaysSound : Prop :=
  ∀ s t : State, step s = .next t → (QueueSound s → QueueSound t) ∧ (EntriesSound s → EntriesSound t)

/-- R43, R51, R52: at most one box is RUNNING, the one that the engine works on, whose work is of its kind and whose
start checks have passed; and the capture is LOCKED exactly while a RUN_PASS box is RUNNING. The invariant carries with
it that a RUN_PASS box has its arguments. -/
def Obligations.RunningJobStaysSound : Prop :=
  ∀ s t : State, RunningSound s → step s = .next t → RunningSound t

/-- R104, with the quiet of start-up (section 5.8): the flash-committed marker is set exactly while the header record in
flash claims committed, and no tile is programmed while it is set. -/
def Obligations.CommittedPromiseHolds : Prop :=
  ∀ s t : State, PromiseSound s → step s = .next t → PromiseSound t

/-- R101, R102, with the quiet of start-up: no tile and no spare home appears twice in the remap table, and a tile program
in flight is at the home that the table names. -/
def Obligations.RemapTableStaysSound : Prop :=
  ∀ s t : State, RemapSound s → step s = .next t → RemapSound t

/-- R68, R86, R94: every map value held in the cache, in the write-back queue and in flash lies within -511..511. -/
def Obligations.MapValuesStayInRange : Prop :=
  ∀ s t : State, ValuesSound s → step s = .next t → ValuesSound t

/-- R158: in stage CLOSED, and while a close is in flight, every required key slot is FIXED and the region and label
records are committed. The invariant carries with it the quiet of start-up, and that at most one program of a key slot and
at most one stage program is inside the part. -/
def Obligations.ClosedSetKeepsItsItems : Prop :=
  ∀ s t : State, ClosedSound s → step s = .next t → ClosedSound t

/-- The state after reset meets every invariant above. The values of the parts that start-up sets afterwards, and an
erased flash array, are the model's choice (log 1). -/
def Obligations.ResetIsSound : Prop :=
  LinkSound State.reset.fxl ∧ ReplyQueueSound State.reset.fxl ∧ NoticesSound State.reset.pcd ∧ QueueSound State.reset ∧
    EntriesSound State.reset ∧ RunningSound State.reset ∧ PromiseSound State.reset ∧ RemapSound State.reset ∧
    ValuesSound State.reset ∧ ClosedSound State.reset

/-! ## Layouts -/

/-- R167, R168, R190: the characters of a REQUEST or IDLE_MARK frame with any station, tag and payload of up to 300
characters are judged well-formed, and give back the kind, station, tag and payload. What makes a frame bad: the address
and kind character of a REPLY or of an unknown kind, a length above 300, a CRC that differs, and a framing error in any
character of it. That the receiver drops after a framing error in a CRC character is the model's choice (log 39). -/
def Obligations.FramesAreJudged : Prop :=
  (∀ (k : FrameKind) (st : Station) (tag : Byte) (payload : List Byte), k ≠ .reply → payload.length ≤ 300 →
    judgeFrame (frameChars k st tag payload) = .good k st tag payload) ∧
  (∀ st : Station, judgeFrame [addressKind .reply st] = .badKind) ∧
  (∀ chars : List Byte, chars ≠ [] → frameOpen chars.dropLast = true → badVerdict chars true = some .dropping) ∧
  (∀ a : Byte, stationFrameKind a = none → badVerdict [a] false = some .dropping) ∧
  (∀ (a tag h l : Byte), (stationFrameKind a).isSome = true → 300 < natOfBytes [h, l] →
    badVerdict [a, tag, h, l] false = some .dropping) ∧
  ∀ (k : FrameKind) (st : Station) (tag c d : Byte) (payload : List Byte), k ≠ .reply → payload.length ≤ 300 →
    natOfBytes [c, d] ≠
      (crc16 (addressKind k st :: tag :: bytesOfNat 2 payload.length ++ payload)).toNat →
    badVerdict (addressKind k st :: tag :: bytesOfNat 2 payload.length ++ payload ++ [c, d]) false = some .hunting

/-- R190 to R192 and section 10.7: the 32 values of a tile, each within -512..511, travel as 40 bytes and are read back;
fields in ascending order, each at most once and within the owning rule's list, are read back from the bytes of their
body; a REQUEST transaction gives the record that its bytes carry, whatever follows the record; one whose bytes end
before the record is whole is cut short; one whose length lies outside 2..300, and a transaction of an unknown type, are
ignored. -/
def Obligations.LayoutsAreReadBack : Prop :=
  (∀ v : TileValues, (∀ k : Fin 32, -512 ≤ v[k] ∧ v[k] ≤ 511) →
     (packTile v).length = 40 ∧ unpackTile (packTile v) = some v) ∧
  (∀ (count : Nat) (fs : List (Nat × List Byte)), count ≤ 255 → rising (fs.map (·.1)) = true →
     (∀ f ∈ fs, 1 ≤ f.1 ∧ f.1 ≤ count ∧ f.2.length < 65536) → bodyFields count (fieldBytes fs) = some fs) ∧
  (∀ (kind tag : Byte) (body extra : List Byte), body.length ≤ 298 →
    spiRequest (requestBytes kind tag body extra) = .record kind tag body) ∧
  (∀ (len : Nat) (part : List Byte), 2 ≤ len → len ≤ 300 → part.length < len →
    spiRequest (0x01#8 :: (bytesOfNat 2 len ++ part)) = .cut) ∧
  (∀ (len : Nat) (part : List Byte), len < 65536 → (len < 2 ∨ 300 < len) →
    spiRequest (0x01#8 :: (bytesOfNat 2 len ++ part)) = .ignored) ∧
  ∀ (b : Byte) (rest : List Byte), b ≠ 0x01#8 → b ≠ 0x02#8 → b ≠ 0x03#8 → spiRequest (b :: rest) = .ignored

/-! ## Replies and counters -/

/-- R115, R172, R180: a formed reply to the outstanding request of SYSTEM or PANEL enters the reply slot; a station's
enters its place, or waits as the deferred reply behind the answer that the place holds; the reply to an abandoned request
is discarded, and only its mark goes. An answer of the link's own enters the station's empty place and the tail of the
queue, and is dropped when the place holds a reply. -/
def Obligations.RepliesReachTheirPorts : Prop :=
  ∀ (s : State) (n : Nat) (r : Reply),
    (s.syp.pending = some n → routeReply .system n r s = s.setSyp { s.syp with pending := none, slot := some r }) ∧
    (s.pnp.pending = some n → routeReply .panel n r s = s.setPnp { s.pnp with pending := none, slot := some r }) ∧
    ∀ st : Station,
      (n ∈ s.fxl.abandoned →
        routeReply (.station st) n r s = s.setFxl { s.fxl with abandoned := s.fxl.abandoned.erase n }) ∧
      (n ∉ s.fxl.abandoned → s.fxl.outstanding[st] = some n → s.fxl.place[st] = none →
        routeReply (.station st) n r s =
          s.setFxl { s.fxl with place := s.fxl.place.set st (some { reply := r, own := true }),
                                queue := s.fxl.queue ++ [st] }) ∧
      (n ∉ s.fxl.abandoned → s.fxl.outstanding[st] = some n → (s.fxl.place[st]).isSome = true →
        routeReply (.station st) n r s = s.setFxl { s.fxl with deferred := s.fxl.deferred.set st (some r) }) ∧
      (s.fxl.place[st] = none →
        placeAnswer st r s =
          s.setFxl { s.fxl with place := s.fxl.place.set st (some { reply := r, own := false }),
                                queue := s.fxl.queue ++ [st] }) ∧
      ((s.fxl.place[st]).isSome = true → placeAnswer st r s = s)

/-- R186: a rise adds to its counter modulo 4294967296; when it carries past the top its wrap flag is set and
COUNTER_WRAP is raised; every other counter, wrap flag and event flag stays. An OK reply raises nothing, a DATA_FAULT
reply REFUSED and FAULTS, any other reply REFUSED. -/
def Obligations.CountersRise : Prop :=
  (∀ (m : Master) (k : CounterKind) (n : Nat) (s : State),
    (counterOf m k (rise m k n s)).toNat = ((counterOf m k s).toNat + n) % 4294967296 ∧
    (rise m k n s).mct.wrap[counterIndex m k] =
      (s.mct.wrap[counterIndex m k] || decide (4294967296 ≤ (counterOf m k s).toNat + n)) ∧
    (rise m k n s).syp =
      (if 4294967296 ≤ (counterOf m k s).toNat + n then (raise .counterWrap s).syp else s.syp) ∧
    ∀ i : Fin 24, i ≠ counterIndex m k →
      (rise m k n s).mct.counter[i] = s.mct.counter[i] ∧ (rise m k n s).mct.wrap[i] = s.mct.wrap[i]) ∧
  ∀ (m : Master) (s : State),
    countReply m .ok s = s ∧ countReply m .dataFault s = rise m .faults 1 (rise m .refused 1 s) ∧
    ∀ st : Status, st ≠ .ok → st ≠ .dataFault → countReply m st s = rise m .refused 1 s

/-! ## Resets and start-up -/

/-- R93, R98, R112, R155, R182 and the reset rules of every block: power-on and the RESET pin leave every part at its
reset value, but for the flash array, in which only the homes of what was in flight change, each to a record that fails
its check: the home being programmed, the stage home of a close or reopen from the step that presents it, and the header
home of a commit's header from the step that presents it. The release of the RESET pin starts start-up from the config
read. The values of the parts that start-up sets afterwards are the model's choice (log 1), and so is that any other
program presented and not yet granted leaves its home as it stood (log 38); the request numbers and the clock go on (log
27). -/
def Obligations.ResetsLeaveResetValues : Prop :=
  (∀ s : State,
    (∃ t, exec .powerOn s = .next t ∧ t = { State.reset with homes := t.homes, book := s.book, pending := s.pending } ∧
      t.homes = interruptedHomes s.mfc s.homes) ∧
    (∃ t, exec .resetAssert s = .next t ∧
      t = { State.reset with boot := { phase := .held, maxSeq := none }, homes := t.homes, book := s.book,
                             pending := s.pending } ∧
      t.homes = interruptedHomes s.mfc s.homes) ∧
    (s.boot.phase = .held → exec .resetRelease s = .next (s.setBoot { s.boot with phase := .config }))) ∧
  ∀ (m : Mfc) (h t : Homes), t = interruptedHomes m h →
    let granted (j : FlashJob) : Prop := ∃ q : BitVec 32, m.flash = .programming j q
    (∀ u : TileNo, ((∃ c : TileCopy, c.tile = u ∧ granted (.tile c .own)) → t.tile[u] = .failing) ∧
      ((∀ c : TileCopy, c.tile = u → ¬granted (.tile c .own)) → t.tile[u] = h.tile[u])) ∧
    (∀ k : Fin 24, ((∃ c : TileCopy, granted (.tile c (.spare k))) → t.spare[k] = .failing) ∧
      ((∀ c : TileCopy, ¬granted (.tile c (.spare k))) → t.spare[k] = h.spare[k])) ∧
    (∀ k : Fin 12,
      ((∃ (r : Request) (key : Key), granted (.record (.keyFix r k key)) ∨ granted (.record (.keyErase r k))) →
        t.key[k] = .failing) ∧
      ((∀ (r : Request) (key : Key), ¬granted (.record (.keyFix r k key)) ∧ ¬granted (.record (.keyErase r k))) →
        t.key[k] = h.key[k])) ∧
    ((∃ x : HeaderRecord, granted (.header x) ∨ granted (.uncommit x)) ∨ granted (.record .header) ∨
        .header ∈ m.programs → t.header = .failing) ∧
    ((∀ x : HeaderRecord, ¬granted (.header x) ∧ ¬granted (.uncommit x)) ∧ ¬granted (.record .header) ∧
        .header ∉ m.programs → t.header = h.header) ∧
    ((∃ (r : Request) (a b : Nat), granted (.record (.close r a b)) ∨ granted (.record (.reopen r a b)) ∨
        .close r a b ∈ m.programs ∨ .reopen r a b ∈ m.programs) → t.stage = .failing) ∧
    ((∀ (r : Request) (a b : Nat), ¬granted (.record (.close r a b)) ∧ ¬granted (.record (.reopen r a b)) ∧
        .close r a b ∉ m.programs ∧ .reopen r a b ∉ m.programs) → t.stage = h.stage) ∧
    ((∃ (r : Request) (x : RegionFields) (v : BitVec 16), granted (.record (.region r x v))) → t.region = .failing) ∧
    ((∀ (r : Request) (x : RegionFields) (v : BitVec 16), ¬granted (.record (.region r x v))) → t.region = h.region) ∧
    ((∃ (r : Request) (x : LabelFields) (v : BitVec 16), granted (.record (.label r x v))) → t.label = .failing) ∧
    ((∀ (r : Request) (x : LabelFields) (v : BitVec 16), ¬granted (.record (.label r x v))) → t.label = h.label) ∧
    ((∃ (r : Request) (x : Machine.Config), granted (.record (.config r x))) → t.config = .failing) ∧
    ((∀ (r : Request) (x : Machine.Config), ¬granted (.record (.config r x))) → t.config = h.config)

/-- R113, R188: the config read takes the stored configuration, or the defaults with CONFIG_DEFAULTED; a spare home read
makes its spare UNUSED, DEAD or MAPPED, the claimant of a tile with the highest program sequence being MAPPED and the
others DEAD. That of two records of one tile with the same sequence the later one read is DEAD is the model's choice
(log 21). -/
def Obligations.StartupReadsConfigAndSpares : Prop :=
  ∀ s : State,
    (s.boot.phase = .config →
      (∀ r : ConfigRecord, s.homes.config = .holds r → configPasses r = true →
        exec .startupConfigRead s =
          .next { s with boot := { phase := .spare 0, maxSeq := some (maxSequence s.boot.maxSeq r.seq) },
                         config := r.config }) ∧
      ((∀ r : ConfigRecord, s.homes.config = .holds r → configPasses r = false) →
        exec .startupConfigRead s =
          .next { raise .configDefaulted s with boot := { s.boot with phase := .spare 0 }, config := Config.defaults })) ∧
    ∀ k : Fin 24, s.boot.phase = .spare k →
      (s.homes.spare[k] = .erased →
        exec .spareScan s = .next ((setSpare k .unused s).setBoot { s.boot with phase := afterSpare k })) ∧
      (s.homes.spare[k] = .failing →
        exec .spareScan s = .next ((setSpare k .dead s).setBoot { s.boot with phase := afterSpare k })) ∧
      ∀ r : TileRecord, s.homes.spare[k] = .holds r →
        (codeAgrees r.tile r.values r.code = false →
          exec .spareScan s = .next ((setSpare k .dead s).setBoot { s.boot with phase := afterSpare k })) ∧
        (codeAgrees r.tile r.values r.code = true →
          let boot : Boot := { phase := afterSpare k, maxSeq := some (maxSequence s.boot.maxSeq r.seq) }
          (claimant r.tile s = none → exec .spareScan s = .next ((setSpare k (.mapped r.tile) s).setBoot boot)) ∧
          ∀ j : Fin 24, claimant r.tile s = some j →
            (spareSequence j s < r.seq →
              exec .spareScan s = .next ((setSpare k (.mapped r.tile) (setSpare j .dead s)).setBoot boot)) ∧
            (¬spareSequence j s < r.seq → exec .spareScan s = .next ((setSpare k .dead s).setBoot boot)))

/-- R114, R153: a header that passes its check becomes the working header with a faulty count of 0, and the marker takes
its committed flag; otherwise the header is lost and MAP_HEADER_LOST is raised. A key home read sets its slot: FIXED
from a key record that passes its check, else EMPTY, with home fault set for a record that fails it. -/
def Obligations.StartupReadsHeaderAndKeys : Prop :=
  ∀ s : State,
    (s.boot.phase = .header →
      (∀ r : HeaderRecord, s.homes.header = .holds r → r.signed = true →
        exec .headerLoad s =
          .next { s with boot := { phase := .key 0, maxSeq := some (maxSequence s.boot.maxSeq r.seq) },
                         mfc := { s.mfc with
                           header := { generation := r.generation, passCount := r.passCount, codes := r.codes,
                                       committed := r.committed, converged := r.converged, mixed := r.mixed, faulty := 0 },
                           marker := r.committed } }) ∧
      ((∀ r : HeaderRecord, s.homes.header = .holds r → r.signed = false) →
        exec .headerLoad s =
          .next { raise .mapHeaderLost s with boot := { s.boot with phase := .key 0 },
                                              mfc := { s.mfc with header := .lost, marker := false } })) ∧
    ∀ k : Fin 12, s.boot.phase = .key k →
      (s.homes.key[k] = .erased →
        exec .keyHomeLoad s =
          .next ((setSlot k { state := .empty, pending := false, homeFault := false } s).setBoot
            { s.boot with phase := afterKey k })) ∧
      (∀ r : KeyRecord, s.homes.key[k] = .holds r → keyRecordPasses k r = true →
        exec .keyHomeLoad s =
          .next ((setSlot k { state := recordSlot r, pending := false, homeFault := false } s).setBoot
            { phase := afterKey k, maxSeq := some (maxSequence s.boot.maxSeq r.seq) })) ∧
      (s.homes.key[k] = .failing ∨ (∃ r : KeyRecord, s.homes.key[k] = .holds r ∧ keyRecordPasses k r = false) →
        exec .keyHomeLoad s =
          .next ((setSlot k { state := .empty, pending := false, homeFault := true } s).setBoot
            { s.boot with phase := afterKey k }))

/-- R96, R154, R156: the region and label reads load a record that passes its check as committed, and leave a blank one
otherwise; the stage read takes the recorded stage, demotes a CLOSED record whose items did not survive to REWORK, and
takes REWORK at the reopen limit from a failing home; it then sets the program sequence counter and ends start-up. -/
def Obligations.StartupReadsRecordsAndStage : Prop :=
  ∀ s : State,
    (s.boot.phase = .region →
      ∃ t, exec .regionLabelLoad s = .next t ∧
        t = { s with boot := t.boot, srb := { s.srb with region := t.srb.region } } ∧ t.boot.phase = .label ∧
        (s.homes.region = .erased → t.srb.region = .blank RegionFields ∧ t.boot.maxSeq = s.boot.maxSeq) ∧
        (s.homes.region = .failing →
          t.srb.region = { SetRecord.blank RegionFields with homeFault := true } ∧ t.boot.maxSeq = s.boot.maxSeq) ∧
        ∀ r : StoredRecord RegionFields, s.homes.region = .holds r →
          (regionFits r.content = true →
            t.srb.region = { content := some r.content, version := r.version, committed := true, pending := false,
                             homeFault := false } ∧
            t.boot.maxSeq = some (maxSequence s.boot.maxSeq r.seq)) ∧
          (regionFits r.content = false →
            t.srb.region = { SetRecord.blank RegionFields with homeFault := true } ∧ t.boot.maxSeq = s.boot.maxSeq)) ∧
    (s.boot.phase = .label →
      ∃ t, exec .regionLabelLoad s = .next t ∧
        t = { s with boot := t.boot, srb := { s.srb with label := t.srb.label } } ∧ t.boot.phase = .stage ∧
        (s.homes.label = .erased → t.srb.label = .blank LabelFields ∧ t.boot.maxSeq = s.boot.maxSeq) ∧
        (s.homes.label = .failing →
          t.srb.label = { SetRecord.blank LabelFields with homeFault := true } ∧ t.boot.maxSeq = s.boot.maxSeq) ∧
        ∀ r : StoredRecord LabelFields, s.homes.label = .holds r →
          (labelFits r.content = true →
            t.srb.label = { content := some r.content, version := r.version, committed := true, pending := false,
                            homeFault := false } ∧
            t.boot.maxSeq = some (maxSequence s.boot.maxSeq r.seq)) ∧
          (labelFits r.content = false →
            t.srb.label = { SetRecord.blank LabelFields with homeFault := true } ∧ t.boot.maxSeq = s.boot.maxSeq)) ∧
    (s.boot.phase = .stage →
      ∃ t, exec .stageLoad s = .next t ∧
        t = { s with boot := t.boot, mfc := { s.mfc with seq := firstSequence t.boot.maxSeq },
                     srb := { s.srb with stage := t.srb.stage }, syp := t.syp } ∧
        t.boot.phase = .done ∧
        (s.homes.stage = .erased → t.srb.stage = .reset ∧ t.syp = s.syp ∧ t.boot.maxSeq = s.boot.maxSeq) ∧
        (s.homes.stage = .failing ∨ (∃ r : StageRecord, s.homes.stage = .holds r ∧ stagePasses r = false) →
          t.srb.stage = { stage := .rework, closeCount := 0, reopenCount := s.config.reopenLimit, program := .none,
                          homeFault := true, demoted := false } ∧
          t.syp = (raise .stageChanged s).syp ∧ t.boot.maxSeq = s.boot.maxSeq) ∧
        ∀ r : StageRecord, s.homes.stage = .holds r → stagePasses r = true →
          t.boot.maxSeq = some (maxSequence s.boot.maxSeq r.seq) ∧
          (r.stage ≠ .closed ∨ itemsSurvive s = true →
            t.srb.stage = { stage := r.stage, closeCount := r.closeCount, reopenCount := r.reopenCount, program := .none,
                            homeFault := false, demoted := false } ∧ t.syp = s.syp) ∧
          (r.stage = .closed → itemsSurvive s = false →
            t.srb.stage = { stage := .rework, closeCount := r.closeCount, reopenCount := r.reopenCount, program := .none,
                            homeFault := false, demoted := true } ∧ t.syp = (raise .stageChanged s).syp))

/-! ## The SPI ports -/

/-- R116, R119, R133, R180, R182, R190, R191: a whole request record is TAKEN when start-up is done and nothing is
outstanding: it becomes outstanding, TAKEN rises, and it goes to its owning block; one whose kind is not in the
catalogue is answered BAD_ARG. Before the end of start-up the acceptance is STARTING, with something outstanding it is
BUSY, and REFUSED rises. The part shifts out the record's kind and tag and the acceptance's code. A PANEL_HELLO is TAKEN
whatever is outstanding: in that step the run, the slot, the directory, the notices, the flag and the pointer are reset,
an operation of the run is marked abandoned, and the reply with the profile stands in the slot. A transaction whose
record is cut short or that is ignored changes nothing but the record of the bytes shifted out, FFh throughout for an
ignored one. That one cut short shifts out no bytes (log 16), that a PANEL_HELLO with a body resets the panel side and
is answered BAD_ARG (log 9), and that it drops PANEL's requests not yet served (log 26), are the model's choices. -/
def Obligations.RequestTransactionsAreAccepted : Prop :=
  ∀ (s : State) (mosi : List Byte),
    (spiRequest mosi = .cut →
      exec (.panelRequestTransaction mosi) s = .next (panelOut (.bytes []) s) ∧
      exec (.systemRequestTransaction mosi) s = .next (systemOut (.bytes []) s)) ∧
    (spiRequest mosi = .ignored →
      exec (.panelRequestTransaction mosi) s = .next (panelOut (.bytes (List.replicate mosi.length 0xFF#8)) s) ∧
      exec (.systemRequestTransaction mosi) s = .next (systemOut (.bytes (List.replicate mosi.length 0xFF#8)) s)) ∧
    ∀ (kind tag : Byte) (body : List Byte), spiRequest mosi = .record kind tag body →
    (startupDone s = false →
      exec (.panelRequestTransaction mosi) s =
        .next (panelOut (.bytes [kind, tag, 0x01#8]) (rise .panel .refused 1 s)) ∧
      exec (.systemRequestTransaction mosi) s =
        .next (systemOut (.bytes [kind, tag, 0x01#8]) (rise .system .refused 1 s))) ∧
    (startupDone s = true → panelOutstanding s = true → kind ≠ kindCode .panelHello →
      exec (.panelRequestTransaction mosi) s =
        .next (panelOut (.bytes [kind, tag, 0x02#8]) (rise .panel .refused 1 s))) ∧
    (startupDone s = true → systemOutstanding s = true →
      exec (.systemRequestTransaction mosi) s =
        .next (systemOut (.bytes [kind, tag, 0x02#8]) (rise .system .refused 1 s))) ∧
    (startupDone s = true → kind = kindCode .panelHello →
      let hello (r : Reply) : State :=
        { s with
          pcd := Pcd.reset, tlc := { s.tlc with panel := s.tlc.panel.map fun o => { o with abandoned := true } },
          inbox := s.inbox.filter fun r => r.master != .panel, book := { s.book with ticket := s.book.ticket + 1 },
          pnp := { pending := none, run := none, out := .bytes [kind, tag, 0x00#8], slot := some r } }
      (body = [] →
        ∃ t, exec (.panelRequestTransaction mosi) s = .next t ∧
          t = { hello { kind := kind, tag := tag, status := .ok, body := .profile (profileOf s) } with
                mct := (rise .panel .taken 1 s).mct, syp := (rise .panel .taken 1 s).syp }) ∧
      (body ≠ [] →
        ∃ t, exec (.panelRequestTransaction mosi) s = .next t ∧
          t = { hello { kind := kind, tag := tag, status := .badArg, body := .empty } with
                mct := (rise .panel .refused 1 (rise .panel .taken 1 s)).mct,
                syp := (rise .panel .refused 1 (rise .panel .taken 1 s)).syp })) ∧
    (startupDone s = true → panelOutstanding s = false → kind ≠ kindCode .panelHello →
      (∀ k : Kind, kindOfCode kind = some k →
        exec (.panelRequestTransaction mosi) s =
          .next { rise .panel .taken 1 s with
            pnp := { s.pnp with pending := some s.book.ticket, out := .bytes [kind, tag, 0x00#8] },
            inbox := s.inbox ++ [{ master := .panel, ticket := s.book.ticket, kind := k, tag := tag, body := body }],
            book := { s.book with ticket := s.book.ticket + 1 } }) ∧
      (kindOfCode kind = none →
        exec (.panelRequestTransaction mosi) s =
          .next { rise .panel .refused 1 (rise .panel .taken 1 s) with
            pnp := { s.pnp with pending := none, out := .bytes [kind, tag, 0x00#8],
                                slot := some { kind := kind, tag := tag, status := .badArg, body := .empty } },
            book := { s.book with ticket := s.book.ticket + 1 } })) ∧
    (startupDone s = true → systemOutstanding s = false →
      (∀ k : Kind, kindOfCode kind = some k →
        ∃ t, exec (.systemRequestTransaction mosi) s = .next t ∧
          t = { s with syp := t.syp, mct := (rise .system .taken 1 s).mct, inbox := t.inbox,
                       book := { s.book with ticket := s.book.ticket + 1 } } ∧
          t.inbox = s.inbox ++ [{ master := .system, ticket := s.book.ticket, kind := k, tag := tag, body := body }] ∧
          t.syp = { s.syp with pending := some s.book.ticket, out := .bytes [kind, tag, 0x00#8],
                               flags := (rise .system .taken 1 s).syp.flags }) ∧
      (kindOfCode kind = none →
        ∃ t, exec (.systemRequestTransaction mosi) s = .next t ∧
          t = { s with syp := t.syp, mct := (rise .system .refused 1 (rise .system .taken 1 s)).mct,
                       book := { s.book with ticket := s.book.ticket + 1 } } ∧
          t.syp = { s.syp with pending := none, out := .bytes [kind, tag, 0x00#8],
                               slot := some { kind := kind, tag := tag, status := .badArg, body := .empty },
                               flags := (rise .system .refused 1 (rise .system .taken 1 s)).syp.flags }))

/-- R117, R118, R180, R181: a REPLY transaction that reads the slot whole delivers the reply and empties the slot, one
cut short leaves it there, and an empty slot reads as the NONE record; a STATUS transaction gives its items and changes
nothing. A FETCH_RUN reply has a delivery of its own, stated beside this. Once start-up is done PNRDY is asserted while
the panel's slot holds a reply, PNATTN while the notice queue holds a tile number or the overflow flag is set, and
SYS_ATTN while the system's slot holds a reply or an enabled event flag is set; before, none of them is. So PNRDY falls
as a reply is delivered. -/
def Obligations.RepliesAreReadOutAndLinesFollow : Prop :=
  ∀ (s : State) (clocks : Nat),
    (∀ r : Reply, s.syp.slot = some r →
      exec (.systemReplyTransaction clocks) s =
        .next (s.setSyp { s.syp with
          out := .bytes ((bytesOfNat 2 (replyBytes r).length ++ replyBytes r).take clocks),
          slot := if 2 + (replyBytes r).length ≤ clocks then none else some r })) ∧
    (s.syp.slot = none →
      exec (.systemReplyTransaction clocks) s =
        .next (s.setSyp { s.syp with out := .bytes ([0x00#8, 0x00#8].take clocks) })) ∧
    (∀ r : Reply, s.pnp.slot = some r → (∀ t n xs, r.body ≠ .run t n xs) ∨ clocks < 2 + (replyBytes r).length →
      exec (.panelReplyTransaction clocks) s =
        .next (s.setPnp { s.pnp with
          out := .bytes ((bytesOfNat 2 (replyBytes r).length ++ replyBytes r).take clocks),
          slot := if 2 + (replyBytes r).length ≤ clocks then none else some r })) ∧
    (s.pnp.slot = none →
      exec (.panelReplyTransaction clocks) s =
        .next (s.setPnp { s.pnp with out := .bytes ([0x00#8, 0x00#8].take clocks) })) ∧
    exec .panelStatusTransaction s =
      .next (s.setPnp { s.pnp with
        out := .panelStatus (startupDone s) s.pnp.slot.isSome s.pcd.notices.length s.pcd.overflow }) ∧
    exec .systemStatusTransaction s =
      .next (s.setSyp { s.syp with
        out := .systemStatus (startupDone s) s.syp.slot.isSome s.syp.flags s.syp.mask s.fxl.link s.fxl.lec
          s.fxl.release }) ∧
    (pnrdy s = true ↔ s.boot.phase = .done ∧ ∃ r : Reply, s.pnp.slot = some r) ∧
    (pnattn s = true ↔ s.boot.phase = .done ∧ (s.pcd.notices ≠ [] ∨ s.pcd.overflow = true)) ∧
    (sysAttn s = true ↔ s.boot.phase = .done ∧
      ((∃ r : Reply, s.syp.slot = some r) ∨ ∃ e : Event, flagSet e s = true ∧ s.syp.mask.getLsbD (eventBit e) = true)) ∧
    ∀ r : Reply, s.pnp.slot = some r → 2 + (replyBytes r).length ≤ clocks →
      ∃ t, exec (.panelReplyTransaction clocks) s = .next t ∧ pnrdy t = false

/-- R122, R123, R129: the delivery of a FETCH_RUN reply makes each SENDING entry of its run CURRENT and each
SENDING_CHANGED one STALE, leaves every other entry, appends the STALE ones in run order when there is room, and counts
the OK and FAULT tiles to PANEL. One that becomes STALE with 32 tile numbers queued empties the queue, sets the overflow
flag and raises NOTICE_OVERFLOW; while the flag is set nothing is appended. -/
def Obligations.RunsAreDelivered : Prop :=
  ∀ (s : State) (r : Reply) (first : TileNo) (n : Nat) (xs : List RunTile) (clocks : Nat),
    s.pnp.slot = some r → r.body = .run first n xs → 2 + (replyBytes r).length ≤ clocks → (xs.map (·.tile)).Nodup →
    ∃ t, exec (.panelReplyTransaction clocks) s = .next t ∧
      t = { s with pnp := { s.pnp with slot := none, out := t.pnp.out }, pcd := t.pcd,
                   syp := { s.syp with flags := t.syp.flags }, mct := t.mct } ∧
      t.pcd.scan = s.pcd.scan ∧
      (∀ i : Fin 24, i ≠ counterIndex .panel .tiles → i ≠ counterIndex .panel .faults →
        t.mct.counter[i] = s.mct.counter[i]) ∧
      (∀ u : TileNo, dirOf u t =
        if u ∈ xs.map (·.tile) then
          match dirOf u s with
          | .sending => .current
          | .sendingChanged => .stale
          | d => d
        else dirOf u s) ∧
      (s.pcd.overflow = false → s.pcd.notices.length + xs.length ≤ 32 → (∀ x ∈ xs, x.tile ∉ s.pcd.notices) →
        t.pcd.overflow = false ∧
        t.pcd.notices =
          s.pcd.notices ++ (xs.filter fun x => dirOf x.tile s == .sendingChanged).map (·.tile)) ∧
      (∀ x ∈ xs, s.pcd.overflow = false → s.pcd.notices.length = 32 → dirOf x.tile s = .sendingChanged →
        x.tile ∉ s.pcd.notices →
        t.pcd.overflow = true ∧ t.pcd.notices = [] ∧ flagSet .noticeOverflow t = true) ∧
      (s.pcd.overflow = true → t.pcd.overflow = true ∧ t.pcd.notices = s.pcd.notices) ∧
      (counterOf .panel .tiles t).toNat =
        ((counterOf .panel .tiles s).toNat + xs.countP fun x => x.status == .ok) % 4294967296 ∧
      (counterOf .panel .faults t).toNat =
        ((counterOf .panel .faults s).toNat + xs.countP fun x => x.status == .fault) % 4294967296

/-! ## The fixture link -/

/-- R166, R168, R169, R173, R179: a sync character starts a frame at a hunting receiver; an idle line ends the dropping;
a reply starts when the receiver hunts and a station is queued; at its end the station leaves the queue, its outstanding
flag clears if the reply was the owner's, and its deferred reply enters the place and the tail of the queue. A fixture
break resets the link interface but for the abandoned marks, to which every outstanding request is added, and raises
LINK_RELEASED if the link was SILENT; nothing else in the part changes. A frame that was arriving at a break is judged
bad first (log 23), which the hypothesis of that clause leaves out. -/
def Obligations.ReceiverRepliesAndBreaksMove : Prop :=
  ∀ s : State,
    (s.fxl.receiver = .hunting → s.fxl.sending = false →
      exec .syncCharacterReceived s = .next (s.setFxl { s.fxl with receiver := .inFrame })) ∧
    (s.fxl.receiver = .dropping →
      exec .droppingIdleEnd s = .next (s.setFxl { s.fxl with receiver := .hunting })) ∧
    (s.fxl.receiver = .hunting → s.fxl.sending = false → s.fxl.queue ≠ [] →
      exec .replyFrameStart s = .next (s.setFxl { s.fxl with sending := true })) ∧
    (∀ (st : Station) (rest : List Station) (p : Placed),
      s.fxl.sending = true → s.fxl.queue = st :: rest → s.fxl.place[st] = some p →
      ∃ t, exec .replyFrameSent s = .next t ∧ t = { s with fxl := t.fxl } ∧
        t.fxl.sending = false ∧ t.fxl.out = replyFrame st p.reply ∧
        t.fxl.outstanding = (if p.own then s.fxl.outstanding.set st none else s.fxl.outstanding) ∧
        (s.fxl.deferred[st] = none →
          t.fxl.queue = rest ∧ t.fxl.place = s.fxl.place.set st none ∧ t.fxl.deferred = s.fxl.deferred) ∧
        (∀ r : Reply, s.fxl.deferred[st] = some r →
          t.fxl.queue = rest ++ [st] ∧ t.fxl.place[st] = some { reply := r, own := true } ∧
          t.fxl.deferred = s.fxl.deferred.set st none)) ∧
    (s.fxl.receiver ≠ .inFrame →
      exec .fixtureBreak s =
        .next { (if s.fxl.link = .silent then raise .linkReleased s else s) with
          fxl := { Fxl.reset with abandoned := s.fxl.abandoned ++ s.fxl.outstanding.toList.filterMap id,
                                  out := s.fxl.out } })

/-- R168 to R170, R175 to R177: a bad frame raises the counter by 8 and the link state follows it, an upward entry
raising its event; past 255 the link enters SILENT: every place, deferred reply and the queue are emptied, the
outstanding requests are marked abandoned, and the stations' reservations are cleared; in SILENT the release count
becomes 0. The receiver drops after a part before the CRC, and hunts after a CRC or a gap. Outside SILENT a well-formed
IDLE_MARK lowers the counter by 1, stopping at 0; in SILENT it raises the release count, and the 128th in a row releases
the link and raises LINK_RELEASED. -/
def Obligations.FramesMoveTheCounter : Prop :=
  (∀ (s : State) (c : Instr) (r : Receiver),
     s.fxl.receiver = .inFrame →
     (c = .frameGapTimeout ∧ r = .hunting ∨
       ∃ (chars : List Byte) (framing : Bool), c = .badFrame chars framing ∧ badVerdict chars framing = some r) →
     (s.fxl.link = .silent → exec c s = .next (s.setFxl { s.fxl with receiver := r, release := 0 })) ∧
     (s.fxl.link ≠ .silent → s.fxl.lec + 8 ≤ 255 →
       exec c s =
         .next { raiseIf (upwardEvent s.fxl.link (linkStateOf (s.fxl.lec + 8))) s with
           fxl := { s.fxl with receiver := r, lec := s.fxl.lec + 8, link := linkStateOf (s.fxl.lec + 8) } }) ∧
     (s.fxl.link ≠ .silent → 255 < s.fxl.lec + 8 →
       ∃ t, exec c s = .next t ∧
         t = { raise .linkSilent s with fxl := t.fxl, srb := { s.srb with reserve := t.srb.reserve } } ∧
         t.fxl.lec = 255 ∧ t.fxl.link = .silent ∧ t.fxl.release = 0 ∧ t.fxl.receiver = r ∧ t.fxl.queue = [] ∧
         (∀ st : Station, t.fxl.place[st] = none ∧ t.fxl.deferred[st] = none ∧ t.fxl.outstanding[st] = none) ∧
         t.fxl.abandoned = s.fxl.abandoned ++ s.fxl.outstanding.toList.filterMap id ∧
         (∀ i : Fin 5, t.srb.reserve[i] = if i.val < 4 then none else s.srb.reserve[i]))) ∧
  ∀ (s : State) (chars : List Byte) (st : Station) (tag : Byte) (payload : List Byte),
    s.fxl.receiver = .inFrame → judgeFrame chars = .good .idleMark st tag payload →
    (s.fxl.link ≠ .silent →
      exec (.idleMark chars) s =
        .next { raiseIf (upwardEvent s.fxl.link (linkStateOf (s.fxl.lec - 1))) s with
          fxl := { s.fxl with receiver := .hunting, lec := s.fxl.lec - 1, link := linkStateOf (s.fxl.lec - 1) } }) ∧
    (s.fxl.link = .silent → s.fxl.release + 1 < 128 →
      exec (.idleMark chars) s =
        .next (s.setFxl { s.fxl with receiver := .hunting, release := s.fxl.release + 1 })) ∧
    (s.fxl.link = .silent → 128 ≤ s.fxl.release + 1 →
      exec (.idleMark chars) s =
        .next { raise .linkReleased s with
          fxl := { s.fxl with receiver := .hunting, lec := 0, link := .normal, release := 0 } })

/-- R170, R171, R174, R176: outside SILENT a well-formed REQUEST lowers the counter by 1 and is answered by the first
row of R171's table that holds: STARTING, BUSY, LINK_GUARDED, BAD_ARG for a payload without a kind, or taken:
outstanding, counted in TAKEN and passed to its owning block, or answered BAD_ARG when the catalogue has no such kind.
In SILENT it is ignored. The kind byte of an answer to a payload without a kind is a free value (log 14), such a payload
is write-type (log 15), and GUARDED is judged as the frame found the link (log 32): these are the model's choices. -/
def Obligations.RequestFramesAreTaken : Prop :=
  ∀ (s : State) (chars : List Byte) (st : Station) (tag : Byte) (payload : List Byte),
    s.fxl.receiver = .inFrame → judgeFrame chars = .good .request st tag payload →
    (s.fxl.link = .silent →
      exec (.requestFrame chars) s = .next (s.setFxl { s.fxl with receiver := .hunting })) ∧
    (s.fxl.link ≠ .silent →
      ∃ u, u = { raiseIf (upwardEvent s.fxl.link (linkStateOf (s.fxl.lec - 1))) s with
          fxl := { s.fxl with receiver := .hunting, lec := s.fxl.lec - 1, link := linkStateOf (s.fxl.lec - 1) } } ∧
        (payload = [] →
          exec (.requestFrame chars) s =
            .next (placeAnswer st
              { kind := Config.absentKind s.book.freeUses, tag := tag, body := .empty,
                status := if startupDone s = false then .starting
                          else if (s.fxl.outstanding[st]).isSome = true then .busy
                          else if s.fxl.link = .guarded then .linkGuarded else .badArg }
              (rise (.station st) .refused 1 { u with book := { s.book with freeUses := s.book.freeUses + 1 } }))) ∧
        ∀ (kind : Byte) (body : List Byte), payload = kind :: body →
          (startupDone s = false →
            exec (.requestFrame chars) s =
              .next (placeAnswer st { kind := kind, tag := tag, status := .starting, body := .empty }
                (rise (.station st) .refused 1 u))) ∧
          (startupDone s = true → (s.fxl.outstanding[st]).isSome = true →
            exec (.requestFrame chars) s =
              .next (placeAnswer st { kind := kind, tag := tag, status := .busy, body := .empty }
                (rise (.station st) .refused 1 u))) ∧
          (startupDone s = true → s.fxl.outstanding[st] = none → s.fxl.link = .guarded →
            (∀ k : Kind, kindOfCode kind = some k → isReadKind k = false) →
            exec (.requestFrame chars) s =
              .next (placeAnswer st { kind := kind, tag := tag, status := .linkGuarded, body := .empty }
                (rise (.station st) .refused 1 u))) ∧
          (startupDone s = true → s.fxl.outstanding[st] = none →
            let taken : State :=
              { rise (.station st) .taken 1 u with
                fxl := { u.fxl with outstanding := s.fxl.outstanding.set st (some s.book.ticket) },
                book := { s.book with ticket := s.book.ticket + 1 } }
            (∀ k : Kind, kindOfCode kind = some k → (s.fxl.link ≠ .guarded ∨ isReadKind k = true) →
              exec (.requestFrame chars) s =
                .next (taken.setInbox (s.inbox ++
                  [{ master := .station st, ticket := s.book.ticket, kind := k, tag := tag, body := body }]))) ∧
            (kindOfCode kind = none → s.fxl.link ≠ .guarded →
              exec (.requestFrame chars) s =
                .next (routeReply (.station st) s.book.ticket
                  { kind := kind, tag := tag, status := .badArg, body := .empty }
                  (rise (.station st) .refused 1 taken)))))

/-! ## The capture -/

/-- R34, R36 to R38, R40: an OPEN_CAPTURE that is taken discards the capture and opens an empty one of the shape
carried, owned by the station, with the next number; a DISCARD_CAPTURE of the owner leaves the capture EMPTY with its
number kept. A PUT_ROW of the owner in OPEN or COMPLETE stores its row whole, raises the duplicate count of a row that
was present, stopping at 255, leaves every other row, and makes the capture COMPLETE when the last absent row becomes
present. -/
def Obligations.CapturesAreOpenedFilledAndDiscarded : Prop :=
  (∀ (s : State) (i : Station) (req : Request),
     (lineRequest .capture .openCapture i req s → s.cap.state ≠ .locked → ∀ sh : Shape, parseShape req.body = some sh →
       exec (.openCapture (.station i)) s =
         .next (reply req .ok (.opened (s.cap.number + 1) (totalRows sh) s.cap.state s.cap.owner)
           ((withoutRequest req s).setCap
             { state := .opened, owner := some i, number := s.cap.number + 1, shape := some sh,
               rows := Vector.replicate 336 none }))) ∧
     (lineRequest .capture .discardCapture i req s → s.cap.owner = some i → req.body = [] →
       s.cap.state = .opened ∨ s.cap.state = .complete ∨ s.cap.state = .consumed →
       exec (.discardCapture (.station i)) s =
         .next (reply req .ok (.discarded s.cap.state)
           ((withoutRequest req s).setCap
             { state := .empty, owner := none, number := s.cap.number, shape := none,
               rows := Vector.replicate 336 none })))) ∧
  ∀ (s : State) (i : Station) (req : Request) (a : RowArgs) (sh : Shape),
    lineRequest .capture .putRow i req s → s.cap.owner = some i → s.cap.state = .opened ∨ s.cap.state = .complete →
    parseRow req.body = some a → s.cap.shape = some sh → sh.codes.length ≤ 4 → rowFits a sh = true →
    ∃ cap : Cap,
      exec (.putRow (.station i)) s = .next (reply req .ok (rowReply a cap) ((withoutRequest req s).setCap cap)) ∧
      cap = { s.cap with state := cap.state, rows := cap.rows } ∧
      rowAt a.plane a.channel a.y cap =
        some { dup := (match rowAt a.plane a.channel a.y s.cap with | some r => min (r.dup + 1) 255 | none => 0),
               values := a.values } ∧
      (∀ p c y : Nat, c < 3 → y < 28 → ¬(p = a.plane ∧ c = a.channel ∧ y = a.y) → rowAt p c y cap = rowAt p c y s.cap) ∧
      cap.state =
        (if s.cap.state = .opened ∧ presentRows cap = totalRows sh then .complete else s.cap.state)

/-! ## Requests that read -/

/-- R41, R42, R132, R141, R157, R159, R164, R187: CAPTURE_STATE, READ_PROFILE, CHECK_KEY, STAGE_QUERY and READ_COUNTERS,
from any master in every stage, reply OK with what they read and change nothing else. CAPTURE_STATE with a plane and a
channel adds the 28 presence entries of that plane and channel, absent in EMPTY and outside the shape. STAGE_QUERY gives
each of MAP, KEYS, REGION and LABEL as missing exactly when R157 says so, with the detail of R159, each item once. -/
def Obligations.ReadsReplyAndChangeNothing : Prop :=
  ∀ (s : State) (m : Master) (req : Request),
    (waitingRequest .captureState m s = some req → req.body = [] →
      exec (.captureState m) s = .next (reply req .ok (.capture (captureView s.cap) none) (withoutRequest req s))) ∧
    (waitingRequest .captureState m s = some req → ∀ p c : Nat, parseDetail req.body = some (some (p, c)) →
      ∃ detail : Option (List PresenceEntry),
        exec (.captureState m) s =
          .next (reply req .ok (.capture (captureView s.cap) detail) (withoutRequest req s)) ∧
        (s.cap.shape = none → detail = none) ∧
        ∀ sh : Shape, s.cap.shape = some sh →
          (sh.codes.length ≤ p ∨ maskHas sh.mask c = false → detail = none) ∧
          (p < sh.codes.length → maskHas sh.mask c = true →
            ∃ l : List PresenceEntry, detail = some l ∧ l.length = 28 ∧ ∀ y : Nat, y < 28 →
              (rowAt p c y s.cap = none → l[y]? = some { y := y, present := false, dup := 0 }) ∧
              ∀ r : Row, rowAt p c y s.cap = some r → l[y]? = some { y := y, present := true, dup := r.dup })) ∧
    (waitingRequest .readProfile m s = some req → req.body = [] →
      exec (.readProfile m) s =
        .next (reply req .ok
          (.profile { codes := s.mfc.header.codes, generation := s.mfc.header.generation,
                      passCount := s.mfc.header.passCount, committed := s.mfc.header.committed,
                      converged := s.mfc.header.converged, mixed := s.mfc.header.mixed, faulty := s.mfc.header.faulty })
          (withoutRequest req s))) ∧
    (waitingRequest .checkKey m s = some req → ∀ k : Fin 12, parseSlotOnly req.body = some k →
      exec (.checkKey m) s = .next (reply req .ok (.keyChecked k s.srb.keys[k]) (withoutRequest req s))) ∧
    (waitingRequest .stageQuery m s = some req → req.body = [] →
      exec (.stageQuery m) s =
        .next (reply req .ok
          (.stage { stage := s.srb.stage.stage, program := s.srb.stage.program, closeCount := s.srb.stage.closeCount,
                    reopenCount := s.srb.stage.reopenCount, reopenLimit := s.config.reopenLimit,
                    homeFault := s.srb.stage.homeFault, demoted := s.srb.stage.demoted, missing := missingItems s,
                    faulty := s.mfc.header.faulty })
          (withoutRequest req s))) ∧
    (waitingRequest .readCounters m s = some req → req.body = [] →
      exec (.readCounters m) s =
        .next (reply req .ok (.counters s.mct.counter s.mct.wrap) (withoutRequest req s))) ∧
    (let h := s.mfc.header
     let fails (k : Fin 12) : Prop := s.config.required.getLsbD k.val = true ∧
       ((∀ key : Key, s.srb.keys[k].state ≠ .fixed key) ∨ s.srb.keys[k].pending = true)
     (missingItems s).Nodup ∧
     (∀ (c v m f : Bool) (n : Nat), MissingItem.map c v m f n ∈ missingItems s ↔
       ¬(h.committed = true ∧ h.converged = true ∧ h.mixed = false ∧ h.faulty = 0) ∧
         c = !h.committed ∧ v = !h.converged ∧ m = h.mixed ∧ f = decide (h.faulty ≠ 0) ∧ n = h.faulty) ∧
     ((∃ slots : List (Nat × Nat), MissingItem.keys slots ∈ missingItems s) ↔ ∃ k : Fin 12, fails k) ∧
     (∀ slots : List (Nat × Nat), MissingItem.keys slots ∈ missingItems s →
       (slots.map (·.1)).Pairwise (· < ·) ∧
       ∀ x : Nat × Nat, x ∈ slots ↔ ∃ k : Fin 12, fails k ∧ x = (k.val, slotStateCode s.srb.keys[k].state)) ∧
     (∀ (v : BitVec 16) (p f : Bool), MissingItem.region v p f ∈ missingItems s ↔ s.srb.region.committed = false ∧
       v = s.srb.region.version ∧ p = s.srb.region.pending ∧ f = s.srb.region.homeFault) ∧
     ∀ (v : BitVec 16) (p f : Bool), MissingItem.label v p f ∈ missingItems s ↔ s.srb.label.committed = false ∧
       v = s.srb.label.version ∧ p = s.srb.label.pending ∧ f = s.srb.label.homeFault)

/-! ## The job table -/

/-- R49, R50, R54 to R57: a SUBMIT_JOB of a station that owns fewer than 4 boxes fills the highest-numbered FREE box as
a QUEUED job under the acceptance sequence counter, and the counter rises by 1. A HOLD_BOX on an unheld QUEUED box of
the station's own sets the deadline 50 ms later and clears HOLD_EXPIRED; an EDIT_BOX of the holder replaces the
arguments alone; a RELEASE_BOX of the holder ends the hold; at its deadline the hold ends with HOLD_EXPIRED set, and
every edit stands. A HOLD_EXPIRY brings the clock to the deadline, ends the hold of every other box whose deadline lies
before that moment, leaves every other box, and changes nothing for a box that is not held: that the clock comes to the
deadline so, and that a hold with the same deadline stands until its own HOLD_EXPIRY, is the model's choice (log 3). -/
def Obligations.JobsAreSubmittedAndHeld : Prop :=
  (∀ (s : State) (i : Station) (req : Request) (k : JobKind) (a : Option PassArgs) (b : Fin 16),
     lineRequest .map .submitJob i req s → parseSubmit req.body = some (k, a) → ownedBoxes i s < 4 →
     boxAt b s = none → (∀ c : Fin 16, b < c → (boxAt c s).isSome = true) →
     exec (.submitJob (.station i)) s =
       .next (reply req .ok (.submitted b s.jobs.seq)
         ((withoutRequest req s).setJobs
           { s.jobs with
             boxes := s.jobs.boxes.set b (some
               { state := .queued, owner := i, kind := k, args := a, seq := s.jobs.seq, progress := 0,
                 started := false, cancelNoted := false, hold := none, holdExpired := false, result := none,
                 newResult := false }),
             seq := s.jobs.seq + 1 }))) ∧
  ∀ (s : State) (i : Station) (req : Request) (b : Fin 16) (x : Box), boxAt b s = some x →
    (lineRequest .map .holdBox i req s → parseBoxOnly req.body = some b → x.owner = i → x.state = .queued →
      x.hold = none →
      exec (.holdBox (.station i)) s =
        .next (reply req .ok .empty
          (setBox b (some { x with hold := some (s.book.now + 50000), holdExpired := false }) (withoutRequest req s)))) ∧
    (lineRequest .map .editBox i req s → x.owner = i → x.hold.isSome = true →
      ∀ (bytes : Option (List Byte)) (a : Option PassArgs), parseEdit req.body = some (b, bytes) →
      parseJobArgs x.kind bytes = some a →
      exec (.editBox (.station i)) s =
        .next (reply req .ok .empty (setBox b (some { x with args := a }) (withoutRequest req s)))) ∧
    (lineRequest .map .releaseBox i req s → parseBoxOnly req.body = some b → x.owner = i → x.hold.isSome = true →
      exec (.releaseBox (.station i)) s =
        .next (reply req .ok .empty
          (setBox b (some { x with hold := none, holdExpired := false }) (withoutRequest req s)))) ∧
    (x.hold = none → exec (.holdExpiry b) s = .next s) ∧
    ∀ d : Nat, x.hold = some d →
      ∃ u, exec (.holdExpiry b) s = .next u ∧
        u = { s with jobs := { s.jobs with boxes := u.jobs.boxes }, book := { s.book with now := max s.book.now d } } ∧
        boxAt b u = some { x with hold := none, holdExpired := true } ∧
        ∀ c : Fin 16, c ≠ b →
          (boxAt c s = none → boxAt c u = none) ∧
          ∀ y : Box, boxAt c s = some y →
            (y.hold = none → boxAt c u = some y) ∧
            ∀ e : Nat, y.hold = some e →
              (e < max s.book.now d → boxAt c u = some { y with hold := none, holdExpired := true }) ∧
              (max s.book.now d ≤ e → boxAt c u = some y)

/-- R53, R58 to R60, R63, R66: a READ_BOX replies with the box and clears the new-result flag of an ended box when its
owner reads it; a CANCEL_JOB ends a QUEUED box CANCELLED with JOB_ENDED; on a RUNNING pass or clear it is noted while a
tile operation is under way, and ends the job at once, CANCELLED with its progress, while the operation may be
withdrawn: it is presented and waits for its first grant, or waits for an eligible way, or is presented again after a
wait for a way. It may not while it waits for a fill or a repair, nor when it is presented again after one. On a RUNNING
commit a CANCEL_JOB is answered BUSY, and on an ended box REFUSED_STATE; a FREE_BOX frees an ended box. That an
operation presented again may be withdrawn after a wait for a way, and not after a fill or a repair, is the model's
choice (log 20), and so are the empty bodies of these replies, the BUSY's with the rest (log 25). -/
def Obligations.BoxesAreReadCancelledAndFreed : Prop :=
  ∀ (s : State) (req : Request) (b : Fin 16), parseBoxOnly req.body = some b →
    (∀ m : Master, waitingRequest .readBox m s = some req →
      ∃ u, exec (.readBox m) s = .next (reply req .ok (.box (boxView b s)) u) ∧ u = { withoutRequest req s with jobs := u.jobs } ∧
        otherBoxesKept b s u ∧ u.jobs.seq = s.jobs.seq ∧ u.jobs.running = s.jobs.running ∧
        ∀ x : Box, boxAt b s = some x →
          boxAt b u = some { x with newResult := x.newResult && !(boxEnded x.state && ownsBox m x) }) ∧
    ∀ (i : Station) (x : Box), boxAt b s = some x → x.owner = i →
      let mayWithdraw : Prop :=
        s.tlc.job = some .presented ∨ s.tlc.job = some .waitWay ∨ s.tlc.job = some (.resumed false)
      (lineRequest .map .cancelJob i req s → x.state = .queued →
        exec (.cancelJob (.station i)) s =
          .next (reply req .ok .empty
            (raise .jobEnded
              (setBox b (some { x with state := .cancelled, result := some (.stopped false 0), newResult := true,
                                       hold := none }) (withoutRequest req s))))) ∧
      (lineRequest .map .cancelJob i req s → x.state = .running → x.kind ≠ .commitMap → ¬mayWithdraw →
        exec (.cancelJob (.station i)) s =
          .next (reply req .ok .empty (setBox b (some { x with cancelNoted := true }) (withoutRequest req s)))) ∧
      (lineRequest .map .cancelJob i req s → x.state = .running → x.kind ≠ .commitMap → mayWithdraw →
        exec (.cancelJob (.station i)) s =
          .next (reply req .ok .empty
            { stoppedJob b { x with cancelNoted := true } .cancelled x.progress (withoutRequest req s) with
              cap := if x.kind = .runPass then { s.cap with state := .consumed } else s.cap })) ∧
      (lineRequest .map .cancelJob i req s → x.state = .running → x.kind = .commitMap →
        exec (.cancelJob (.station i)) s = .next (refuse req .busy (withoutRequest req s))) ∧
      (lineRequest .map .cancelJob i req s → boxEnded x.state = true →
        exec (.cancelJob (.station i)) s = .next (refuse req .refusedState (withoutRequest req s))) ∧
      (lineRequest .map .freeBox i req s → boxEnded x.state = true →
        exec (.freeBox (.station i)) s = .next (reply req .ok .empty (setBox b none (withoutRequest req s))))

/-- R27, R51, R52, R61, R64, R108: a JOB_START with the engine free makes the oldest QUEUED box that is not held
RUNNING, the lower number of equal ages, and its start checks in the same step. A pass that passes them locks the
capture, sets MIXED, clears converged-last-pass, takes the capture's codes for an empty plane set, has its targets
prepared and its counts at 0, and requests its first included tile; a clear sets and clears the same flags and requests
tile 0; a commit presents its header check read; started is recorded. A failing check ends the box FAILED, started
clear, with JOB_ENDED and its reason: a pass with NO_CAPTURE when the capture is not COMPLETE, then PLANE_MISMATCH when
the header has planes that differ from the capture's, then NO_REFERENCE when a WINDOW channel's reference window is
saturated at a plane; a commit with TILE_FAULT when a tile is FAULTY, then FLASH_WORN. It changes nothing else. A commit
that fails so gives the working generation, counts of 0 and the number of UNUSED spares. -/
def Obligations.JobsStart : Prop :=
  ∀ (s : State) (b : Fin 16) (x : Box), engineFree s = true → oldestStartable s = some b → boxAt b s = some x →
    (startable b s = true ∧
      ∀ c : Fin 16, startable c s = true → ageOf c s < ageOf b s ∨ ageOf c s = ageOf b s ∧ b ≤ c) ∧
    (x.kind = .clearMap →
      exec .jobStart s =
        .next { s with
          jobs := { s.jobs with
            boxes := s.jobs.boxes.set b (some { x with state := .running, started := true, cancelNoted := false }),
            running := some { box := b, work := .clear 0 } },
          mfc := { s.mfc with header := { s.mfc.header with mixed := true, converged := false } },
          tlc := { s.tlc with job := some .presented, jobWait := 0 } }) ∧
    (x.kind = .commitMap → s.mfc.header.faulty = 0 → s.mfc.wear = .normal →
      exec .jobStart s =
        .next { s with
          jobs := { s.jobs with
            boxes := s.jobs.boxes.set b (some { x with state := .running, started := true, cancelNoted := false }),
            running := some
              { box := b, work := .commit { phase := .headerRead, programmed := 0, sparesUsed := 0, previous := none } } },
          mfc := { s.mfc with reads := s.mfc.reads ++ [.header] } }) ∧
    (∀ r : Reason, x.kind = .commitMap →
      s.mfc.header.faulty ≠ 0 ∧ r = .tileFault ∨ s.mfc.header.faulty = 0 ∧ s.mfc.wear = .worn ∧ r = .flashWorn →
      ∃ (y : Box) (c : CommitResult),
        exec .jobStart s = .next { raise .jobEnded s with jobs := { s.jobs with boxes := s.jobs.boxes.set b (some y) } } ∧
        y = { x with state := .failed r, started := false, cancelNoted := false, hold := none, result := some (.commit c),
                     newResult := true } ∧
        c = { generation := s.mfc.header.generation, placed := 0, programmed := 0, sparesUsed := 0,
              sparesLeft := sparesUnused s, previous := none, converged := none }) ∧
    ∀ a : PassArgs, x.kind = .runPass → x.args = some a →
      let failsWith (r : Reason) : Prop :=
        exec .jobStart s =
          .next (raise .jobEnded (setBox b (some
            { x with state := .failed r, started := false, cancelNoted := false, hold := none,
                     result := some (.stopped false 0), newResult := true }) s))
      (s.cap.state ≠ .complete → failsWith .noCapture) ∧
      ∀ sh : Shape, s.cap.state = .complete → s.cap.shape = some sh →
        (s.mfc.header.codes ≠ [] → s.mfc.header.codes ≠ sh.codes → failsWith .planeMismatch) ∧
        (s.mfc.header.codes = [] ∨ s.mfc.header.codes = sh.codes →
          (referenceLacks a sh s.cap → failsWith .noReference) ∧
          (¬referenceLacks a sh s.cap → ((∃ c : Fin 3, a.modes[c] = .window) → a.window.isSome = true) →
            exec .jobStart s =
              .next { s with
                cap := { s.cap with state := .locked },
                jobs := { s.jobs with
                  boxes := s.jobs.boxes.set b (some
                    { x with state := .running, started := true, cancelNoted := false }),
                  running := some
                    { box := b,
                      work := .pass
                        { targets := prepareTargets s.cap sh a, flat := 0, stepClamped := 0, valueClamped := 0,
                          faultyRestarted := 0, tilesWritten := 0, rmax := 0, rmaxNode := none, outsideWrite := false,
                          next := (nextIncluded sh 0).getD 0 } } },
                mfc := { s.mfc with
                  header := { s.mfc.header with
                    mixed := true, converged := false,
                    codes := if s.mfc.header.codes = [] then sh.codes else s.mfc.header.codes } },
                tlc := { s.tlc with job := some .presented, jobWait := 0 } }))

/-! ## The correction arithmetic -/

/-- R14: the raw residual of a non-flat node is formed from its target, its measured value and its slope: the quotient of
(T - M) x 64 by the slope, of at least 1, to nearest, a tie going away from zero: no number is nearer, a tie leaves the
greater magnitude, and the sign is the numerator's. -/
def Obligations.ResidualsRoundToNearest : Prop :=
  (∀ (i : PassInput) (p c x y : Nat) (slope : Int),
    nonFlatSlope i.cap i.shape i.args.minSlope p c x y = some slope →
    residualAt i p c x y = some (rawResidual (targetAt i p c) (measured i.cap p c x y) slope) ∧
      (i.args.minSlope : Int) ≤ slope) ∧
  ∀ (target m : Nat) (slope : Int), 1 ≤ slope →
    let n : Int := ((target : Int) - m) * 64
    let r := rawResidual target m slope
    2 * |r * slope - n| ≤ slope ∧ (2 * |r * slope - n| = slope → |n| < |r * slope|) ∧
      (0 < n → 0 ≤ r) ∧ (n < 0 → r ≤ 0) ∧ (n = 0 → r = 0)

/-- R15: with target and measured value within 0..65534 and a slope of at least 1, the difference lies within ±65534, the
numerator and the raw residual within ±4194176: the residual is formed exactly, at full width, as a number nearest to the
quotient, and one beyond the step limit goes into stage 5 as it is, to be limited there without a wrap. -/
def Obligations.ResidualsAreFormedExactly : Prop :=
  (∀ (target m : Nat) (slope : Int), target ≤ 65534 → m ≤ 65534 → 1 ≤ slope →
    |(target : Int) - m| ≤ 65534 ∧ |((target : Int) - m) * 64| ≤ 4194176 ∧ |rawResidual target m slope| ≤ 4194176 ∧
      2 * |rawResidual target m slope * slope - ((target : Int) - m) * 64| ≤ slope ∧
      ∀ limit : Nat,
        (isOutside limit (rawResidual target m slope) = true ↔ (limit : Int) < |rawResidual target m slope|) ∧
        ((limit : Int) < |rawResidual target m slope| →
          limitTo limit (rawResidual target m slope) = (rawResidual target m slope).sign * limit)) ∧
  ∀ (i : PassInput) (t : TileNo) (k : Fin 32) (r : Int),
    residualAt i (tilePlane t) (tileChannel t) (nodeX t k) (nodeY t k) = some r →
    (tileResidual i t k).d = limitTo i.args.stepLimit r

/-- R8, R9: the target of an included channel and plane is the FIXED one, or the truncated mean of the window's values
at the plane that are not saturated. R10 to R12: a node is flat when one of its three measured values is saturated or
its slope over its pair of planes, truncated toward zero, is below the least slope. -/
def Obligations.TargetsAndSlopesArePrepared : Prop :=
  (∀ (cap : Cap) (sh : Shape) (a : PassArgs) (c : Fin 3) (p : Fin 4), sh.mask[c] = true → p.val < sh.codes.length →
    (∀ ts : Vector Nat 4, a.modes[c] = .fixed ts → (prepareTargets cap sh a)[c][p] = ts[p]) ∧
    ∀ w : Window, a.modes[c] = .window → a.window = some w →
      let nodes := (Finset.Icc w.x0 w.x1 ×ˢ Finset.Icc w.y0 w.y1).filter fun n => measured cap p c n.1 n.2 ≠ 65535
      (prepareTargets cap sh a)[c][p] = (∑ n ∈ nodes, measured cap p c n.1 n.2) / nodes.card) ∧
  ∀ (cap : Cap) (sh : Shape) (least p c x y : Nat), 2 ≤ sh.codes.length → p < sh.codes.length →
    let lo := if p + 1 < sh.codes.length then p else sh.codes.length - 2
    let code (q : Nat) : Int := ((sh.codes.getD q 0 : Nat) : Int)
    let m (q : Nat) : Nat := measured cap q c x y
    let slope : Int := ((((m (lo + 1) : Nat) : Int) - m lo) * 16).tdiv (code (lo + 1) - code lo)
    (m p = 65535 ∨ m lo = 65535 ∨ m (lo + 1) = 65535 ∨ slope < least → nonFlatSlope cap sh least p c x y = none) ∧
    (m p ≠ 65535 → m lo ≠ 65535 → m (lo + 1) ≠ 65535 → (least : Int) ≤ slope →
      nonFlatSlope cap sh least p c x y = some slope)

/-- R14, R16 to R19: the d of a non-flat node is its raw residual limited to the step limit, and it is step-clamped when
the residual lies outside; the d of a flat node is the mean, truncated toward zero, of the stage-5 values of its
non-flat 4-neighbours within the grid, 0 with none, and it is never step-clamped. Every d lies within the step limit.
The new value is the sum of old value and d, limited to the value limit. -/
def Obligations.NodesAreComputedInStages : Prop :=
  ∀ (i : PassInput) (t : TileNo) (k : Fin 32) (old : TileValues),
    let c := tileChannel t
    let p := tilePlane t
    let slopeAt (n : Nat × Nat) : Option Int := nonFlatSlope i.cap i.shape i.args.minSlope p c n.1 n.2
    let limited (limit : Nat) (v : Int) : Int := max (-(limit : Int)) (min (limit : Int) v)
    let stage5 (n : Nat × Nat) : Int :=
      match slopeAt n with
      | some slope => limited i.args.stepLimit (rawResidual (targetAt i p c) (measured i.cap p c n.1 n.2) slope)
      | none => 0
    let here := (nodeX t k, nodeY t k)
    (∀ slope : Int, slopeAt here = some slope →
      (tileResidual i t k).flat = false ∧ (tileResidual i t k).d = stage5 here ∧
      ((tileResidual i t k).stepClamped = true ↔
        (i.args.stepLimit : Int) < |rawResidual (targetAt i p c) (measured i.cap p c here.1 here.2) slope|)) ∧
    (slopeAt here = none →
      let lenders := (Finset.range 48 ×ˢ Finset.range 28).filter fun n =>
        (slopeAt n).isSome = true ∧
          (n.1 = here.1 ∧ (n.2 + 1 = here.2 ∨ n.2 = here.2 + 1) ∨ n.2 = here.2 ∧ (n.1 + 1 = here.1 ∨ n.1 = here.1 + 1))
      (tileResidual i t k).flat = true ∧ (tileResidual i t k).stepClamped = false ∧
      (tileResidual i t k).d = (∑ n ∈ lenders, stage5 n).tdiv lenders.card) ∧
    |(tileResidual i t k).d| ≤ i.args.stepLimit ∧
    (newValues i t old)[k] = limited i.args.valLimit (old[k] + (tileResidual i t k).d)

/-- R13, R16, R19, R20, R24, R25: a tile operation adds its flat, its step-clamped and its value-clamped nodes to the
counts of the pass, and a FAULTY tile to the restarted ones. R_max is then the greatest |d| of the non-flat nodes so
far, with the first node, by value index, that reached it; the verdict asks for R_max within the tolerance and the flat
count within its limit. -/
def Obligations.PassCountsFollowTheNodes : Prop :=
  ∀ (i : PassInput) (t : TileNo) (old : TileValues) (wasFaulty : Bool) (w : PassWork),
    let nodes := List.finRange 32
    let after := countTile i t old wasFaulty w
    after =
      { w with
        flat := w.flat + nodes.countP fun k => (tileResidual i t k).flat,
        stepClamped := w.stepClamped + nodes.countP fun k => (tileResidual i t k).stepClamped,
        valueClamped := w.valueClamped +
          nodes.countP fun k => decide ((i.args.valLimit : Int) < |old[k] + (tileResidual i t k).d|),
        faultyRestarted := w.faultyRestarted + (if wasFaulty then 1 else 0), tilesWritten := w.tilesWritten + 1,
        rmax := after.rmax, rmaxNode := after.rmaxNode } ∧
    (∀ k : Fin 32, (tileResidual i t k).flat = false →
      after.rmaxNode ≠ none ∧ (tileResidual i t k).d.natAbs ≤ after.rmax) ∧
    (after.rmax = w.rmax ∧ after.rmaxNode = w.rmaxNode ∨
      ∃ k : Fin 32, (tileResidual i t k).flat = false ∧ after.rmax = (tileResidual i t k).d.natAbs ∧
        after.rmaxNode = some { channel := tileChannel t, plane := tilePlane t, x := nodeX t k, y := nodeY t k } ∧
        (w.rmaxNode = none ∨ w.rmax < after.rmax) ∧
        ∀ j : Fin 32, j < k → (tileResidual i t j).flat = false → (tileResidual i t j).d.natAbs < after.rmax) ∧
    ∀ a : PassArgs, passConverged a after = true ↔ after.rmax ≤ a.tolerance ∧ after.flat ≤ a.flatLimit

/-! ## Tile operations -/

/-- R74, R77, R78: the victim of a set is its lowest invalid way; with none, the way at which the walk of its tree ends,
if it may be replaced; else the lowest way that may; else there is none. A touch makes the three nodes on the way's path
point away from it, and changes nothing else. -/
def Obligations.VictimsAreChosen : Prop :=
  ∀ (s : State) (i : Fin 16),
    (∀ w : Fin 8, entryAt i w s = none → (∀ v : Fin 8, v < w → (entryAt i v s).isSome = true) →
      chooseVictim i s = some w) ∧
    ((∀ w : Fin 8, (entryAt i w s).isSome = true) →
      ∃ w : Fin 8, walkEndsAt (s.tlc.sets[i]).tree s.tlc.lock w ∧ s.tlc.lock ≤ w ∧
        (replaceable i w s → chooseVictim i s = some w) ∧
        (¬replaceable i w s →
          (∀ v : Fin 8, replaceable i v s → (∀ x : Fin 8, x < v → ¬replaceable i x s) → chooseVictim i s = some v) ∧
          ((∀ v : Fin 8, ¬replaceable i v s) → chooseVictim i s = none))) ∧
    ∀ w : Fin 8, ∃ tree : Vector Bool 7,
      touch i w s = s.setTlc { s.tlc with sets := s.tlc.sets.set i { s.tlc.sets[i] with tree := tree } } ∧
      ∀ n : Fin 7, tree[n] =
        if n.val = 0 then decide (w.val < 4)
        else if n.val = 1 + w.val / 4 then decide (w.val % 4 < 2)
        else if n.val = 3 + w.val / 2 then decide (w.val % 2 = 0)
        else (s.tlc.sets[i]).tree[n]

/-- R72 to R75, R79, R82 to R84: what a read access and a whole-tile write come to. A hit with an agreeing code gives
its values and touches its way. A FILLING entry is waited for. A CLEAN entry that is mismatched becomes FILLING, raises
TILE_REPAIRED and is fetched again; a DIRTY one becomes FAULTY, raises TILE_LOST, raises the faulty count by 1 and marks
the tile changed. A miss takes the victim's way: a write puts its values there as DIRTY with no fill; a read puts the
newest queued copy there as DIRTY and is served from it, or else makes the way FILLING and requests a fill. With no
victim the access waits, or is refused, and changes nothing. That a read which finds its tile FAULTY does not touch the
way is the model's choice (log 31). -/
def Obligations.TileAccessesAreServed : Prop :=
  ∀ (s : State) (t : TileNo),
    (∀ w : Fin 8, findWay t s = some w →
      (∀ v : TileValues, holdsTile t w v s → readTileAt t s = (touch (setOf t) w s, .values w v)) ∧
      (∀ (e : Entry) (v : TileValues), entryAt (setOf t) w s = some e → e.state ≠ .filling →
        ∃ u, writeTileAt t v s = (u, .written) ∧ tileStored t w v s u ∧
          u = { s with tlc := { s.tlc with sets := u.tlc.sets }, mfc := { s.mfc with header := u.mfc.header },
                       pcd := u.pcd, syp := { s.syp with flags := u.syp.flags } }) ∧
      (entryAt (setOf t) w s = some { tile := t, state := .faulty } → readTileAt t s = (s, .faulty w)) ∧
      (entryAt (setOf t) w s = some { tile := t, state := .filling } →
        readTileAt t s = (s, .waits .waitFill) ∧ ∀ v : TileValues, writeTileAt t v s = (s, .waits .waitFill)) ∧
      ∀ (v : TileValues) (c : CheckCode), c ≠ codeOf t v →
        (entryAt (setOf t) w s = some { tile := t, state := .clean v c } →
          ∃ u, readTileAt t s = (u, .waits .waitRepair) ∧
            u = { raise .tileRepaired s with
                  tlc := { s.tlc with sets := u.tlc.sets, fills := u.tlc.fills },
                  mfc := { s.mfc with reads := u.mfc.reads } } ∧
            entryAt (setOf t) w u = some { tile := t, state := .filling } ∧ otherWaysKept (setOf t) w s u ∧
            (∀ j : Fin 16, (u.tlc.sets[j]).tree = (s.tlc.sets[j]).tree) ∧ fillRequested t s u) ∧
        (entryAt (setOf t) w s = some { tile := t, state := .dirty v c } →
          ∃ u, readTileAt t s = (u, .faulty w) ∧
            u = { s with
              tlc := { s.tlc with sets := u.tlc.sets },
              mfc := { s.mfc with header := { s.mfc.header with faulty := s.mfc.header.faulty + 1 } },
              pcd := (markChanged t s).pcd, syp := (markChanged t (raise .tileLost s)).syp } ∧
            entryAt (setOf t) w u = some { tile := t, state := .faulty } ∧ otherWaysKept (setOf t) w s u ∧
            ∀ j : Fin 16, (u.tlc.sets[j]).tree = (s.tlc.sets[j]).tree)) ∧
    (findWay t s = none →
      (∀ w : Fin 8, chooseVictim (setOf t) s = some w →
        ((∀ c ∈ s.tlc.queue, c.tile ≠ t) →
          ∃ u, readTileAt t s = (u, .waits .waitFill) ∧
            u = { s with tlc := { s.tlc with sets := u.tlc.sets, queue := u.tlc.queue },
                         mfc := { s.mfc with reads := s.mfc.reads ++ [.fill t] } } ∧
            wayGiven t w .filling s u) ∧
        (∀ (before after : List TileCopy) (c : TileCopy), s.tlc.queue = before ++ c :: after → c.tile = t →
          (∀ d ∈ after, d.tile ≠ t) →
          (c.code = codeOf t c.values →
            ∃ u, readTileAt t s = (u, .values w c.values) ∧
              u = { s with tlc := { s.tlc with sets := u.tlc.sets, queue := u.tlc.queue } } ∧
              wayGiven t w (.dirty c.values c.code) s u) ∧
          (c.code ≠ codeOf t c.values →
            ∃ u, readTileAt t s = (u, .faulty w) ∧ wayGiven t w .faulty s u ∧ flagSet .tileLost u = true ∧
              u.mfc.header = { s.mfc.header with faulty := s.mfc.header.faulty + 1 } ∧ u.pcd = (markChanged t s).pcd)) ∧
        ∀ v : TileValues, ∃ u, writeTileAt t v s = (u, .written) ∧
          u = { s with
            tlc := { s.tlc with sets := u.tlc.sets, queue := u.tlc.queue },
            mfc := { s.mfc with header := { s.mfc.header with committed := false } },
            pcd := (markChanged t s).pcd, syp := (markChanged t s).syp } ∧
          tileStored t w v s u) ∧
      (chooseVictim (setOf t) s = none →
        (mustWait (setOf t) s →
          readTileAt t s = (s, .waits .waitWay) ∧ ∀ v : TileValues, writeTileAt t v s = (s, .waits .waitWay)) ∧
        (s.mfc.wear = .worn →
          readTileAt t s = (s, .refused true) ∧ ∀ v : TileValues, writeTileAt t v s = (s, .refused true)) ∧
        (s.mfc.wear = .normal → ¬mustWait (setOf t) s →
          readTileAt t s = (s, .refused false) ∧ ∀ v : TileValues, writeTileAt t v s = (s, .refused false))))

/-- R2, R6, R7, R20, R21, R73 to R75, R82 to R85, R105, R121: a granted pass tile operation whose read access comes to
the tile's values, by a hit or from a queued copy, or finds or declares the tile lost and takes its values as zeros,
writes the 32 new values as one whole-tile write with a fresh check code, clears the committed flag and a FAULTY
condition, marks the tile changed, and counts a tile to the box's owner. Beside what the read access itself does (stated
above), the write touches the way and leaves every other way and tree, the queue, the fills, the other requesters'
operations, the drains and the locks. With an included tile left and no cancel noted, the pass's counts follow its
nodes, the progress is the tiles written, and the next included tile is requested. The next included tile at or above a
number is the lowest-numbered one whose channel is in the capture's mask and whose plane is below its plane count. -/
def Obligations.PassTilesAreWritten : Prop :=
  (∀ (sh : Shape) (n : Nat),
    (∀ t : TileNo, nextIncluded sh n = some t →
      n ≤ t.val ∧ inPass sh t ∧ ∀ v : TileNo, n ≤ v.val → inPass sh v → t ≤ v) ∧
    (nextIncluded sh n = none → ∀ v : TileNo, n ≤ v.val → ¬inPass sh v)) ∧
  ∀ (s u : State) (b : Fin 16) (x : Box) (w : PassWork) (a : PassArgs) (sh : Shape) (way : Fin 8) (old : TileValues)
    (lost : Bool),
    nextGrant s = some .job → s.jobs.running = some { box := b, work := .pass w } → boxAt b s = some x →
    x.args = some a → s.cap.shape = some sh →
    (readTileAt w.next (grantJob s) = (u, .values way old) ∧ lost = false ∨
      readTileAt w.next (grantJob s) = (u, .faulty way) ∧ old = Vector.replicate 32 0 ∧ lost = true) →
    ∃ t, exec .passTileOperation s = .next t ∧
      t = { u with cap := t.cap, jobs := t.jobs,
                   tlc := { u.tlc with sets := t.tlc.sets, job := t.tlc.job, jobWait := 0 },
                   mfc := { u.mfc with header := t.mfc.header }, pcd := t.pcd, syp := { u.syp with flags := t.syp.flags },
                   mct := (rise (.station x.owner) .tiles 1 u).mct } ∧
      tileStored w.next way
        (newValues { cap := s.cap, shape := sh, targets := w.targets, args := a } w.next old) u t ∧
      otherBoxesKept b s t ∧ t.cap.rows = s.cap.rows ∧
      ∀ v : TileNo, nextIncluded sh (w.next.val + 1) = some v → x.cancelNoted = false →
        boxAt b t = some { x with progress := w.tilesWritten + 1 } ∧ t.tlc.job = some .presented ∧
        ∃ after : PassWork,
          t.jobs.running = some { box := b, work := .pass { after with next := v } } ∧
          after = countTile { cap := s.cap, shape := sh, targets := w.targets, args := a } w.next old lost w

/-- R20, R25 to R27, R52, R59, R62: after its last included tile, held or FAULTY, the pass ends its box DONE with its
result, consumes the capture, raises the pass count by 1 up to 65535, clears MIXED, and sets converged-last-pass when
the verdict holds and no WRITE_TILE came between. The result gives the counts as the last tile leaves them; a cancel
noted during the last tile is not acted on, and stays to be read. -/
def Obligations.PassesComplete : Prop :=
  ∀ (s u : State) (b : Fin 16) (x : Box) (w : PassWork) (a : PassArgs) (sh : Shape) (way : Fin 8) (old : TileValues)
    (lost : Bool),
    nextGrant s = some .job → s.jobs.running = some { box := b, work := .pass w } → boxAt b s = some x →
    x.args = some a → s.cap.shape = some sh →
    (readTileAt w.next (grantJob s) = (u, .values way old) ∧ lost = false ∨
      readTileAt w.next (grantJob s) = (u, .faulty way) ∧ old = Vector.replicate 32 0 ∧ lost = true) →
    nextIncluded sh (w.next.val + 1) = none →
    ∃ (t : State) (y : Box) (r : PassResult), exec .passTileOperation s = .next t ∧ t.jobs.running = none ∧
      boxAt b t = some y ∧
      y = { x with state := .done, result := some (.pass r), newResult := true, progress := w.tilesWritten + 1,
                   hold := none } ∧
      (∃ after : PassWork,
        after = countTile { cap := s.cap, shape := sh, targets := w.targets, args := a } w.next old lost w ∧
        r.rmax = after.rmax ∧ r.rmaxNode = after.rmaxNode ∧ r.flat = after.flat ∧ r.stepClamped = after.stepClamped ∧
        r.valueClamped = after.valueClamped ∧ r.faultyRestarted = w.faultyRestarted + (if lost then 1 else 0) ∧
        r.outsideWrite = w.outsideWrite) ∧
      r.passNumber = min (s.mfc.header.passCount + 1) 65535 ∧
      (r.converged = true ↔ r.rmax ≤ a.tolerance ∧ r.flat ≤ a.flatLimit) ∧ r.tilesWritten = w.tilesWritten + 1 ∧
      t.cap = { s.cap with state := .consumed } ∧ t.tlc.job = none ∧
      t.mfc.header = { u.mfc.header with
        passCount := min (s.mfc.header.passCount + 1) 65535, mixed := false, converged := r.converged && !w.outsideWrite,
        committed := false, faulty := u.mfc.header.faulty - (if lost then 1 else 0) } ∧
      flagSet .jobEnded t = true

/-- R65, R66, R73 to R75, R82, R85, R105, R107: a granted clear tile operation on a valid entry that is not FILLING, or
on a miss with a way to give the tile, writes 32 zeros as a whole-tile write with no fill and counts a tile. It leaves
every other way and tree, the fills, the other requesters' operations, the drains and the locks; the clear goes on with
the next tile, or after tile 503, whether or not a cancel is noted, ends DONE with an empty plane set, MIXED and
converged-last-pass clear and a pass count of 0. -/
def Obligations.ClearTilesAreWritten : Prop :=
  ∀ (s : State) (b : Fin 16) (x : Box) (u : TileNo) (way : Fin 8),
    nextGrant s = some .job → s.jobs.running = some { box := b, work := .clear u } → boxAt b s = some x →
    wayToWrite u way s →
    ∃ t, exec .clearTileOperation s = .next t ∧
      t = { s with jobs := t.jobs,
                   tlc := { s.tlc with sets := t.tlc.sets, queue := t.tlc.queue, job := t.tlc.job, jobWait := 0 },
                   mfc := { s.mfc with header := t.mfc.header }, pcd := t.pcd, syp := { s.syp with flags := t.syp.flags },
                   mct := (rise (.station x.owner) .tiles 1 s).mct } ∧
      tileStored u way (Vector.replicate 32 0) s t ∧ otherBoxesKept b s t ∧
      (∀ h : u.val + 1 < 504, x.cancelNoted = false →
        t.jobs.running = some { box := b, work := .clear ⟨u.val + 1, h⟩ } ∧ t.tlc.job = some .presented ∧
        boxAt b t = some { x with progress := x.progress + 1 }) ∧
      (u.val = 503 → t.jobs.running = none ∧ t.tlc.job = none ∧
        t.mfc.header = { s.mfc.header with codes := [], mixed := false, converged := false, passCount := 0,
                                           committed := false, faulty := t.mfc.header.faulty } ∧
        boxAt b t = some { x with state := .done, progress := x.progress + 1, result := some (.cleared (x.progress + 1)),
                                  newResult := true, hold := none } ∧
        flagSet .jobEnded t = true)

/-- R22, R52, R59, R62, R63, R65, R66, R72: the tile operation of a pass or a clear that must wait waits as the JOB
requester's operation; one that the tile cache refuses ends the job FAILED, with FLASH_WORN when the flash is WORN and
with TILE_FAULT when not. A noted cancel is acted on where the operation would wait for a way, and at the safe point
after a tile has been written with another to come: the job ends CANCELLED. The box then gives the tiles written, which
are its progress; a pass consumes the capture; pass count, plane codes, MIXED and converged-last-pass stay. -/
def Obligations.JobsWaitAndEndEarly : Prop :=
  ∀ (s : State) (b : Fin 16) (x : Box), nextGrant s = some .job → boxAt b s = some x →
    (∀ (w : PassWork) (a : PassArgs) (sh : Shape), s.jobs.running = some { box := b, work := .pass w } →
      x.args = some a → s.cap.shape = some sh →
      (∀ (u : State) (p : OpPhase), readTileAt w.next (grantJob s) = (u, .waits p) →
        exec .passTileOperation s =
          .next (if p = .waitWay ∧ x.cancelNoted = true then
              (stoppedJob b x .cancelled w.tilesWritten u).setCap { s.cap with state := .consumed }
            else u.setTlc { u.tlc with job := some p, jobWait := 0 })) ∧
      (∀ (u : State) (worn : Bool), readTileAt w.next (grantJob s) = (u, .refused worn) →
        exec .passTileOperation s =
          .next ((stoppedJob b x (.failed (if worn then .flashWorn else .tileFault)) w.tilesWritten u).setCap
            { s.cap with state := .consumed })) ∧
      ∀ (u : State) (way : Fin 8) (old : TileValues) (next : TileNo),
        readTileAt w.next (grantJob s) = (u, .values way old) ∨ readTileAt w.next (grantJob s) = (u, .faulty way) →
        x.cancelNoted = true → nextIncluded sh (w.next.val + 1) = some next →
        ∃ t, exec .passTileOperation s = .next t ∧
          t.jobs = { s.jobs with
            boxes := s.jobs.boxes.set b (some
              { x with state := .cancelled, progress := w.tilesWritten + 1,
                       result := some (.stopped true (w.tilesWritten + 1)), newResult := true, hold := none }),
            running := none } ∧
          t.cap = { s.cap with state := .consumed } ∧ t.tlc.job = none ∧ flagSet .jobEnded t = true ∧
          t.mfc.header = { u.mfc.header with committed := false, faulty := t.mfc.header.faulty }) ∧
    ∀ v : TileNo, s.jobs.running = some { box := b, work := .clear v } →
      (∀ (u : State) (p : OpPhase), writeTileAt v (Vector.replicate 32 0) (grantJob s) = (u, .waits p) →
        exec .clearTileOperation s =
          .next (if p = .waitWay ∧ x.cancelNoted = true then stoppedJob b x .cancelled x.progress u
            else u.setTlc { u.tlc with job := some p, jobWait := 0 })) ∧
      (∀ (u : State) (worn : Bool), writeTileAt v (Vector.replicate 32 0) (grantJob s) = (u, .refused worn) →
        exec .clearTileOperation s =
          .next (stoppedJob b x (.failed (if worn then .flashWorn else .tileFault)) x.progress u)) ∧
      ∀ way : Fin 8, wayToWrite v way s → x.cancelNoted = true → v.val + 1 < 504 →
        ∃ t, exec .clearTileOperation s = .next t ∧
          t.jobs = { s.jobs with
            boxes := s.jobs.boxes.set b (some
              { x with state := .cancelled, progress := x.progress + 1,
                       result := some (.stopped true (x.progress + 1)), newResult := true, hold := none }),
            running := none } ∧
          t.cap = s.cap ∧ t.tlc.job = none ∧ flagSet .jobEnded t = true ∧
          t.mfc.header = { s.mfc.header with committed := false, faulty := t.mfc.header.faulty }

/-- R88, R110, R111: a granted commit copy-out of a DIRTY entry with room in the queue copies it to the tail and makes
it CLEAN, and tiles placed rises by 1; one of a tile that is absent, CLEAN, FILLING or FAULTY changes no entry and no
queue. The sweep goes on with the next tile, and after tile 503 the drain begins with its moment tested: the queue is
empty and no flash program is in flight. A copy-out of a DIRTY entry that finds the queue full waits for room, or, the
flash being WORN, ends the commit FAILED with FLASH_WORN and its result. That a program is in flight from its grant on,
and not while it waits for the grant, is the model's choice (log 41). -/
def Obligations.CommitsCopyOut : Prop :=
  ∀ (s : State) (b : Fin 16) (x : Box) (w : CommitWork) (u : TileNo),
    nextGrant s = some .job → s.jobs.running = some { box := b, work := .commit w } → w.phase = .sweep u →
    boxAt b s = some x →
    (∀ (way : Fin 8) (v : TileValues) (c : CheckCode), findWay u s = some way →
      entryAt (setOf u) way s = some { tile := u, state := .dirty v c } → s.tlc.queue.length < 4 →
      ∃ t, exec .commitCopyOut s = .next t ∧
        t = { s with jobs := t.jobs,
                     tlc := { s.tlc with sets := t.tlc.sets, job := t.tlc.job, jobWait := 0,
                                         queue := s.tlc.queue ++ [{ tile := u, values := v, code := c }] } } ∧
        entryAt (setOf u) way t = some { tile := u, state := .clean v c } ∧ otherWaysKept (setOf u) way s t ∧
        (∀ j : Fin 16, (t.tlc.sets[j]).tree = (s.tlc.sets[j]).tree) ∧ t.jobs.seq = s.jobs.seq ∧
        boxAt b t = some { x with progress := x.progress + 1 } ∧ otherBoxesKept b s t ∧
        (∀ h : u.val + 1 < 504, t.tlc.job = some .presented ∧
          t.jobs.running = some { box := b, work := .commit { w with phase := .sweep ⟨u.val + 1, h⟩ } }) ∧
        (u.val = 503 → t.tlc.job = none ∧
          t.jobs.running = some { box := b, work := .commit { w with phase := .drain false } })) ∧
    (∀ (way : Fin 8) (v : TileValues) (c : CheckCode), findWay u s = some way →
      entryAt (setOf u) way s = some { tile := u, state := .dirty v c } → 4 ≤ s.tlc.queue.length →
      (s.mfc.wear = .normal →
        exec .commitCopyOut s = .next (s.setTlc { s.tlc with job := some .waitRoom, jobWait := 0 })) ∧
      (s.mfc.wear = .worn →
        ∃ (t : State) (y : Box) (r : CommitResult), exec .commitCopyOut s = .next t ∧
          t = { raise .jobEnded s with
            jobs := { s.jobs with boxes := s.jobs.boxes.set b (some y), running := none },
            tlc := { s.tlc with job := none, jobWait := 0 },
            mfc := { s.mfc with header := { s.mfc.header with committed := false } } } ∧
          y = { x with state := .failed .flashWorn, result := some (.commit r), newResult := true, hold := none } ∧
          r = { generation := s.mfc.header.generation, placed := x.progress, programmed := w.programmed,
                sparesUsed := w.sparesUsed, sparesLeft := sparesUnused s, previous := w.previous, converged := none })) ∧
    ((findWay u s = none ∨
        ∃ (way : Fin 8) (e : Entry), findWay u s = some way ∧ entryAt (setOf u) way s = some e ∧
          ∀ v c, e.state ≠ .dirty v c) →
      ∃ t, exec .commitCopyOut s = .next t ∧
        t = { s with jobs := { s.jobs with running := t.jobs.running },
                     tlc := { s.tlc with job := t.tlc.job, jobWait := 0 } } ∧
        (∀ h : u.val + 1 < 504, t.tlc.job = some .presented ∧
          t.jobs.running = some { box := b, work := .commit { w with phase := .sweep ⟨u.val + 1, h⟩ } }) ∧
        (u.val = 503 → t.tlc.job = none ∧
          t.jobs.running = some { box := b, work := .commit { w with phase := .drain (drained s) } }))

/-- R70, R71, R89, R90: a READ_TILE of a station or SYSTEM, and a WRITE_TILE of a station with MAP or of SYSTEM in a
stage that admits it, are presented as ACCESS operations, a carried -512 raised to -511, in the order in which the
requests were taken. The next grant goes to the JOB operation, if it is presented and the JOB wait count is 8; else to
the head of the fill FIFO; else to a presented PANEL operation; else to the ACCESS operation presented again after a
wait that was taken first, or with none to the presented one that was taken first; else to a presented JOB operation. A
grant to another requester adds 1 to the count while the JOB operation is presented, and changes nothing else; a grant
to JOB returns the count to 0. -/
def Obligations.TileRequestsArePresented : Prop :=
  ∀ (s : State) (m : Master) (req : Request) (t : TileNo),
    (waitingRequest .readTile m s = some req → m ≠ .panel → parseTile req.body = some t →
      exec (.readTile m) s = .next (presentAccess req t .read (withoutRequest req s))) ∧
    (∀ v : TileValues, waitingRequest .writeTile m s = some req → mapOrSystem m s = true →
      stageAdmits lineStage s = true → parseTileWrite req.body = some (t, v) →
      exec (.writeTile m) s =
        .next (presentAccess req t
          (.write (Vector.ofFn fun k : Fin 32 => if v[k] < -511 then -511 else v[k])
            (v.toList.countP fun y => decide (y < -511)))
          (withoutRequest req s))) ∧
    (∀ (k : AccessKind) (u : State), u = presentAccess req t k s →
      u = { s with tlc := { s.tlc with access := u.tlc.access } } ∧
      u.tlc.access.Perm ({ req := req, tile := t, kind := k, phase := .presented } :: s.tlc.access) ∧
      (s.tlc.access.Pairwise (fun x y => x.req.ticket ≤ y.req.ticket) →
        u.tlc.access.Pairwise fun x y => x.req.ticket ≤ y.req.ticket)) ∧
    let jobStands : Prop := ∃ p : OpPhase, s.tlc.job = some p ∧ standsPresented p
    let panelStands : Prop := ∃ o : PanelOp, s.tlc.panel = some o ∧ standsPresented o.phase
    let again (o : AccessOp) : Prop := ∃ inFlight : Bool, o.phase = .resumed inFlight
    (jobStands → 8 ≤ s.tlc.jobWait → nextGrant s = some .job) ∧
    (¬jobStands ∨ s.tlc.jobWait < 8 →
      (∀ (f : Fill) (rest : List Fill), s.tlc.fills = f :: rest → nextGrant s = some (.fill f)) ∧
      (s.tlc.fills = [] →
        (∀ o : PanelOp, s.tlc.panel = some o → standsPresented o.phase → nextGrant s = some (.panel o)) ∧
        (¬panelStands →
          (∀ (before after : List AccessOp) (o : AccessOp), s.tlc.access = before ++ o :: after →
            again o ∧ (∀ x ∈ before, ¬again x) ∨
              o.phase = .presented ∧ (∀ x ∈ s.tlc.access, ¬again x) ∧ (∀ x ∈ before, x.phase ≠ .presented) →
            nextGrant s = some (.access o)) ∧
          ((∀ o ∈ s.tlc.access, ¬standsPresented o.phase) →
            (jobStands → nextGrant s = some .job) ∧ (¬jobStands → nextGrant s = none))))) ∧
    (jobStands → grantOther s = s.setTlc { s.tlc with jobWait := s.tlc.jobWait + 1 }) ∧
    (¬jobStands → grantOther s = s) ∧
    grantJob s = s.setTlc { s.tlc with jobWait := 0 }

/-- R72, R74, R79, R89: a granted READ_TILE whose tile the cache holds with an agreeing check code replies OK with its
values, touches the way, and counts a tile; one whose entry is FAULTY replies DATA_FAULT with zeros. In every case it
does what its read access comes to: the values, found at once or on a miss; DATA_FAULT for a tile found or declared
lost; a wait, as an ACCESS operation; FLASH_WORN or DATA_FAULT for a refusal. That reading a FAULTY entry does not touch
its way is the model's choice (log 31). -/
def Obligations.TilesAreRead : Prop :=
  ∀ (s : State) (o : AccessOp) (w : Fin 8), nextGrant s = some (.access o) → o.kind = .read →
    (∀ v : TileValues, holdsTile o.tile w v s →
      exec .readTileAccess s =
        .next (reply o.req .ok (.tileRead o.tile .ok v)
          (rise o.req.master .tiles 1 (dropAccess o (touch (setOf o.tile) w (grantOther s)))))) ∧
    (findWay o.tile s = some w → entryAt (setOf o.tile) w s = some { tile := o.tile, state := .faulty } →
      exec .readTileAccess s =
        .next (reply o.req .dataFault (.tileRead o.tile .fault (Vector.replicate 32 0)) (dropAccess o (grantOther s)))) ∧
    ∀ (u : State) (r : ReadOutcome), readTileAt o.tile (grantOther s) = (u, r) →
      (∀ v : TileValues, r = .values w v →
        exec .readTileAccess s =
          .next (reply o.req .ok (.tileRead o.tile .ok v) (rise o.req.master .tiles 1 (dropAccess o u)))) ∧
      (r = .faulty w ∨ r = .refused false →
        exec .readTileAccess s =
          .next (reply o.req .dataFault (.tileRead o.tile .fault (Vector.replicate 32 0)) (dropAccess o u))) ∧
      (r = .refused true →
        exec .readTileAccess s = .next (reply o.req .flashWorn (.tileNamed o.tile) (dropAccess o u))) ∧
      ∀ p : OpPhase, r = .waits p → exec .readTileAccess s = .next (setAccessPhase o p u)

/-- R23, R29, R72 to R75, R79, R82, R85, R90, R105, R121: a granted WRITE_TILE with no commit or clear RUNNING, on a
valid entry that is not FILLING, or on a miss with a way to give the tile, writes its 32 values as a whole-tile write:
the faulty count falls if the entry was FAULTY, the committed flag is cleared, the tile is marked changed, and the way
is touched; every other way and tree, the fills, the PANEL and JOB operations, the drains and the locks stay. It sets a
running pass's outside-write flag or else clears converged-last-pass, counts a tile and replies OK. With a commit or
clear RUNNING it is answered BUSY and writes nothing. Otherwise it waits as an ACCESS operation, or is refused with
FLASH_WORN or DATA_FAULT. -/
def Obligations.TilesAreWritten : Prop :=
  (∀ (s : State) (o : AccessOp) (v : TileValues) (n : Nat) (way : Fin 8),
     nextGrant s = some (.access o) → o.kind = .write v n → mapJobRunning s = false → wayToWrite o.tile way s →
     ∃ u, exec .writeTileAccess s =
         .next (reply o.req .ok (.tileWritten o.tile n) (rise o.req.master .tiles 1 u)) ∧
       u = { s with jobs := u.jobs,
                    tlc := { (grantOther s).tlc with sets := u.tlc.sets, queue := u.tlc.queue,
                                                     access := s.tlc.access.erase o },
                    mfc := { s.mfc with header := u.mfc.header }, pcd := u.pcd,
                    syp := { s.syp with flags := u.syp.flags } } ∧
       tileStored o.tile way v s u ∧
       u.mfc.header = { s.mfc.header with converged := u.mfc.header.converged, committed := false,
                                          faulty := u.mfc.header.faulty } ∧
       (s.jobs.running = none → u.jobs = s.jobs ∧ u.mfc.header.converged = false) ∧
       ∀ (b : Fin 16) (p : PassWork), s.jobs.running = some { box := b, work := .pass p } →
         u.jobs = { s.jobs with running := some { box := b, work := .pass { p with outsideWrite := true } } } ∧
         u.mfc.header.converged = s.mfc.header.converged) ∧
  ∀ (s : State) (o : AccessOp) (v : TileValues) (n : Nat), nextGrant s = some (.access o) → o.kind = .write v n →
    (mapJobRunning s = true →
      exec .writeTileAccess s = .next (reply o.req .busy .empty (dropAccess o (grantOther s)))) ∧
    (mapJobRunning s = false → ∀ u : State,
      (writeTileAt o.tile v (grantOther s) = (u, .written) →
        exec .writeTileAccess s =
          .next (reply o.req .ok (.tileWritten o.tile n) (rise o.req.master .tiles 1 (noteWrite (dropAccess o u))))) ∧
      (∀ p : OpPhase, writeTileAt o.tile v (grantOther s) = (u, .waits p) →
        exec .writeTileAccess s = .next (setAccessPhase o p u)) ∧
      ∀ worn : Bool, writeTileAt o.tile v (grantOther s) = (u, .refused worn) →
        exec .writeTileAccess s =
          .next (reply o.req (if worn then .flashWorn else .dataFault) (.tileNamed o.tile) (dropAccess o u)))

/-- R72, R79, R126, R128, R134: a granted snapshot of the run's next tile whose read access comes to the tile's values,
by a hit or from a queued copy, takes them, and its WAITING entry becomes SENDING; after the last tile the whole reply
is placed, before it the next tile's snapshot is presented. The operation of an abandoned run changes no entry and no
run, whatever it comes to, and at its end the first snapshot of a run that waits behind it is presented. A read access
that waits makes the snapshot wait; one that finds the tile lost gives the FAULT status and zeros, and its entry becomes
SENDING; a refused one gives the same, and its entry becomes SENDING_CHANGED. -/
def Obligations.SnapshotsAreTaken : Prop :=
  ∀ (s u : State) (o : PanelOp) (r : ReadOutcome), nextGrant s = some (.panel o) →
    readTileAt o.tile (grantOther s) = (u, r) →
    (∀ p : OpPhase, r = .waits p → exec .panelSnapshot s = .next (setPanelOp (some { o with phase := p }) u)) ∧
    (o.abandoned = true → (∀ p : OpPhase, r ≠ .waits p) →
      (s.pnp.run = none → exec .panelSnapshot s = .next (setPanelOp none u)) ∧
      ∀ (run : PanelRun) (v : TileNo) (more : List TileNo), s.pnp.run = some run → run.todo = v :: more →
        exec .panelSnapshot s = .next (setPanelOp (some { tile := v, abandoned := false, phase := .presented }) u)) ∧
    ∀ (run : PanelRun) (rest : List TileNo) (part : RunTile) (d : DirState), o.abandoned = false →
      s.pnp.run = some run → run.todo = o.tile :: rest → dirOf o.tile s = .waiting →
      (∃ (w : Fin 8) (v : TileValues), r = .values w v ∧ part = { tile := o.tile, status := .ok, values := v }) ∧
          d = .sending ∨
        part = { tile := o.tile, status := .fault, values := Vector.replicate 32 0 } ∧
          ((∃ w : Fin 8, r = .faulty w) ∧ d = .sending ∨ (∃ worn : Bool, r = .refused worn) ∧ d = .sendingChanged) →
      (rest = [] →
        exec .panelSnapshot s =
          .next (reply run.req .ok (.run run.first run.count (run.done ++ [part]))
            ((setDir o.tile d (setPanelOp none u)).setPnp { s.pnp with run := none }))) ∧
      ∀ (v : TileNo) (more : List TileNo), rest = v :: more →
        exec .panelSnapshot s =
          .next (setPanelOp (some { tile := v, abandoned := false, phase := .presented })
            ((setDir o.tile d u).setPnp { s.pnp with run := some { run with todo := rest, done := run.done ++ [part] } }))

/-- R72, R76, R94, R98, R99: a fill read gives the values of a tile record that passes its check and names the tile,
erased for an erased home, and a failed check otherwise, at the tail of the fill FIFO. Its install makes the FILLING
entry CLEAN with a fresh code, CLEAN with zeros, or FAULTY with TILE_LOST, the faulty count raised by 1 and the tile
marked changed. In every case the operations that wait for the fill or repair of that entry, and those that wait for a
way in its set, are presented again, each at its own requester. -/
def Obligations.FillsAreReadAndInstalled : Prop :=
  (∀ (s : State) (t : TileNo) (home : TileHome), s.mfc.flash = .readingFill t home →
    ∃ r : FillResult,
      exec .fillReadComplete s =
        .next { s with tlc := { s.tlc with fills := s.tlc.fills ++ [{ tile := t, result := r }] },
                       mfc := { s.mfc with flash := .idle } } ∧
      (tileHomeContent t home s = .erased → r = .erased) ∧ (tileHomeContent t home s = .failing → r = .failed) ∧
      ∀ x : TileRecord, tileHomeContent t home s = .holds x →
        (x.tile = t → x.code = { tile := t, values := x.values } → r = .values x.values) ∧
        (x.tile ≠ t ∨ x.code ≠ { tile := t, values := x.values } → r = .failed)) ∧
  ∀ (s : State) (f : Fill) (w : Fin 8), nextGrant s = some (.fill f) → fillingWay f.tile s = some w →
    ∃ t, exec .fillInstall s = .next t ∧
      t = { s with tlc := t.tlc, mfc := { s.mfc with header := t.mfc.header }, pcd := t.pcd,
                   syp := { s.syp with flags := t.syp.flags } } ∧
      t.tlc.fills = s.tlc.fills.tail ∧ t.tlc.queue = s.tlc.queue ∧ otherWaysKept (setOf f.tile) w s t ∧
      t.tlc.drains = s.tlc.drains ∧ t.tlc.lock = s.tlc.lock ∧ t.tlc.jobWait = (grantOther s).tlc.jobWait ∧
      (∀ j : Fin 16, (t.tlc.sets[j]).tree = (s.tlc.sets[j]).tree) ∧
      operationsGoOn
        (fun u p => match p with
          | .waitFill | .waitRepair => if u = f.tile then .resumed true else p
          | .waitWay => if setOf u = setOf f.tile then .resumed false else p
          | .waitRoom | .presented | .resumed _ => p) s t ∧
      (∀ v : TileValues, f.result = .values v →
        entryAt (setOf f.tile) w t = some { tile := f.tile, state := .clean v (codeOf f.tile v) } ∧
        t.mfc = s.mfc ∧ t.pcd = s.pcd ∧ t.syp = s.syp) ∧
      (f.result = .erased →
        entryAt (setOf f.tile) w t =
          some { tile := f.tile, state := .clean (Vector.replicate 32 0) (codeOf f.tile (Vector.replicate 32 0)) } ∧
        t.mfc = s.mfc ∧ t.pcd = s.pcd ∧ t.syp = s.syp) ∧
      (f.result = .failed →
        entryAt (setOf f.tile) w t = some { tile := f.tile, state := .faulty } ∧ flagSet .tileLost t = true ∧
        t.mfc.header = { s.mfc.header with faulty := s.mfc.header.faulty + 1 } ∧
        t.pcd = (markChanged f.tile s).pcd ∧ dirOf f.tile t = changedDir (dirOf f.tile s) ∧ otherDirsKept f.tile s t)

/-- R72, R80, R82, R92: a LOCK_WAYS sets the lock count of every set and replies with the one before, and one that
lowers it presents again the operations that wait for a way; a DRAIN is withheld, its reply due at once when the queue
is empty with no program in flight, and FLASH_WORN while WORN; a due DRAIN is answered and leaves the list; a storage
fault changes values of an entry or a queued copy and leaves its code. That a DRAIN due once stays due, whatever enters
the queue before its reply, and that the oldest due one is answered first (log 18), and that a program is in flight from
its grant on, and not while it waits for the grant (log 41), are the model's choices. -/
def Obligations.LocksDrainsAndFaults : Prop :=
  ∀ s : State,
    (∀ (i : Station) (req : Request) (l : Fin 8), lineRequest .map .lockWays i req s → parseLock req.body = some l →
      ∃ u, exec (.lockWays (.station i)) s = .next (reply req .ok (.lockBefore s.tlc.lock.val) u) ∧
        u = { withoutRequest req s with
          tlc := { s.tlc with lock := l, panel := u.tlc.panel, access := u.tlc.access, job := u.tlc.job } } ∧
        operationsGoOn
          (fun _ p => match p with
            | .waitWay => if l < s.tlc.lock then .resumed false else p
            | .waitFill | .waitRepair | .waitRoom | .presented | .resumed _ => p) s u) ∧
    (∀ (m : Master) (req : Request), waitingRequest .drain m s = some req → mapOrSystem m s = true → req.body = [] →
      exec (.drain m) s =
        .next ((withoutRequest req s).setTlc { s.tlc with
          drains := s.tlc.drains ++
            [(req, if s.mfc.wear = .worn then some .flashWorn
                   else if s.tlc.queue = [] ∧ programming s = false then some .ok else none)] })) ∧
    (∀ (req : Request) (st : Status) (before after : List (Request × Option Status)),
      s.tlc.drains = before ++ (req, some st) :: after → (∀ d ∈ before, d.2 = none) →
      exec .drainReply s = .next (reply req st .empty (s.setTlc { s.tlc with drains := before ++ after }))) ∧
    ∀ changes : List (Fin 32 × Int), changes ≠ [] → (∀ c ∈ changes, -511 ≤ c.2 ∧ c.2 ≤ 511) →
      (∀ (i : Fin 16) (w : Fin 8) (t : TileNo) (v : TileValues) (c : CheckCode),
        (entryAt i w s = some { tile := t, state := .clean v c } →
          exec (.storageFault (.entry i w) changes) s =
            .next (setEntry i w (some { tile := t, state := .clean (changeValues changes v) c }) s)) ∧
        (entryAt i w s = some { tile := t, state := .dirty v c } →
          exec (.storageFault (.entry i w) changes) s =
            .next (setEntry i w (some { tile := t, state := .dirty (changeValues changes v) c }) s))) ∧
      ∀ (n : Fin 4) (before after : List TileCopy) (x : TileCopy),
        s.tlc.queue = before ++ x :: after → before.length = n.val →
        exec (.storageFault (.queued n) changes) s =
          .next (s.setTlc { s.tlc with
            queue := before ++ { x with values := changeValues changes x.values } :: after })

/-! ## The flash -/

/-- R96, R97, R99, R102, R104, R106, R112: with the flash IDLE a grant goes to the oldest tile read, else the oldest
record program, else, the wear state being NORMAL, the head copy. A fill read goes to the tile's home as the remap table
names it; a program takes the counter's sequence and the counter rises by 1; a commit's header takes the next
generation, never 0; and while the flash-committed marker is set an uncommit header is programmed in the tile's place. A
grant changes nothing but the flash controller. -/
def Obligations.FlashGrantsFollowTheClasses : Prop :=
  ∀ s : State, s.mfc.flash = .idle →
    (∀ (t : TileNo) (rest : List FlashRead), s.mfc.reads = .fill t :: rest →
      exec .flashGrant s = .next (s.setMfc { s.mfc with reads := rest, flash := .readingFill t (homeOf t s) })) ∧
    (∀ rest : List FlashRead, s.mfc.reads = .header :: rest →
      exec .flashGrant s = .next (s.setMfc { s.mfc with reads := rest, flash := .readingHeader })) ∧
    (s.mfc.reads = [] → ∀ (p : RecordProgram) (rest : List RecordProgram), s.mfc.programs = p :: rest →
      (p ≠ .header →
        exec .flashGrant s =
          .next (s.setMfc { s.mfc with programs := rest, flash := .programming (.record p) s.mfc.seq,
                                       seq := s.mfc.seq + 1 })) ∧
      (p = .header →
        ∃ h : HeaderRecord,
          exec .flashGrant s =
            .next (s.setMfc { s.mfc with programs := rest, flash := .programming (.header h) s.mfc.seq,
                                         seq := s.mfc.seq + 1 }) ∧
          h = { signed := true, generation := h.generation, passCount := s.mfc.header.passCount,
                codes := s.mfc.header.codes, committed := true,
                converged := s.mfc.header.converged && !s.mfc.header.mixed, mixed := s.mfc.header.mixed,
                seq := s.mfc.seq } ∧
          h.generation ≠ 0 ∧
          h.generation.toNat =
            if s.mfc.header.generation.toNat = 65535 then 1 else s.mfc.header.generation.toNat + 1)) ∧
    (s.mfc.reads = [] → s.mfc.programs = [] → s.mfc.wear = .normal →
      ∀ (c : TileCopy) (rest : List TileCopy), s.tlc.queue = c :: rest →
      (s.mfc.marker = false →
        exec .flashGrant s =
          .next (s.setMfc { s.mfc with flash := .programming (.tile c (homeOf c.tile s)) s.mfc.seq,
                                       seq := s.mfc.seq + 1 })) ∧
      (s.mfc.marker = true →
        exec .flashGrant s =
          .next (s.setMfc { s.mfc with
            flash := .programming (.uncommit
              { signed := true, generation := s.mfc.header.generation, passCount := s.mfc.header.passCount,
                codes := s.mfc.header.codes, committed := false, converged := false, mixed := true,
                seq := s.mfc.seq }) s.mfc.seq,
            seq := s.mfc.seq + 1 })))

/-- R72, R87, R92, R101 to R103, R111, R112: a tile program that verifies leaves the tile's record in its home and takes
the head out of the queue; the operations that wait for a way or for queue room are presented again, and with the queue
then empty every withheld DRAIN is due and a commit's drain finds its moment, whatever programs wait for their grant,
which is the model's choice (log 41). One that fails leaves the home failing its check, and goes on at the
lowest-numbered UNUSED spare, which becomes MAPPED for the tile while the spare it leaves becomes DEAD; the queue keeps
the copy. That the repeat carries the copy of the first grant, whatever the queue's head holds now, is the model's
choice (log 37). With no UNUSED spare the flash enters WORN: the remap table and the queue stay, the flash is IDLE,
FLASH_WORN is raised, every withheld DRAIN without a due reply is due FLASH_WORN (one that is due keeps its status, log
18), the PANEL, ACCESS and JOB operations that wait for a way or for queue room are presented again, and a running
commit ends FAILED with FLASH_WORN and its result; no header is programmed, and one that is presented is taken back,
which is the model's reading (log 42). A running commit counts each tile program that verifies and each spare taken. -/
def Obligations.TileProgramsComplete : Prop :=
  ∀ (s : State) (c : TileCopy) (home : TileHome) (q : BitVec 32), s.mfc.flash = .programming (.tile c home) q →
    let queueWaitsEnd (_ : TileNo) (p : OpPhase) : OpPhase :=
      match p with
      | .waitWay | .waitRoom => .resumed false
      | .waitFill | .waitRepair | .presented | .resumed _ => p
    (∃ t, exec (.tileProgramComplete true) s = .next t ∧
      t = { s with jobs := { s.jobs with running := t.jobs.running },
                   tlc := { s.tlc with queue := s.tlc.queue.tail, panel := t.tlc.panel, access := t.tlc.access,
                                       job := t.tlc.job, drains := t.tlc.drains },
                   mfc := { s.mfc with flash := .idle }, homes := t.homes } ∧
      operationsGoOn queueWaitsEnd s t ∧
      t.tlc.drains =
        (if s.tlc.queue.tail = [] then s.tlc.drains.map fun d => (d.1, some (d.2.getD .ok)) else s.tlc.drains) ∧
      commitGoesOn
        (fun w =>
          let counted : CommitWork := { w with programmed := w.programmed + 1 }
          if s.tlc.queue.tail = [] then momentFound counted else counted) s t ∧
      t.homes = (setTileHome c.tile home
        (.holds { tile := c.tile, seq := q, values := c.values, code := c.code }) s).homes) ∧
    (∀ k : Fin 24, s.mfc.spares[k] = .unused → (∀ j : Fin 24, j < k → s.mfc.spares[j] ≠ .unused) →
      ∃ t, exec (.tileProgramComplete false) s = .next t ∧
        t = { s with jobs := { s.jobs with running := t.jobs.running },
                     mfc := { s.mfc with spares := t.mfc.spares, flash := .programming (.tile c (.spare k)) s.mfc.seq,
                                         seq := s.mfc.seq + 1 },
                     homes := (setTileHome c.tile home .failing s).homes } ∧
        commitGoesOn (fun w => { w with sparesUsed := w.sparesUsed + 1 }) s t ∧ t.mfc.spares[k] = .mapped c.tile ∧
        (∀ j : Fin 24, home = .spare j → j ≠ k → t.mfc.spares[j] = .dead) ∧
        ∀ j : Fin 24, j ≠ k → home ≠ .spare j → t.mfc.spares[j] = s.mfc.spares[j]) ∧
    ((∀ k : Fin 24, s.mfc.spares[k] ≠ .unused) →
      ∃ t, exec (.tileProgramComplete false) s = .next t ∧
        t = { s with jobs := t.jobs,
                     tlc := { s.tlc with panel := t.tlc.panel, access := t.tlc.access, job := t.tlc.job,
                                         jobWait := t.tlc.jobWait, drains := t.tlc.drains },
                     mfc := { s.mfc with header := t.mfc.header, flash := .idle, wear := .worn,
                                         programs := t.mfc.programs },
                     homes := (setTileHome c.tile home .failing s).homes, syp := { s.syp with flags := t.syp.flags } } ∧
        flagSet .flashWorn t = true ∧ t.tlc.drains = s.tlc.drains.map (fun d => (d.1, some (d.2.getD .flashWorn))) ∧
        (∀ (b : Fin 16) (x : Box) (w : CommitWork), s.jobs.running = some { box := b, work := .commit w } →
          boxAt b s = some x →
          t.jobs.running = none ∧ t.tlc.job = none ∧ t.mfc.header = { s.mfc.header with committed := false } ∧
          t.mfc.programs = (s.mfc.programs.filter fun p => p ≠ .header) ∧
          otherBoxesKept b s t ∧ t.jobs.seq = s.jobs.seq ∧ flagSet .jobEnded t = true ∧
          t.tlc.panel = s.tlc.panel.map (fun o => { o with phase := queueWaitsEnd o.tile o.phase }) ∧
          t.tlc.access = s.tlc.access.map (fun o => { o with phase := queueWaitsEnd o.tile o.phase }) ∧
          ∃ (y : Box) (r : CommitResult), boxAt b t = some y ∧
            y = { x with state := .failed .flashWorn, result := some (.commit r), newResult := true, hold := none } ∧
            r = { generation := s.mfc.header.generation, placed := x.progress, programmed := w.programmed,
                  sparesUsed := w.sparesUsed, sparesLeft := 0, previous := w.previous, converged := none }) ∧
        ((∀ (b : Fin 16) (w : CommitWork), s.jobs.running ≠ some { box := b, work := .commit w }) →
          t.jobs = s.jobs ∧ t.mfc.header = s.mfc.header ∧ t.mfc.programs = s.mfc.programs ∧ operationsGoOn queueWaitsEnd s t))

/-- R92, R97, R98, R104, R109, R111: an uncommit program leaves its header in the header home, or a record that fails
its check, clears the marker either way, and leaves the working header; like the end of every flash program, its end
makes each withheld DRAIN due and lets a commit's drain find its moment when the queue is empty, and else leaves them,
and it changes nothing beside (that a program waiting for its grant does not count, and that a DRAIN keeps the status
that first fell due, are the model's choices, log 41 and log 18); a record program is presented behind those that wait;
a header check read is recorded by the commit that waits for it as ERASED, LOST or INTACT, and its sweep begins with
tile 0. -/
def Obligations.UncommitsAndHeaderChecksComplete : Prop :=
  ∀ s : State,
    (∀ (h : HeaderRecord) (q : BitVec 32) (verified : Bool), s.mfc.flash = .programming (.uncommit h) q →
      ∃ t, exec (.uncommitProgramComplete verified) s = .next t ∧
        t = { s with jobs := { s.jobs with running := t.jobs.running }, tlc := { s.tlc with drains := t.tlc.drains },
                     mfc := { s.mfc with flash := .idle, marker := false },
                     homes := { s.homes with header := if verified then .holds h else .failing } } ∧
        drainsTested s t) ∧
    (∀ p : RecordProgram, presentProgram p s = s.setMfc { s.mfc with programs := s.mfc.programs ++ [p] }) ∧
    (∀ t : State, t = programDone s →
      t = { s with jobs := { s.jobs with running := t.jobs.running }, tlc := { s.tlc with drains := t.tlc.drains },
                   mfc := { s.mfc with flash := .idle } } ∧
      drainsTested s t) ∧
    ∀ (b : Fin 16) (w : CommitWork), s.mfc.flash = .readingHeader →
      s.jobs.running = some { box := b, work := .commit w } → w.phase = .headerRead →
      ∃ p : PrevHeader,
        exec .headerCheckReadComplete s =
          .next { s with
            jobs := { s.jobs with running := some { box := b, work := .commit { w with phase := .sweep 0, previous := some p } } },
            tlc := { s.tlc with job := some .presented, jobWait := 0 }, mfc := { s.mfc with flash := .idle } } ∧
        (s.homes.header = .erased → p = .erased) ∧ (s.homes.header = .failing → p = .lost) ∧
        ∀ h : HeaderRecord, s.homes.header = .holds h → p = if h.signed then .intact else .lost

/-- R52, R105, R111, R112: a commit whose drain has found its moment ends FAILED with TILE_FAULT when a tile is FAULTY,
and else presents its header program. When that verifies, the header stands in its home, the working header takes its
generation and committed is set, the marker is set and the box ends DONE; when it fails, the home fails its check,
marker and committed are cleared, the generation stays, and the box ends FAILED with HEADER_FAULT. In each case the
result gives the generation, the tiles placed, the tile programs verified and the spares taken while the commit ran, the
number of UNUSED spares, the previous header and the converged flag, and the header program's end tests the withheld
DRAINs. That the moment, once found, holds whatever enters the queue before the step (log 19), and that the result of a
commit that ends so still gives the converged flag of the header it programmed (log 34), and that the test of the DRAINs
leaves programs that wait for their grant out of account (log 41) and keeps a status once due (log 18), are the model's
choices. -/
def Obligations.CommitsEnd : Prop :=
  ∀ (s : State) (b : Fin 16) (x : Box) (w : CommitWork), s.jobs.running = some { box := b, work := .commit w } →
    boxAt b s = some x →
    (w.phase = .drain true → s.mfc.header.faulty = 0 →
      exec .commitDrainDone s =
        .next { s with
          jobs := { s.jobs with running := some { box := b, work := .commit { w with phase := .header } } },
          mfc := { s.mfc with programs := s.mfc.programs ++ [.header] } }) ∧
    (w.phase = .drain true → s.mfc.header.faulty ≠ 0 →
      ∃ (t : State) (y : Box) (r : CommitResult), exec .commitDrainDone s = .next t ∧
        t = { raise .jobEnded s with
          jobs := { s.jobs with boxes := s.jobs.boxes.set b (some y), running := none },
          tlc := { s.tlc with job := none, jobWait := 0 },
          mfc := { s.mfc with header := { s.mfc.header with committed := false } } } ∧
        y = { x with state := .failed .tileFault, result := some (.commit r), newResult := true, hold := none } ∧
        r = { generation := s.mfc.header.generation, placed := x.progress, programmed := w.programmed,
              sparesUsed := w.sparesUsed, sparesLeft := sparesUnused s, previous := w.previous, converged := none }) ∧
    ∀ (h : HeaderRecord) (q : BitVec 32) (verified : Bool), s.mfc.flash = .programming (.header h) q →
      ∃ (t : State) (y : Box) (r : CommitResult), exec (.commitHeaderComplete verified) s = .next t ∧
        t = { raise .jobEnded s with
          jobs := { s.jobs with boxes := s.jobs.boxes.set b (some y), running := none },
          tlc := { s.tlc with
            job := none, jobWait := 0,
            drains := if s.tlc.queue = [] then s.tlc.drains.map fun d => (d.1, some (d.2.getD .ok)) else s.tlc.drains },
          mfc := { s.mfc with
            flash := .idle, marker := verified,
            header := { s.mfc.header with
              generation := if verified then h.generation else s.mfc.header.generation, committed := verified } },
          homes := { s.homes with header := if verified then .holds h else .failing } } ∧
        y = { x with state := if verified then .done else .failed .headerFault, result := some (.commit r),
                     newResult := true, hold := none } ∧
        r = { generation := if verified then h.generation else s.mfc.header.generation, placed := x.progress,
              programmed := w.programmed, sparesUsed := w.sparesUsed, sparesLeft := sparesUnused s,
              previous := w.previous, converged := some h.converged }

/-! ## The panel side -/

/-- R124 to R126, R134: a FETCH_RUN with a tile number above 503 or a count of 0 is answered BAD_ARG and changes
nothing; a count above 6 is taken as 6, and the run is that many tiles from the tile carried on, wrapping within its row
group, no tile twice. Every tile of the run becomes WAITING and leaves the notice queue, and the snapshot of the first
is presented unless an operation of an abandoned run is still at the tile cache. That the body carries tile number and
count as fields 1 and 2 is the model's choice (log 10). -/
def Obligations.RunsStayInTheirRowGroup : Prop :=
  ∀ (s : State) (req : Request) (t n : Nat), waitingRequest .fetchRun .panel s = some req → t < 65536 → n < 256 →
    req.body = fieldBytes [(1, bytesOfNat 2 t), (2, bytesOfNat 1 n)] →
    (503 < t ∨ n = 0 → exec (.fetchRun .panel) s = .next (refuse req .badArg (withoutRequest req s))) ∧
    (t ≤ 503 → n ≠ 0 →
      ∃ (u : State) (r : PanelRun), exec (.fetchRun .panel) s = .next u ∧
        u = { withoutRequest req s with tlc := { s.tlc with panel := u.tlc.panel }, pcd := u.pcd,
                                        pnp := { s.pnp with run := some r } } ∧
        r.req = req ∧ r.first.val = t ∧ r.count = min n 6 ∧ r.done = [] ∧ r.todo.length = min n 6 ∧ r.todo.Nodup ∧
        (∀ k : Nat, k < min n 6 → (r.todo.map (·.val))[k]? = some (t - t % 6 + (t % 6 + k) % 6)) ∧
        (∀ x : TileNo, dirOf x u = if x ∈ r.todo then .waiting else dirOf x s) ∧
        u.pcd.notices = (s.pcd.notices.filter fun x => !r.todo.contains x) ∧ u.pcd.overflow = s.pcd.overflow ∧
        u.pcd.scan = s.pcd.scan ∧
        (s.tlc.panel = none → ∃ x rest, r.todo = x :: rest ∧
          u.tlc.panel = some { tile := x, abandoned := false, phase := .presented }) ∧
        (∀ o : PanelOp, s.tlc.panel = some o → u.tlc.panel = some o))

/-- R131: NEXT_STALE gives the lowest-numbered STALE tile at or after the pointer, or else the lowest-numbered one; the
pointer moves past it, and the overflow flag and the notice queue stay. When no entry is STALE the answer is NONE, the
overflow flag is cleared and the pointer stays. The reply holds the overflow flag as it stands after. -/
def Obligations.NextStaleScansTheDirectory : Prop :=
  ∀ (s : State) (req : Request), waitingRequest .nextStale .panel s = some req → req.body = [] →
    (∀ t : TileNo, dirOf t s = .stale →
      (s.pcd.scan ≤ t ∧ (∀ u : TileNo, s.pcd.scan ≤ u → u < t → dirOf u s ≠ .stale) ∨
        t < s.pcd.scan ∧ (∀ u : TileNo, s.pcd.scan ≤ u → dirOf u s ≠ .stale) ∧ (∀ u : TileNo, u < t → dirOf u s ≠ .stale)) →
      ∃ p : TileNo, p.val = (if t.val = 503 then 0 else t.val + 1) ∧
        exec (.nextStale .panel) s =
          .next (reply req .ok (.stale (some t) s.pcd.overflow)
            ((withoutRequest req s).setPcd { s.pcd with scan := p }))) ∧
    ((∀ t : TileNo, dirOf t s ≠ .stale) →
      exec (.nextStale .panel) s =
        .next (reply req .ok (.stale none false) ((withoutRequest req s).setPcd { s.pcd with overflow := false })))

/-- R121 to R123, R130, R132, R133: a change of a CURRENT tile makes it STALE and appends it to the notice queue; with
32 tile numbers queued it empties the queue, sets the overflow flag and raises NOTICE_OVERFLOW; while the flag is set
nothing is appended. A change of a SENDING tile makes it SENDING_CHANGED, and one of any other tile changes nothing
here. READ_NOTICES takes up to 8 tile numbers from the head of the queue and gives the count left, or gives RESYNC and
leaves everything while the overflow flag is set. PANEL_HELLO abandons the run, empties the slot, the directory, the
notices, the flag and the pointer, and replies OK with the profile; the cache keeps every entry, and an operation of the
abandoned run is marked so. That a PANEL_HELLO can wait at its block beside the port's own step (log 5), and that
requests of PANEL not yet served are dropped with it (log 26), are the model's choices. -/
def Obligations.NoticesAreKeptAndHelloResetsThePanel : Prop :=
  (∀ (s : State) (t : TileNo), dirOf t s = .current → t ∉ s.pcd.notices →
    (s.pcd.overflow = false → s.pcd.notices.length < 32 →
      markChanged t s = s.setPcd { s.pcd with dir := s.pcd.dir.set t .stale, notices := s.pcd.notices ++ [t] }) ∧
    (s.pcd.overflow = false → 32 ≤ s.pcd.notices.length →
      markChanged t s =
        { raise .noticeOverflow s with
          pcd := { s.pcd with dir := s.pcd.dir.set t .stale, notices := [], overflow := true } }) ∧
    (s.pcd.overflow = true → markChanged t s = s.setPcd { s.pcd with dir := s.pcd.dir.set t .stale })) ∧
  (∀ (s : State) (t : TileNo),
    (dirOf t s = .sending → markChanged t s = s.setPcd { s.pcd with dir := s.pcd.dir.set t .sendingChanged }) ∧
    (dirOf t s ≠ .current → dirOf t s ≠ .sending → markChanged t s = s)) ∧
  ∀ (s : State) (req : Request), req.body = [] →
    (waitingRequest .readNotices .panel s = some req →
      (s.pcd.overflow = false →
        exec (.readNotices .panel) s =
          .next (reply req .ok (.notices (s.pcd.notices.take 8) (s.pcd.notices.length - 8))
            ((withoutRequest req s).setPcd { s.pcd with notices := s.pcd.notices.drop 8 }))) ∧
      (s.pcd.overflow = true → exec (.readNotices .panel) s = .next (reply req .ok .resync (withoutRequest req s)))) ∧
    (waitingRequest .panelHello .panel s = some req →
      exec (.panelHello .panel) s =
        .next { s with
          pcd := Pcd.reset,
          tlc := { s.tlc with panel := s.tlc.panel.map fun o => { o with abandoned := true } },
          inbox := (s.inbox.erase req).filter fun r => r.master != .panel,
          pnp := { pending := none, run := none, out := s.pnp.out,
                   slot := some
                     { kind := kindCode .panelHello, tag := req.tag, status := .ok,
                       body := .profile
                         { codes := s.mfc.header.codes, generation := s.mfc.header.generation,
                           passCount := s.mfc.header.passCount, committed := s.mfc.header.committed,
                           converged := s.mfc.header.converged, mixed := s.mfc.header.mixed,
                           faulty := s.mfc.header.faulty } } } })

/-! ## Keys -/

/-- R136 to R142, R165: a LOAD_KEY into an EMPTY slot, or one LOADED by the same station, leaves the slot LOADED with
the material and its check value. A FIX_KEY of the loader presents the key record program and sets program pending;
verified it makes the slot FIXED, failed it leaves it LOADED with home fault set and answers FLASH_FAULT. An ERASE_KEY
empties a LOADED slot of its loader at once, and in REWORK presents the erase of a FIXED one; its completion empties the
slot. A RELEASE_KEY of SYSTEM in CLOSED gives the material of a FIXED slot of class IDENTITY or CONTENT and changes
nothing. -/
def Obligations.KeysAreLoadedFixedErasedAndReleased : Prop :=
  ∀ (s : State) (k : Fin 12) (key : Key),
    (∀ (i : Station) (req : Request), (slotAt k s).pending = false →
      (∀ (cls : KeyClass) (material : List Byte), lineRequest .keys .loadKey i req s → parseLoadSlot req.body = some k →
        parseKey req.body = some (cls, material) →
        (slotAt k s).state = .empty ∨ (slotAt k s).state = .loaded key ∧ key.loader = i →
        exec (.loadKey (.station i)) s =
          .next (reply req .ok (.keyLoaded k cls material.length (crc32 material))
            (setSlot k { state := .loaded { cls := cls, material := material, check := crc32 material, loader := i },
                         pending := false, homeFault := (slotAt k s).homeFault } (withoutRequest req s)))) ∧
      (lineRequest .keys .fixKey i req s → parseSlotOnly req.body = some k → (slotAt k s).state = .loaded key →
        key.loader = i →
        exec (.fixKey (.station i)) s =
          .next (presentProgram (.keyFix req k key)
            (setSlot k { slotAt k s with pending := true } (withoutRequest req s)))) ∧
      (lineRequest .keys .eraseKey i req s → parseSlotOnly req.body = some k →
        ((slotAt k s).state = .loaded key → key.loader = i →
          exec (.eraseKey (.station i)) s =
            .next (reply req .ok .empty (setSlot k { slotAt k s with state := .empty } (withoutRequest req s)))) ∧
        ((slotAt k s).state = .fixed key → s.srb.stage.stage = .rework →
          exec (.eraseKey (.station i)) s =
            .next (presentProgram (.keyErase req k)
              (setSlot k { slotAt k s with pending := true } (withoutRequest req s)))))) ∧
    (∀ (req : Request) (q : BitVec 32) (verified : Bool),
      (s.mfc.flash = .programming (.record (.keyFix req k key)) q →
        ∃ t, exec (.keyFixComplete verified) s =
            .next (programDone (reply req (if verified then .ok else .flashFault)
              (if verified then .keyFixed k key.check else .empty) t)) ∧
          t = setSlot k { state := if verified then .fixed key else (slotAt k s).state, pending := false,
                          homeFault := !verified }
            (s.setHomes { s.homes with
              key := s.homes.key.set k (if verified then .holds { slot := k.val, key := some key, seq := q } else .failing) })) ∧
      (s.mfc.flash = .programming (.record (.keyErase req k)) q →
        ∃ t, exec (.keyEraseComplete verified) s =
            .next (programDone (reply req (if verified then .ok else .flashFault) .empty t)) ∧
          t = setSlot k { state := .empty, pending := false, homeFault := !verified }
            (s.setHomes { s.homes with
              key := s.homes.key.set k (if verified then .holds { slot := k.val, key := none, seq := q } else .failing) }))) ∧
    ∀ req : Request, waitingRequest .releaseKey .system s = some req → parseSlotOnly req.body = some k →
      s.srb.stage.stage = .closed → s.srb.stage.program ≠ .reopening →
      (slotAt k s).state = .fixed key → key.cls = .identity ∨ key.cls = .content →
      exec (.releaseKey .system) s =
        .next (reply req .ok (.keyReleased k key.cls key.material.length key.check key.material) (withoutRequest req s))

/-! ## The region and label records -/

/-- R146 to R151: a read with reserve gives the record and sets the requester's reservation to its version. A write that
carries a whole record, whose reservation names the record at its version, presents the record program and sets program
pending; one whose reservation does not match is answered RESERVATION_LOST and loses its entry. A verified program
replaces the content, raises the version by 1 and clears every reservation of the record; a failed one leaves content,
version and committed, sets home fault and clears the writer's entry. -/
def Obligations.RecordsAreReadAndWritten : Prop :=
  ∀ (s : State) (m : Master) (req : Request),
    (∀ flag : Bool, parseReserve req.body = some flag →
      (waitingRequest .readRegion m s = some req →
        exec (.readRegion m) s =
          .next (reply req .ok (.region s.srb.region)
            (if flag then setReservation m (some (.region, s.srb.region.version)) (withoutRequest req s)
             else withoutRequest req s))) ∧
      (waitingRequest .readLabel m s = some req →
        exec (.readLabel m) s =
          .next (reply req .ok (.label s.srb.label)
            (if flag then setReservation m (some (.label, s.srb.label.version)) (withoutRequest req s)
             else withoutRequest req s)))) ∧
    (∀ c : RegionFields, waitingRequest .writeRegion m s = some req → recordsOrSystem m s = true →
      m = .system ∨ stageAdmits lineStage s = true → parseRegion req.body = some c →
      (reservationOf m s = some (.region, s.srb.region.version) → s.srb.region.pending = false →
        exec (.writeRegion m) s =
          .next (presentProgram (.region req c (s.srb.region.version + 1))
            (setRegion { s.srb.region with pending := true } (withoutRequest req s)))) ∧
      (reservationOf m s ≠ some (.region, s.srb.region.version) →
        exec (.writeRegion m) s =
          .next (refuse req .reservationLost (setReservation m none (withoutRequest req s))))) ∧
    (∀ c : LabelFields, waitingRequest .writeLabel m s = some req → recordsOrSystem m s = true →
      stageAdmits lineStage s = true → parseLabel req.body = some c →
      (reservationOf m s = some (.label, s.srb.label.version) → s.srb.label.pending = false →
        exec (.writeLabel m) s =
          .next (presentProgram (.label req c (s.srb.label.version + 1))
            (setLabel { s.srb.label with pending := true } (withoutRequest req s)))) ∧
      (reservationOf m s ≠ some (.label, s.srb.label.version) →
        exec (.writeLabel m) s =
          .next (refuse req .reservationLost (setReservation m none (withoutRequest req s))))) ∧
    (∀ (c : RegionFields) (v : BitVec 16) (q : BitVec 32), s.mfc.flash = .programming (.record (.region req c v)) q →
      (∃ t, exec (.recordWriteComplete true) s =
          .next (programDone (reply req .ok (.version (s.srb.region.version + 1)) t)) ∧
        t = { s with homes := { s.homes with region := .holds { content := c, version := v, seq := q } },
                     srb := { s.srb with
                       region := { content := some c, version := s.srb.region.version + 1, committed := true,
                                   pending := false, homeFault := false },
                       reserve := t.srb.reserve } } ∧
        ∀ i : Fin 5, t.srb.reserve[i] = if namesTarget .region s.srb.reserve[i] then none else s.srb.reserve[i]) ∧
      exec (.recordWriteComplete false) s =
        .next (programDone (refuse req .flashFault (setReservation req.master none
          { s with homes := { s.homes with region := .failing },
                   srb := { s.srb with region := { s.srb.region with pending := false, homeFault := true } } })))) ∧
    ∀ (c : LabelFields) (v : BitVec 16) (q : BitVec 32), s.mfc.flash = .programming (.record (.label req c v)) q →
      (∃ t, exec (.recordWriteComplete true) s =
          .next (programDone (reply req .ok (.version (s.srb.label.version + 1)) t)) ∧
        t = { s with homes := { s.homes with label := .holds { content := c, version := v, seq := q } },
                     srb := { s.srb with
                       label := { content := some c, version := s.srb.label.version + 1, committed := true,
                                  pending := false, homeFault := false },
                       reserve := t.srb.reserve } } ∧
        ∀ i : Fin 5, t.srb.reserve[i] = if namesTarget .label s.srb.reserve[i] then none else s.srb.reserve[i]) ∧
      exec (.recordWriteComplete false) s =
        .next (programDone (refuse req .flashFault (setReservation req.master none
          { s with homes := { s.homes with label := .failing },
                   srb := { s.srb with label := { s.srb.label with pending := false, homeFault := true } } })))

/-! ## The commissioning stage -/

/-- R159, R160, R163: a CLOSE_SET of a STAGE station in OPEN or REWORK, with no stage program, no job RUNNING, no
WRITE_TILE taken and no item missing, presents the close and becomes CLOSING, the live stage and counts staying; a
missing item makes it NOT_READY. A REOPEN_SET in CLOSED below the limit presents the reopen and becomes REOPENING. A
verified program changes the stage and its count and raises STAGE_CHANGED; a failed one leaves them, sets the home fault
and answers FLASH_FAULT. -/
def Obligations.SetsAreClosedAndReopened : Prop :=
  ∀ (s : State) (req : Request),
    (∀ i : Station, s.config.roles[i].stage = true → req.body = [] → s.srb.stage.program = .none →
      (waitingRequest .closeSet (.station i) s = some req →
        s.srb.stage.stage ≠ .closed → s.jobs.running = none → writeTaken (withoutRequest req s) = false →
        (missingItems s = [] →
          exec (.closeSet (.station i)) s =
            .next (presentProgram (.close req (min (s.srb.stage.closeCount + 1) 255) s.srb.stage.reopenCount)
              (setStage { s.srb.stage with program := .closing } (withoutRequest req s)))) ∧
        (missingItems s ≠ [] →
          exec (.closeSet (.station i)) s =
            .next (reply req .notReady (.missing (missingItems s)) (withoutRequest req s)))) ∧
      (waitingRequest .reopenSet (.station i) s = some req → s.srb.stage.stage = .closed →
        (s.srb.stage.reopenCount < s.config.reopenLimit →
          exec (.reopenSet (.station i)) s =
            .next (presentProgram (.reopen req s.srb.stage.closeCount (s.srb.stage.reopenCount + 1))
              (setStage { s.srb.stage with program := .reopening } (withoutRequest req s)))) ∧
        (s.config.reopenLimit ≤ s.srb.stage.reopenCount →
          exec (.reopenSet (.station i)) s = .next (refuse req .refusedLimit (withoutRequest req s))))) ∧
    ∀ (c r : Nat) (q : BitVec 32),
      (s.mfc.flash = .programming (.record (.close req c r)) q →
        exec (.closeProgramComplete true) s =
          .next (programDone (reply req .ok (.stageCounts c s.srb.stage.reopenCount) (raise .stageChanged
            (setStage { stage := .closed, closeCount := c, reopenCount := s.srb.stage.reopenCount, program := .none,
                        homeFault := false, demoted := false }
              (setStageHome (.holds { stage := .closed, closeCount := c, reopenCount := r, seq := q }) s))))) ∧
        exec (.closeProgramComplete false) s =
          .next (programDone (refuse req .flashFault
            (setStage { s.srb.stage with program := .none, homeFault := true } (setStageHome .failing s))))) ∧
      (s.mfc.flash = .programming (.record (.reopen req c r)) q →
        exec (.reopenProgramComplete true) s =
          .next (programDone (reply req .ok (.stageCounts s.srb.stage.closeCount r) (raise .stageChanged
            (setStage { s.srb.stage with stage := .rework, reopenCount := r, program := .none, homeFault := false }
              (setStageHome (.holds { stage := .rework, closeCount := c, reopenCount := r, seq := q }) s))))) ∧
        exec (.reopenProgramComplete false) s =
          .next (programDone (refuse req .flashFault
            (setStage { s.srb.stage with program := .none, homeFault := true } (setStageHome .failing s)))))

/-! ## The system side -/

/-- R178, R184, R185, R187, R189: raising an event sets its flag and changes nothing else; a LINK_RESUME brings the
counter to 0 and the link to NORMAL and replies with what they were, raising LINK_RELEASED from SILENT; an ACK_EVENTS
clears the named flags alone; a SET_EVENT_MASK replaces the mask alone; a CLEAR_COUNTERS clears the counters and wrap
flags that it names, and no other; a WRITE_CONFIG in OPEN makes its configuration live at once and presents the config
program, whose completion stores it or leaves the home failing its check. -/
def Obligations.TheSystemSideIsServed : Prop :=
  ∀ (s : State) (req : Request),
    (∀ e : Event,
      raise e s = { s with syp := { s.syp with flags := (raise e s).syp.flags } } ∧
      ∀ f : Event, flagSet f (raise e s) = true ↔ flagSet f s = true ∨ f = e) ∧
    (waitingRequest .linkResume .system s = some req → req.body = [] →
      exec (.linkResume .system) s =
        .next (reply req .ok (.link s.fxl.link s.fxl.lec)
          { (if s.fxl.link = .silent then raise .linkReleased (withoutRequest req s) else withoutRequest req s) with
            fxl := { s.fxl with lec := 0, link := .normal, release := 0 } })) ∧
    (∀ bits : BitVec 13, parseEventBits req.body = some bits →
      (waitingRequest .ackEvents .system s = some req →
        exec (.ackEvents .system) s =
          .next (reply req .ok (.flags (s.syp.flags &&& ~~~bits) s.syp.mask)
            ((withoutRequest req s).setSyp { s.syp with flags := s.syp.flags &&& ~~~bits }))) ∧
      (waitingRequest .setEventMask .system s = some req →
        exec (.setEventMask .system) s =
          .next (reply req .ok (.flags s.syp.flags bits) ((withoutRequest req s).setSyp { s.syp with mask := bits })))) ∧
    (∀ sel : CounterSelect, waitingRequest .clearCounters .system s = some req → parseSelect req.body = some sel →
      ∃ c : Mct, exec (.clearCounters .system) s = .next (reply req .ok .empty ((withoutRequest req s).setMct c)) ∧
        ∀ i : Fin 24,
          let named : Prop := match sel with
            | .master m => i.val / 4 = m.val
            | .counter j => i = j
          (named → c.counter[i] = 0 ∧ c.wrap[i] = false) ∧
          (¬named → c.counter[i] = s.mct.counter[i] ∧ c.wrap[i] = s.mct.wrap[i])) ∧
    (∀ c : Machine.Config, waitingRequest .writeConfig .system s = some req → s.srb.stage.stage = .opened →
      s.srb.stage.program = .none → parseConfig req.body = some c →
      exec (.writeConfig .system) s =
        .next { withoutRequest req s with config := c,
                                          mfc := { s.mfc with programs := s.mfc.programs ++ [.config req c] } }) ∧
    ∀ (c : Machine.Config) (q : BitVec 32), s.mfc.flash = .programming (.record (.config req c)) q →
      exec (.configProgramComplete true) s =
        .next (programDone (reply req .ok (.config s.config)
          (s.setHomes { s.homes with config := .holds { signed := true, config := c, seq := q } }))) ∧
      exec (.configProgramComplete false) s =
        .next (programDone (refuse req .flashFault (s.setHomes { s.homes with config := .failing })))

/-! ## Refusals -/

/-- The catalogue's masters, R48, R89, R90, R92, R119, R137, R140, R142, R148, R159, R161, R163, R165, R171: a request
of a master whom the catalogue does not admit, or whose station lacks the role, is answered REFUSED_ORIGIN by its owning
block and changes nothing else; one that the stage, or the stage being programmed, does not admit is answered
REFUSED_STAGE, and so is the ERASE_KEY of a FIXED slot outside REWORK. That a request whose body is malformed is refused
so too, before its body is judged, is the model's choice where the rule does not order it (log 11). -/
def Obligations.RequestsAreRefusedByOriginAndStage : Prop :=
  ∀ (s : State) (k : Kind) (m : Master) (req : Request), waitingRequest k m s = some req →
    (mayAsk k m s = false → exec (commandOf k m) s = .next (refuse req .refusedOrigin (withoutRequest req s))) ∧
    (mayAsk k m s = true → stageOpenTo k m s = false → (k = .releaseKey → (parseSlotOnly req.body).isSome = true) →
      exec (commandOf k m) s = .next (refuse req .refusedStage (withoutRequest req s))) ∧
    ∀ (i : Station) (slot : Fin 12) (key : Key), m = .station i → k = .eraseKey → lineRequest .keys .eraseKey i req s →
      parseSlotOnly req.body = some slot → (slotAt slot s).state = .fixed key → (slotAt slot s).pending = false →
      s.srb.stage.stage ≠ .rework →
      exec (.eraseKey (.station i)) s = .next (refuse req .refusedStage (withoutRequest req s))

/-- R32, R36, R40, R48, R50, R54 to R56, R58, R60, R137 to R140, R142, R148, R159, R163: a request that its origin, role
and stage admit is refused by the state of the object it names: by the capture BUSY in LOCKED, and REFUSED_STATE for a
row in CONSUMED; by the job table NO_BOX, REFUSED_ORIGIN for a box not the requester's own, HOLD_LOST, BUSY and
REFUSED_STATE; by a key slot BUSY while its program is pending, REFUSED_STATE, and REFUSED_ORIGIN for another station's
key; by a record BUSY while its program is pending; by the stage BUSY while a stage program is in flight, and by the map
BUSY while a job is RUNNING or a WRITE_TILE is taken. The refusal changes nothing else, and its body is empty, a BUSY's
with the rest, which is the model's choice (log 25). That a WRITE_TILE counts as taken from its port's step on, while it
still waits for its check, is the model's choice (log 24). -/
def Obligations.ObjectsRefuseByTheirState : Prop :=
  (∀ (s : State) (i : Station) (req : Request),
    (lineRequest .capture .openCapture i req s → s.cap.state = .locked →
      exec (.openCapture (.station i)) s = .next (refuse req .busy (withoutRequest req s))) ∧
    (lineRequest .capture .putRow i req s → s.cap.owner = some i →
      (s.cap.state = .locked → exec (.putRow (.station i)) s = .next (refuse req .busy (withoutRequest req s))) ∧
      (s.cap.state = .consumed →
        exec (.putRow (.station i)) s = .next (refuse req .refusedState (withoutRequest req s)))) ∧
    (lineRequest .capture .discardCapture i req s → s.cap.owner = some i → s.cap.state = .locked →
      exec (.discardCapture (.station i)) s = .next (refuse req .busy (withoutRequest req s))) ∧
    (lineRequest .map .submitJob i req s → (parseSubmit req.body).isSome = true →
      4 ≤ ownedBoxes i s ∨ (∀ b : Fin 16, (boxAt b s).isSome = true) →
      exec (.submitJob (.station i)) s = .next (refuse req .noBox (withoutRequest req s))) ∧
    (∀ b : Fin 16, parseBoxOnly req.body = some b →
      (boxAt b s = none ∨ (∃ x : Box, boxAt b s = some x ∧ x.owner ≠ i) →
        (lineRequest .map .holdBox i req s →
          exec (.holdBox (.station i)) s = .next (refuse req .refusedOrigin (withoutRequest req s))) ∧
        (lineRequest .map .cancelJob i req s →
          exec (.cancelJob (.station i)) s = .next (refuse req .refusedOrigin (withoutRequest req s))) ∧
        (lineRequest .map .freeBox i req s →
          exec (.freeBox (.station i)) s = .next (refuse req .refusedOrigin (withoutRequest req s)))) ∧
      (∀ x : Box, boxAt b s = some x → x.owner = i →
        (lineRequest .map .holdBox i req s →
          (x.state = .running → exec (.holdBox (.station i)) s = .next (refuse req .busy (withoutRequest req s))) ∧
          (x.state = .queued ∧ x.hold.isSome = true ∨ boxEnded x.state = true →
            exec (.holdBox (.station i)) s = .next (refuse req .refusedState (withoutRequest req s)))) ∧
        (lineRequest .map .cancelJob i req s → boxEnded x.state = true →
          exec (.cancelJob (.station i)) s = .next (refuse req .refusedState (withoutRequest req s))) ∧
        (lineRequest .map .freeBox i req s → x.state = .queued ∨ x.state = .running →
          exec (.freeBox (.station i)) s = .next (refuse req .refusedState (withoutRequest req s)))) ∧
      (lineRequest .map .releaseBox i req s → notHolding i b s →
        exec (.releaseBox (.station i)) s = .next (refuse req .holdLost (withoutRequest req s)))) ∧
    ∀ (b : Fin 16) (bytes : Option (List Byte)), lineRequest .map .editBox i req s →
      parseEdit req.body = some (b, bytes) → notHolding i b s →
      exec (.editBox (.station i)) s = .next (refuse req .holdLost (withoutRequest req s))) ∧
  (∀ (s : State) (i : Station) (req : Request) (k : Fin 12),
    (lineRequest .keys .loadKey i req s → parseLoadSlot req.body = some k →
      ((slotAt k s).pending = true → exec (.loadKey (.station i)) s = .next (refuse req .busy (withoutRequest req s))) ∧
      ((slotAt k s).pending = false →
        (∀ key : Key, (slotAt k s).state = .fixed key →
          exec (.loadKey (.station i)) s = .next (refuse req .refusedState (withoutRequest req s))) ∧
        ∀ key : Key, (slotAt k s).state = .loaded key → key.loader ≠ i →
          exec (.loadKey (.station i)) s = .next (refuse req .refusedOrigin (withoutRequest req s)))) ∧
    (lineRequest .keys .fixKey i req s → parseSlotOnly req.body = some k →
      ((slotAt k s).pending = true → exec (.fixKey (.station i)) s = .next (refuse req .busy (withoutRequest req s))) ∧
      ((slotAt k s).pending = false →
        ((slotAt k s).state = .empty ∨ (∃ key : Key, (slotAt k s).state = .fixed key) →
          exec (.fixKey (.station i)) s = .next (refuse req .refusedState (withoutRequest req s))) ∧
        ∀ key : Key, (slotAt k s).state = .loaded key → key.loader ≠ i →
          exec (.fixKey (.station i)) s = .next (refuse req .refusedOrigin (withoutRequest req s)))) ∧
    (lineRequest .keys .eraseKey i req s → parseSlotOnly req.body = some k →
      ((slotAt k s).pending = true → exec (.eraseKey (.station i)) s = .next (refuse req .busy (withoutRequest req s))) ∧
      ((slotAt k s).pending = false →
        ((slotAt k s).state = .empty →
          exec (.eraseKey (.station i)) s = .next (refuse req .refusedState (withoutRequest req s))) ∧
        ∀ key : Key, (slotAt k s).state = .loaded key → key.loader ≠ i →
          exec (.eraseKey (.station i)) s = .next (refuse req .refusedOrigin (withoutRequest req s)))) ∧
    (waitingRequest .releaseKey .system s = some req → parseSlotOnly req.body = some k →
      s.srb.stage.stage = .closed → s.srb.stage.program ≠ .reopening →
      (∀ key : Key, (slotAt k s).state = .fixed key → key.cls = .service ∨ key.cls = .pairing) →
      exec (.releaseKey .system) s = .next (refuse req .refusedState (withoutRequest req s)))) ∧
  (∀ (s : State) (m : Master) (req : Request),
    (∀ c : RegionFields, waitingRequest .writeRegion m s = some req → recordsOrSystem m s = true →
      m = .system ∨ stageAdmits lineStage s = true → parseRegion req.body = some c →
      reservationOf m s = some (.region, s.srb.region.version) → s.srb.region.pending = true →
      exec (.writeRegion m) s = .next (refuse req .busy (withoutRequest req s))) ∧
    ∀ c : LabelFields, waitingRequest .writeLabel m s = some req → recordsOrSystem m s = true →
      stageAdmits lineStage s = true → parseLabel req.body = some c →
      reservationOf m s = some (.label, s.srb.label.version) → s.srb.label.pending = true →
      exec (.writeLabel m) s = .next (refuse req .busy (withoutRequest req s))) ∧
  ∀ (s : State) (i : Station) (req : Request), s.config.roles[i].stage = true → req.body = [] →
    (waitingRequest .closeSet (.station i) s = some req → s.srb.stage.stage ≠ .closed →
      s.srb.stage.program ≠ .none ∨ s.jobs.running.isSome = true ∨ writeTaken (withoutRequest req s) = true →
      exec (.closeSet (.station i)) s = .next (refuse req .busy (withoutRequest req s))) ∧
    (waitingRequest .reopenSet (.station i) s = some req → s.srb.stage.stage = .closed → s.srb.stage.program ≠ .none →
      exec (.reopenSet (.station i)) s = .next (refuse req .busy (withoutRequest req s)))
end

