-- ==== Sys2Proof/Laws/State.lean ====
section
/-! SUPPORT. Every part of the state after each setter: one lemma for each part and setter, true by rfl. -/

namespace Sys2Proof.Machine

@[simp] theorem State.setBoot_boot (s : State) (x : Boot) : (s.setBoot x).boot = x := rfl
@[simp] theorem State.setBoot_cap (s : State) (x : Boot) : (s.setBoot x).cap = s.cap := rfl
@[simp] theorem State.setBoot_jobs (s : State) (x : Boot) : (s.setBoot x).jobs = s.jobs := rfl
@[simp] theorem State.setBoot_tlc (s : State) (x : Boot) : (s.setBoot x).tlc = s.tlc := rfl
@[simp] theorem State.setBoot_mfc (s : State) (x : Boot) : (s.setBoot x).mfc = s.mfc := rfl
@[simp] theorem State.setBoot_homes (s : State) (x : Boot) : (s.setBoot x).homes = s.homes := rfl
@[simp] theorem State.setBoot_pcd (s : State) (x : Boot) : (s.setBoot x).pcd = s.pcd := rfl
@[simp] theorem State.setBoot_pnp (s : State) (x : Boot) : (s.setBoot x).pnp = s.pnp := rfl
@[simp] theorem State.setBoot_srb (s : State) (x : Boot) : (s.setBoot x).srb = s.srb := rfl
@[simp] theorem State.setBoot_fxl (s : State) (x : Boot) : (s.setBoot x).fxl = s.fxl := rfl
@[simp] theorem State.setBoot_syp (s : State) (x : Boot) : (s.setBoot x).syp = s.syp := rfl
@[simp] theorem State.setBoot_mct (s : State) (x : Boot) : (s.setBoot x).mct = s.mct := rfl
@[simp] theorem State.setBoot_config (s : State) (x : Boot) : (s.setBoot x).config = s.config := rfl
@[simp] theorem State.setBoot_inbox (s : State) (x : Boot) : (s.setBoot x).inbox = s.inbox := rfl
@[simp] theorem State.setBoot_book (s : State) (x : Boot) : (s.setBoot x).book = s.book := rfl
@[simp] theorem State.setBoot_pending (s : State) (x : Boot) : (s.setBoot x).pending = s.pending := rfl

@[simp] theorem State.setCap_boot (s : State) (x : Cap) : (s.setCap x).boot = s.boot := rfl
@[simp] theorem State.setCap_cap (s : State) (x : Cap) : (s.setCap x).cap = x := rfl
@[simp] theorem State.setCap_jobs (s : State) (x : Cap) : (s.setCap x).jobs = s.jobs := rfl
@[simp] theorem State.setCap_tlc (s : State) (x : Cap) : (s.setCap x).tlc = s.tlc := rfl
@[simp] theorem State.setCap_mfc (s : State) (x : Cap) : (s.setCap x).mfc = s.mfc := rfl
@[simp] theorem State.setCap_homes (s : State) (x : Cap) : (s.setCap x).homes = s.homes := rfl
@[simp] theorem State.setCap_pcd (s : State) (x : Cap) : (s.setCap x).pcd = s.pcd := rfl
@[simp] theorem State.setCap_pnp (s : State) (x : Cap) : (s.setCap x).pnp = s.pnp := rfl
@[simp] theorem State.setCap_srb (s : State) (x : Cap) : (s.setCap x).srb = s.srb := rfl
@[simp] theorem State.setCap_fxl (s : State) (x : Cap) : (s.setCap x).fxl = s.fxl := rfl
@[simp] theorem State.setCap_syp (s : State) (x : Cap) : (s.setCap x).syp = s.syp := rfl
@[simp] theorem State.setCap_mct (s : State) (x : Cap) : (s.setCap x).mct = s.mct := rfl
@[simp] theorem State.setCap_config (s : State) (x : Cap) : (s.setCap x).config = s.config := rfl
@[simp] theorem State.setCap_inbox (s : State) (x : Cap) : (s.setCap x).inbox = s.inbox := rfl
@[simp] theorem State.setCap_book (s : State) (x : Cap) : (s.setCap x).book = s.book := rfl
@[simp] theorem State.setCap_pending (s : State) (x : Cap) : (s.setCap x).pending = s.pending := rfl

@[simp] theorem State.setJobs_boot (s : State) (x : Jobs) : (s.setJobs x).boot = s.boot := rfl
@[simp] theorem State.setJobs_cap (s : State) (x : Jobs) : (s.setJobs x).cap = s.cap := rfl
@[simp] theorem State.setJobs_jobs (s : State) (x : Jobs) : (s.setJobs x).jobs = x := rfl
@[simp] theorem State.setJobs_tlc (s : State) (x : Jobs) : (s.setJobs x).tlc = s.tlc := rfl
@[simp] theorem State.setJobs_mfc (s : State) (x : Jobs) : (s.setJobs x).mfc = s.mfc := rfl
@[simp] theorem State.setJobs_homes (s : State) (x : Jobs) : (s.setJobs x).homes = s.homes := rfl
@[simp] theorem State.setJobs_pcd (s : State) (x : Jobs) : (s.setJobs x).pcd = s.pcd := rfl
@[simp] theorem State.setJobs_pnp (s : State) (x : Jobs) : (s.setJobs x).pnp = s.pnp := rfl
@[simp] theorem State.setJobs_srb (s : State) (x : Jobs) : (s.setJobs x).srb = s.srb := rfl
@[simp] theorem State.setJobs_fxl (s : State) (x : Jobs) : (s.setJobs x).fxl = s.fxl := rfl
@[simp] theorem State.setJobs_syp (s : State) (x : Jobs) : (s.setJobs x).syp = s.syp := rfl
@[simp] theorem State.setJobs_mct (s : State) (x : Jobs) : (s.setJobs x).mct = s.mct := rfl
@[simp] theorem State.setJobs_config (s : State) (x : Jobs) : (s.setJobs x).config = s.config := rfl
@[simp] theorem State.setJobs_inbox (s : State) (x : Jobs) : (s.setJobs x).inbox = s.inbox := rfl
@[simp] theorem State.setJobs_book (s : State) (x : Jobs) : (s.setJobs x).book = s.book := rfl
@[simp] theorem State.setJobs_pending (s : State) (x : Jobs) : (s.setJobs x).pending = s.pending := rfl

@[simp] theorem State.setTlc_boot (s : State) (x : Tlc) : (s.setTlc x).boot = s.boot := rfl
@[simp] theorem State.setTlc_cap (s : State) (x : Tlc) : (s.setTlc x).cap = s.cap := rfl
@[simp] theorem State.setTlc_jobs (s : State) (x : Tlc) : (s.setTlc x).jobs = s.jobs := rfl
@[simp] theorem State.setTlc_tlc (s : State) (x : Tlc) : (s.setTlc x).tlc = x := rfl
@[simp] theorem State.setTlc_mfc (s : State) (x : Tlc) : (s.setTlc x).mfc = s.mfc := rfl
@[simp] theorem State.setTlc_homes (s : State) (x : Tlc) : (s.setTlc x).homes = s.homes := rfl
@[simp] theorem State.setTlc_pcd (s : State) (x : Tlc) : (s.setTlc x).pcd = s.pcd := rfl
@[simp] theorem State.setTlc_pnp (s : State) (x : Tlc) : (s.setTlc x).pnp = s.pnp := rfl
@[simp] theorem State.setTlc_srb (s : State) (x : Tlc) : (s.setTlc x).srb = s.srb := rfl
@[simp] theorem State.setTlc_fxl (s : State) (x : Tlc) : (s.setTlc x).fxl = s.fxl := rfl
@[simp] theorem State.setTlc_syp (s : State) (x : Tlc) : (s.setTlc x).syp = s.syp := rfl
@[simp] theorem State.setTlc_mct (s : State) (x : Tlc) : (s.setTlc x).mct = s.mct := rfl
@[simp] theorem State.setTlc_config (s : State) (x : Tlc) : (s.setTlc x).config = s.config := rfl
@[simp] theorem State.setTlc_inbox (s : State) (x : Tlc) : (s.setTlc x).inbox = s.inbox := rfl
@[simp] theorem State.setTlc_book (s : State) (x : Tlc) : (s.setTlc x).book = s.book := rfl
@[simp] theorem State.setTlc_pending (s : State) (x : Tlc) : (s.setTlc x).pending = s.pending := rfl

@[simp] theorem State.setMfc_boot (s : State) (x : Mfc) : (s.setMfc x).boot = s.boot := rfl
@[simp] theorem State.setMfc_cap (s : State) (x : Mfc) : (s.setMfc x).cap = s.cap := rfl
@[simp] theorem State.setMfc_jobs (s : State) (x : Mfc) : (s.setMfc x).jobs = s.jobs := rfl
@[simp] theorem State.setMfc_tlc (s : State) (x : Mfc) : (s.setMfc x).tlc = s.tlc := rfl
@[simp] theorem State.setMfc_mfc (s : State) (x : Mfc) : (s.setMfc x).mfc = x := rfl
@[simp] theorem State.setMfc_homes (s : State) (x : Mfc) : (s.setMfc x).homes = s.homes := rfl
@[simp] theorem State.setMfc_pcd (s : State) (x : Mfc) : (s.setMfc x).pcd = s.pcd := rfl
@[simp] theorem State.setMfc_pnp (s : State) (x : Mfc) : (s.setMfc x).pnp = s.pnp := rfl
@[simp] theorem State.setMfc_srb (s : State) (x : Mfc) : (s.setMfc x).srb = s.srb := rfl
@[simp] theorem State.setMfc_fxl (s : State) (x : Mfc) : (s.setMfc x).fxl = s.fxl := rfl
@[simp] theorem State.setMfc_syp (s : State) (x : Mfc) : (s.setMfc x).syp = s.syp := rfl
@[simp] theorem State.setMfc_mct (s : State) (x : Mfc) : (s.setMfc x).mct = s.mct := rfl
@[simp] theorem State.setMfc_config (s : State) (x : Mfc) : (s.setMfc x).config = s.config := rfl
@[simp] theorem State.setMfc_inbox (s : State) (x : Mfc) : (s.setMfc x).inbox = s.inbox := rfl
@[simp] theorem State.setMfc_book (s : State) (x : Mfc) : (s.setMfc x).book = s.book := rfl
@[simp] theorem State.setMfc_pending (s : State) (x : Mfc) : (s.setMfc x).pending = s.pending := rfl

@[simp] theorem State.setHomes_boot (s : State) (x : Homes) : (s.setHomes x).boot = s.boot := rfl
@[simp] theorem State.setHomes_cap (s : State) (x : Homes) : (s.setHomes x).cap = s.cap := rfl
@[simp] theorem State.setHomes_jobs (s : State) (x : Homes) : (s.setHomes x).jobs = s.jobs := rfl
@[simp] theorem State.setHomes_tlc (s : State) (x : Homes) : (s.setHomes x).tlc = s.tlc := rfl
@[simp] theorem State.setHomes_mfc (s : State) (x : Homes) : (s.setHomes x).mfc = s.mfc := rfl
@[simp] theorem State.setHomes_homes (s : State) (x : Homes) : (s.setHomes x).homes = x := rfl
@[simp] theorem State.setHomes_pcd (s : State) (x : Homes) : (s.setHomes x).pcd = s.pcd := rfl
@[simp] theorem State.setHomes_pnp (s : State) (x : Homes) : (s.setHomes x).pnp = s.pnp := rfl
@[simp] theorem State.setHomes_srb (s : State) (x : Homes) : (s.setHomes x).srb = s.srb := rfl
@[simp] theorem State.setHomes_fxl (s : State) (x : Homes) : (s.setHomes x).fxl = s.fxl := rfl
@[simp] theorem State.setHomes_syp (s : State) (x : Homes) : (s.setHomes x).syp = s.syp := rfl
@[simp] theorem State.setHomes_mct (s : State) (x : Homes) : (s.setHomes x).mct = s.mct := rfl
@[simp] theorem State.setHomes_config (s : State) (x : Homes) : (s.setHomes x).config = s.config := rfl
@[simp] theorem State.setHomes_inbox (s : State) (x : Homes) : (s.setHomes x).inbox = s.inbox := rfl
@[simp] theorem State.setHomes_book (s : State) (x : Homes) : (s.setHomes x).book = s.book := rfl
@[simp] theorem State.setHomes_pending (s : State) (x : Homes) : (s.setHomes x).pending = s.pending := rfl

@[simp] theorem State.setPcd_boot (s : State) (x : Pcd) : (s.setPcd x).boot = s.boot := rfl
@[simp] theorem State.setPcd_cap (s : State) (x : Pcd) : (s.setPcd x).cap = s.cap := rfl
@[simp] theorem State.setPcd_jobs (s : State) (x : Pcd) : (s.setPcd x).jobs = s.jobs := rfl
@[simp] theorem State.setPcd_tlc (s : State) (x : Pcd) : (s.setPcd x).tlc = s.tlc := rfl
@[simp] theorem State.setPcd_mfc (s : State) (x : Pcd) : (s.setPcd x).mfc = s.mfc := rfl
@[simp] theorem State.setPcd_homes (s : State) (x : Pcd) : (s.setPcd x).homes = s.homes := rfl
@[simp] theorem State.setPcd_pcd (s : State) (x : Pcd) : (s.setPcd x).pcd = x := rfl
@[simp] theorem State.setPcd_pnp (s : State) (x : Pcd) : (s.setPcd x).pnp = s.pnp := rfl
@[simp] theorem State.setPcd_srb (s : State) (x : Pcd) : (s.setPcd x).srb = s.srb := rfl
@[simp] theorem State.setPcd_fxl (s : State) (x : Pcd) : (s.setPcd x).fxl = s.fxl := rfl
@[simp] theorem State.setPcd_syp (s : State) (x : Pcd) : (s.setPcd x).syp = s.syp := rfl
@[simp] theorem State.setPcd_mct (s : State) (x : Pcd) : (s.setPcd x).mct = s.mct := rfl
@[simp] theorem State.setPcd_config (s : State) (x : Pcd) : (s.setPcd x).config = s.config := rfl
@[simp] theorem State.setPcd_inbox (s : State) (x : Pcd) : (s.setPcd x).inbox = s.inbox := rfl
@[simp] theorem State.setPcd_book (s : State) (x : Pcd) : (s.setPcd x).book = s.book := rfl
@[simp] theorem State.setPcd_pending (s : State) (x : Pcd) : (s.setPcd x).pending = s.pending := rfl

@[simp] theorem State.setPnp_boot (s : State) (x : Pnp) : (s.setPnp x).boot = s.boot := rfl
@[simp] theorem State.setPnp_cap (s : State) (x : Pnp) : (s.setPnp x).cap = s.cap := rfl
@[simp] theorem State.setPnp_jobs (s : State) (x : Pnp) : (s.setPnp x).jobs = s.jobs := rfl
@[simp] theorem State.setPnp_tlc (s : State) (x : Pnp) : (s.setPnp x).tlc = s.tlc := rfl
@[simp] theorem State.setPnp_mfc (s : State) (x : Pnp) : (s.setPnp x).mfc = s.mfc := rfl
@[simp] theorem State.setPnp_homes (s : State) (x : Pnp) : (s.setPnp x).homes = s.homes := rfl
@[simp] theorem State.setPnp_pcd (s : State) (x : Pnp) : (s.setPnp x).pcd = s.pcd := rfl
@[simp] theorem State.setPnp_pnp (s : State) (x : Pnp) : (s.setPnp x).pnp = x := rfl
@[simp] theorem State.setPnp_srb (s : State) (x : Pnp) : (s.setPnp x).srb = s.srb := rfl
@[simp] theorem State.setPnp_fxl (s : State) (x : Pnp) : (s.setPnp x).fxl = s.fxl := rfl
@[simp] theorem State.setPnp_syp (s : State) (x : Pnp) : (s.setPnp x).syp = s.syp := rfl
@[simp] theorem State.setPnp_mct (s : State) (x : Pnp) : (s.setPnp x).mct = s.mct := rfl
@[simp] theorem State.setPnp_config (s : State) (x : Pnp) : (s.setPnp x).config = s.config := rfl
@[simp] theorem State.setPnp_inbox (s : State) (x : Pnp) : (s.setPnp x).inbox = s.inbox := rfl
@[simp] theorem State.setPnp_book (s : State) (x : Pnp) : (s.setPnp x).book = s.book := rfl
@[simp] theorem State.setPnp_pending (s : State) (x : Pnp) : (s.setPnp x).pending = s.pending := rfl

@[simp] theorem State.setSrb_boot (s : State) (x : Srb) : (s.setSrb x).boot = s.boot := rfl
@[simp] theorem State.setSrb_cap (s : State) (x : Srb) : (s.setSrb x).cap = s.cap := rfl
@[simp] theorem State.setSrb_jobs (s : State) (x : Srb) : (s.setSrb x).jobs = s.jobs := rfl
@[simp] theorem State.setSrb_tlc (s : State) (x : Srb) : (s.setSrb x).tlc = s.tlc := rfl
@[simp] theorem State.setSrb_mfc (s : State) (x : Srb) : (s.setSrb x).mfc = s.mfc := rfl
@[simp] theorem State.setSrb_homes (s : State) (x : Srb) : (s.setSrb x).homes = s.homes := rfl
@[simp] theorem State.setSrb_pcd (s : State) (x : Srb) : (s.setSrb x).pcd = s.pcd := rfl
@[simp] theorem State.setSrb_pnp (s : State) (x : Srb) : (s.setSrb x).pnp = s.pnp := rfl
@[simp] theorem State.setSrb_srb (s : State) (x : Srb) : (s.setSrb x).srb = x := rfl
@[simp] theorem State.setSrb_fxl (s : State) (x : Srb) : (s.setSrb x).fxl = s.fxl := rfl
@[simp] theorem State.setSrb_syp (s : State) (x : Srb) : (s.setSrb x).syp = s.syp := rfl
@[simp] theorem State.setSrb_mct (s : State) (x : Srb) : (s.setSrb x).mct = s.mct := rfl
@[simp] theorem State.setSrb_config (s : State) (x : Srb) : (s.setSrb x).config = s.config := rfl
@[simp] theorem State.setSrb_inbox (s : State) (x : Srb) : (s.setSrb x).inbox = s.inbox := rfl
@[simp] theorem State.setSrb_book (s : State) (x : Srb) : (s.setSrb x).book = s.book := rfl
@[simp] theorem State.setSrb_pending (s : State) (x : Srb) : (s.setSrb x).pending = s.pending := rfl

@[simp] theorem State.setFxl_boot (s : State) (x : Fxl) : (s.setFxl x).boot = s.boot := rfl
@[simp] theorem State.setFxl_cap (s : State) (x : Fxl) : (s.setFxl x).cap = s.cap := rfl
@[simp] theorem State.setFxl_jobs (s : State) (x : Fxl) : (s.setFxl x).jobs = s.jobs := rfl
@[simp] theorem State.setFxl_tlc (s : State) (x : Fxl) : (s.setFxl x).tlc = s.tlc := rfl
@[simp] theorem State.setFxl_mfc (s : State) (x : Fxl) : (s.setFxl x).mfc = s.mfc := rfl
@[simp] theorem State.setFxl_homes (s : State) (x : Fxl) : (s.setFxl x).homes = s.homes := rfl
@[simp] theorem State.setFxl_pcd (s : State) (x : Fxl) : (s.setFxl x).pcd = s.pcd := rfl
@[simp] theorem State.setFxl_pnp (s : State) (x : Fxl) : (s.setFxl x).pnp = s.pnp := rfl
@[simp] theorem State.setFxl_srb (s : State) (x : Fxl) : (s.setFxl x).srb = s.srb := rfl
@[simp] theorem State.setFxl_fxl (s : State) (x : Fxl) : (s.setFxl x).fxl = x := rfl
@[simp] theorem State.setFxl_syp (s : State) (x : Fxl) : (s.setFxl x).syp = s.syp := rfl
@[simp] theorem State.setFxl_mct (s : State) (x : Fxl) : (s.setFxl x).mct = s.mct := rfl
@[simp] theorem State.setFxl_config (s : State) (x : Fxl) : (s.setFxl x).config = s.config := rfl
@[simp] theorem State.setFxl_inbox (s : State) (x : Fxl) : (s.setFxl x).inbox = s.inbox := rfl
@[simp] theorem State.setFxl_book (s : State) (x : Fxl) : (s.setFxl x).book = s.book := rfl
@[simp] theorem State.setFxl_pending (s : State) (x : Fxl) : (s.setFxl x).pending = s.pending := rfl

@[simp] theorem State.setSyp_boot (s : State) (x : Syp) : (s.setSyp x).boot = s.boot := rfl
@[simp] theorem State.setSyp_cap (s : State) (x : Syp) : (s.setSyp x).cap = s.cap := rfl
@[simp] theorem State.setSyp_jobs (s : State) (x : Syp) : (s.setSyp x).jobs = s.jobs := rfl
@[simp] theorem State.setSyp_tlc (s : State) (x : Syp) : (s.setSyp x).tlc = s.tlc := rfl
@[simp] theorem State.setSyp_mfc (s : State) (x : Syp) : (s.setSyp x).mfc = s.mfc := rfl
@[simp] theorem State.setSyp_homes (s : State) (x : Syp) : (s.setSyp x).homes = s.homes := rfl
@[simp] theorem State.setSyp_pcd (s : State) (x : Syp) : (s.setSyp x).pcd = s.pcd := rfl
@[simp] theorem State.setSyp_pnp (s : State) (x : Syp) : (s.setSyp x).pnp = s.pnp := rfl
@[simp] theorem State.setSyp_srb (s : State) (x : Syp) : (s.setSyp x).srb = s.srb := rfl
@[simp] theorem State.setSyp_fxl (s : State) (x : Syp) : (s.setSyp x).fxl = s.fxl := rfl
@[simp] theorem State.setSyp_syp (s : State) (x : Syp) : (s.setSyp x).syp = x := rfl
@[simp] theorem State.setSyp_mct (s : State) (x : Syp) : (s.setSyp x).mct = s.mct := rfl
@[simp] theorem State.setSyp_config (s : State) (x : Syp) : (s.setSyp x).config = s.config := rfl
@[simp] theorem State.setSyp_inbox (s : State) (x : Syp) : (s.setSyp x).inbox = s.inbox := rfl
@[simp] theorem State.setSyp_book (s : State) (x : Syp) : (s.setSyp x).book = s.book := rfl
@[simp] theorem State.setSyp_pending (s : State) (x : Syp) : (s.setSyp x).pending = s.pending := rfl

@[simp] theorem State.setMct_boot (s : State) (x : Mct) : (s.setMct x).boot = s.boot := rfl
@[simp] theorem State.setMct_cap (s : State) (x : Mct) : (s.setMct x).cap = s.cap := rfl
@[simp] theorem State.setMct_jobs (s : State) (x : Mct) : (s.setMct x).jobs = s.jobs := rfl
@[simp] theorem State.setMct_tlc (s : State) (x : Mct) : (s.setMct x).tlc = s.tlc := rfl
@[simp] theorem State.setMct_mfc (s : State) (x : Mct) : (s.setMct x).mfc = s.mfc := rfl
@[simp] theorem State.setMct_homes (s : State) (x : Mct) : (s.setMct x).homes = s.homes := rfl
@[simp] theorem State.setMct_pcd (s : State) (x : Mct) : (s.setMct x).pcd = s.pcd := rfl
@[simp] theorem State.setMct_pnp (s : State) (x : Mct) : (s.setMct x).pnp = s.pnp := rfl
@[simp] theorem State.setMct_srb (s : State) (x : Mct) : (s.setMct x).srb = s.srb := rfl
@[simp] theorem State.setMct_fxl (s : State) (x : Mct) : (s.setMct x).fxl = s.fxl := rfl
@[simp] theorem State.setMct_syp (s : State) (x : Mct) : (s.setMct x).syp = s.syp := rfl
@[simp] theorem State.setMct_mct (s : State) (x : Mct) : (s.setMct x).mct = x := rfl
@[simp] theorem State.setMct_config (s : State) (x : Mct) : (s.setMct x).config = s.config := rfl
@[simp] theorem State.setMct_inbox (s : State) (x : Mct) : (s.setMct x).inbox = s.inbox := rfl
@[simp] theorem State.setMct_book (s : State) (x : Mct) : (s.setMct x).book = s.book := rfl
@[simp] theorem State.setMct_pending (s : State) (x : Mct) : (s.setMct x).pending = s.pending := rfl

@[simp] theorem State.setConfig_boot (s : State) (x : Config) : (s.setConfig x).boot = s.boot := rfl
@[simp] theorem State.setConfig_cap (s : State) (x : Config) : (s.setConfig x).cap = s.cap := rfl
@[simp] theorem State.setConfig_jobs (s : State) (x : Config) : (s.setConfig x).jobs = s.jobs := rfl
@[simp] theorem State.setConfig_tlc (s : State) (x : Config) : (s.setConfig x).tlc = s.tlc := rfl
@[simp] theorem State.setConfig_mfc (s : State) (x : Config) : (s.setConfig x).mfc = s.mfc := rfl
@[simp] theorem State.setConfig_homes (s : State) (x : Config) : (s.setConfig x).homes = s.homes := rfl
@[simp] theorem State.setConfig_pcd (s : State) (x : Config) : (s.setConfig x).pcd = s.pcd := rfl
@[simp] theorem State.setConfig_pnp (s : State) (x : Config) : (s.setConfig x).pnp = s.pnp := rfl
@[simp] theorem State.setConfig_srb (s : State) (x : Config) : (s.setConfig x).srb = s.srb := rfl
@[simp] theorem State.setConfig_fxl (s : State) (x : Config) : (s.setConfig x).fxl = s.fxl := rfl
@[simp] theorem State.setConfig_syp (s : State) (x : Config) : (s.setConfig x).syp = s.syp := rfl
@[simp] theorem State.setConfig_mct (s : State) (x : Config) : (s.setConfig x).mct = s.mct := rfl
@[simp] theorem State.setConfig_config (s : State) (x : Config) : (s.setConfig x).config = x := rfl
@[simp] theorem State.setConfig_inbox (s : State) (x : Config) : (s.setConfig x).inbox = s.inbox := rfl
@[simp] theorem State.setConfig_book (s : State) (x : Config) : (s.setConfig x).book = s.book := rfl
@[simp] theorem State.setConfig_pending (s : State) (x : Config) : (s.setConfig x).pending = s.pending := rfl

@[simp] theorem State.setInbox_boot (s : State) (x : List Request) : (s.setInbox x).boot = s.boot := rfl
@[simp] theorem State.setInbox_cap (s : State) (x : List Request) : (s.setInbox x).cap = s.cap := rfl
@[simp] theorem State.setInbox_jobs (s : State) (x : List Request) : (s.setInbox x).jobs = s.jobs := rfl
@[simp] theorem State.setInbox_tlc (s : State) (x : List Request) : (s.setInbox x).tlc = s.tlc := rfl
@[simp] theorem State.setInbox_mfc (s : State) (x : List Request) : (s.setInbox x).mfc = s.mfc := rfl
@[simp] theorem State.setInbox_homes (s : State) (x : List Request) : (s.setInbox x).homes = s.homes := rfl
@[simp] theorem State.setInbox_pcd (s : State) (x : List Request) : (s.setInbox x).pcd = s.pcd := rfl
@[simp] theorem State.setInbox_pnp (s : State) (x : List Request) : (s.setInbox x).pnp = s.pnp := rfl
@[simp] theorem State.setInbox_srb (s : State) (x : List Request) : (s.setInbox x).srb = s.srb := rfl
@[simp] theorem State.setInbox_fxl (s : State) (x : List Request) : (s.setInbox x).fxl = s.fxl := rfl
@[simp] theorem State.setInbox_syp (s : State) (x : List Request) : (s.setInbox x).syp = s.syp := rfl
@[simp] theorem State.setInbox_mct (s : State) (x : List Request) : (s.setInbox x).mct = s.mct := rfl
@[simp] theorem State.setInbox_config (s : State) (x : List Request) : (s.setInbox x).config = s.config := rfl
@[simp] theorem State.setInbox_inbox (s : State) (x : List Request) : (s.setInbox x).inbox = x := rfl
@[simp] theorem State.setInbox_book (s : State) (x : List Request) : (s.setInbox x).book = s.book := rfl
@[simp] theorem State.setInbox_pending (s : State) (x : List Request) : (s.setInbox x).pending = s.pending := rfl

@[simp] theorem State.setBook_boot (s : State) (x : Book) : (s.setBook x).boot = s.boot := rfl
@[simp] theorem State.setBook_cap (s : State) (x : Book) : (s.setBook x).cap = s.cap := rfl
@[simp] theorem State.setBook_jobs (s : State) (x : Book) : (s.setBook x).jobs = s.jobs := rfl
@[simp] theorem State.setBook_tlc (s : State) (x : Book) : (s.setBook x).tlc = s.tlc := rfl
@[simp] theorem State.setBook_mfc (s : State) (x : Book) : (s.setBook x).mfc = s.mfc := rfl
@[simp] theorem State.setBook_homes (s : State) (x : Book) : (s.setBook x).homes = s.homes := rfl
@[simp] theorem State.setBook_pcd (s : State) (x : Book) : (s.setBook x).pcd = s.pcd := rfl
@[simp] theorem State.setBook_pnp (s : State) (x : Book) : (s.setBook x).pnp = s.pnp := rfl
@[simp] theorem State.setBook_srb (s : State) (x : Book) : (s.setBook x).srb = s.srb := rfl
@[simp] theorem State.setBook_fxl (s : State) (x : Book) : (s.setBook x).fxl = s.fxl := rfl
@[simp] theorem State.setBook_syp (s : State) (x : Book) : (s.setBook x).syp = s.syp := rfl
@[simp] theorem State.setBook_mct (s : State) (x : Book) : (s.setBook x).mct = s.mct := rfl
@[simp] theorem State.setBook_config (s : State) (x : Book) : (s.setBook x).config = s.config := rfl
@[simp] theorem State.setBook_inbox (s : State) (x : Book) : (s.setBook x).inbox = s.inbox := rfl
@[simp] theorem State.setBook_book (s : State) (x : Book) : (s.setBook x).book = x := rfl
@[simp] theorem State.setBook_pending (s : State) (x : Book) : (s.setBook x).pending = s.pending := rfl

@[simp] theorem State.setPending_boot (s : State) (x : List Instr) : (s.setPending x).boot = s.boot := rfl
@[simp] theorem State.setPending_cap (s : State) (x : List Instr) : (s.setPending x).cap = s.cap := rfl
@[simp] theorem State.setPending_jobs (s : State) (x : List Instr) : (s.setPending x).jobs = s.jobs := rfl
@[simp] theorem State.setPending_tlc (s : State) (x : List Instr) : (s.setPending x).tlc = s.tlc := rfl
@[simp] theorem State.setPending_mfc (s : State) (x : List Instr) : (s.setPending x).mfc = s.mfc := rfl
@[simp] theorem State.setPending_homes (s : State) (x : List Instr) : (s.setPending x).homes = s.homes := rfl
@[simp] theorem State.setPending_pcd (s : State) (x : List Instr) : (s.setPending x).pcd = s.pcd := rfl
@[simp] theorem State.setPending_pnp (s : State) (x : List Instr) : (s.setPending x).pnp = s.pnp := rfl
@[simp] theorem State.setPending_srb (s : State) (x : List Instr) : (s.setPending x).srb = s.srb := rfl
@[simp] theorem State.setPending_fxl (s : State) (x : List Instr) : (s.setPending x).fxl = s.fxl := rfl
@[simp] theorem State.setPending_syp (s : State) (x : List Instr) : (s.setPending x).syp = s.syp := rfl
@[simp] theorem State.setPending_mct (s : State) (x : List Instr) : (s.setPending x).mct = s.mct := rfl
@[simp] theorem State.setPending_config (s : State) (x : List Instr) : (s.setPending x).config = s.config := rfl
@[simp] theorem State.setPending_inbox (s : State) (x : List Instr) : (s.setPending x).inbox = s.inbox := rfl
@[simp] theorem State.setPending_book (s : State) (x : List Instr) : (s.setPending x).book = s.book := rfl
@[simp] theorem State.setPending_pending (s : State) (x : List Instr) : (s.setPending x).pending = x := rfl

/-- Two states are equal when each of their parts is. -/
theorem State.eq_of_parts {s t : State}
    (h1 : s.boot = t.boot)
    (h2 : s.cap = t.cap)
    (h3 : s.jobs = t.jobs)
    (h4 : s.tlc = t.tlc)
    (h5 : s.mfc = t.mfc)
    (h6 : s.homes = t.homes)
    (h7 : s.pcd = t.pcd)
    (h8 : s.pnp = t.pnp)
    (h9 : s.srb = t.srb)
    (h10 : s.fxl = t.fxl)
    (h11 : s.syp = t.syp)
    (h12 : s.mct = t.mct)
    (h13 : s.config = t.config)
    (h14 : s.inbox = t.inbox)
    (h15 : s.book = t.book)
    (h16 : s.pending = t.pending) : s = t := by
  cases s; cases t; simp_all

end Sys2Proof.Machine
end

