-- ==== Sys2Proof/Laws/Frames.lean ====
section
/-! SUPPORT. The frame of each shared operation: the parts of the state that it leaves as they stand, whatever it does to
the others. Each law is tagged simp, so that a proof about a command need not unfold the operations it is made of. -/

set_option linter.unusedTactic false
set_option linter.unreachableTactic false
set_option linter.unnecessarySeqFocus false

namespace Sys2Proof.Machine

open Sys2Proof

/-! ## Flags -/

@[simp] theorem raise_frame (e : Event) (s : State) :
    (raise e s).boot = s.boot ∧ (raise e s).cap = s.cap ∧ (raise e s).jobs = s.jobs ∧ (raise e s).tlc = s.tlc ∧
    (raise e s).mfc = s.mfc ∧ (raise e s).homes = s.homes ∧ (raise e s).pcd = s.pcd ∧ (raise e s).pnp = s.pnp ∧
    (raise e s).srb = s.srb ∧ (raise e s).fxl = s.fxl ∧ (raise e s).mct = s.mct ∧ (raise e s).config = s.config ∧
    (raise e s).inbox = s.inbox ∧ (raise e s).book = s.book ∧ (raise e s).pending = s.pending := by
  refine ⟨?_, ?_, ?_, ?_, ?_, ?_, ?_, ?_, ?_, ?_, ?_, ?_, ?_, ?_, ?_⟩ <;>
    (unfold raise; try dsimp only) <;> (repeat' split) <;> simp_all

@[simp] theorem rise_frame (m : Master) (k : CounterKind) (n : Nat) (s : State) :
    (rise m k n s).boot = s.boot ∧ (rise m k n s).cap = s.cap ∧ (rise m k n s).jobs = s.jobs ∧
    (rise m k n s).tlc = s.tlc ∧ (rise m k n s).mfc = s.mfc ∧ (rise m k n s).homes = s.homes ∧
    (rise m k n s).pcd = s.pcd ∧ (rise m k n s).pnp = s.pnp ∧ (rise m k n s).srb = s.srb ∧
    (rise m k n s).fxl = s.fxl ∧ (rise m k n s).config = s.config ∧ (rise m k n s).inbox = s.inbox ∧
    (rise m k n s).book = s.book ∧ (rise m k n s).pending = s.pending := by
  refine ⟨?_, ?_, ?_, ?_, ?_, ?_, ?_, ?_, ?_, ?_, ?_, ?_, ?_, ?_⟩ <;>
    (unfold rise; try dsimp only) <;> (repeat' split) <;> simp_all

/-! ## Ops -/

@[simp] theorem placeAnswer_frame (st : Station) (r : Reply) (s : State) :
    (placeAnswer st r s).boot = s.boot ∧ (placeAnswer st r s).cap = s.cap ∧ (placeAnswer st r s).jobs = s.jobs ∧
    (placeAnswer st r s).tlc = s.tlc ∧ (placeAnswer st r s).mfc = s.mfc ∧ (placeAnswer st r s).homes = s.homes ∧
    (placeAnswer st r s).pcd = s.pcd ∧ (placeAnswer st r s).pnp = s.pnp ∧ (placeAnswer st r s).srb = s.srb ∧
    (placeAnswer st r s).syp = s.syp ∧ (placeAnswer st r s).mct = s.mct ∧ (placeAnswer st r s).config = s.config ∧
    (placeAnswer st r s).inbox = s.inbox ∧ (placeAnswer st r s).book = s.book ∧
    (placeAnswer st r s).pending = s.pending := by
  refine ⟨?_, ?_, ?_, ?_, ?_, ?_, ?_, ?_, ?_, ?_, ?_, ?_, ?_, ?_, ?_⟩ <;>
    (unfold placeAnswer; try dsimp only) <;> (repeat' split) <;> simp_all

@[simp] theorem placeOwn_frame (st : Station) (r : Reply) (s : State) :
    (placeOwn st r s).boot = s.boot ∧ (placeOwn st r s).cap = s.cap ∧ (placeOwn st r s).jobs = s.jobs ∧
    (placeOwn st r s).tlc = s.tlc ∧ (placeOwn st r s).mfc = s.mfc ∧ (placeOwn st r s).homes = s.homes ∧
    (placeOwn st r s).pcd = s.pcd ∧ (placeOwn st r s).pnp = s.pnp ∧ (placeOwn st r s).srb = s.srb ∧
    (placeOwn st r s).syp = s.syp ∧ (placeOwn st r s).mct = s.mct ∧ (placeOwn st r s).config = s.config ∧
    (placeOwn st r s).inbox = s.inbox ∧ (placeOwn st r s).book = s.book ∧ (placeOwn st r s).pending = s.pending := by
  refine ⟨?_, ?_, ?_, ?_, ?_, ?_, ?_, ?_, ?_, ?_, ?_, ?_, ?_, ?_, ?_⟩ <;>
    (unfold placeOwn; try dsimp only) <;> (repeat' split) <;> simp_all

@[simp] theorem stationReply_frame (st : Station) (n : Nat) (r : Reply) (s : State) :
    (stationReply st n r s).boot = s.boot ∧ (stationReply st n r s).cap = s.cap ∧
    (stationReply st n r s).jobs = s.jobs ∧ (stationReply st n r s).tlc = s.tlc ∧
    (stationReply st n r s).mfc = s.mfc ∧ (stationReply st n r s).homes = s.homes ∧
    (stationReply st n r s).pcd = s.pcd ∧ (stationReply st n r s).pnp = s.pnp ∧ (stationReply st n r s).srb = s.srb ∧
    (stationReply st n r s).syp = s.syp ∧ (stationReply st n r s).mct = s.mct ∧
    (stationReply st n r s).config = s.config ∧ (stationReply st n r s).inbox = s.inbox ∧
    (stationReply st n r s).book = s.book ∧ (stationReply st n r s).pending = s.pending := by
  refine ⟨?_, ?_, ?_, ?_, ?_, ?_, ?_, ?_, ?_, ?_, ?_, ?_, ?_, ?_, ?_⟩ <;>
    (unfold stationReply; try dsimp only) <;> (repeat' split) <;> simp_all

@[simp] theorem systemReply_frame (n : Nat) (r : Reply) (s : State) :
    (systemReply n r s).boot = s.boot ∧ (systemReply n r s).cap = s.cap ∧ (systemReply n r s).jobs = s.jobs ∧
    (systemReply n r s).tlc = s.tlc ∧ (systemReply n r s).mfc = s.mfc ∧ (systemReply n r s).homes = s.homes ∧
    (systemReply n r s).pcd = s.pcd ∧ (systemReply n r s).pnp = s.pnp ∧ (systemReply n r s).srb = s.srb ∧
    (systemReply n r s).fxl = s.fxl ∧ (systemReply n r s).mct = s.mct ∧ (systemReply n r s).config = s.config ∧
    (systemReply n r s).inbox = s.inbox ∧ (systemReply n r s).book = s.book ∧ (systemReply n r s).pending = s.pending := by
  refine ⟨?_, ?_, ?_, ?_, ?_, ?_, ?_, ?_, ?_, ?_, ?_, ?_, ?_, ?_, ?_⟩ <;>
    (unfold systemReply; try dsimp only) <;> (repeat' split) <;> simp_all

@[simp] theorem panelReply_frame (n : Nat) (r : Reply) (s : State) :
    (panelReply n r s).boot = s.boot ∧ (panelReply n r s).cap = s.cap ∧ (panelReply n r s).jobs = s.jobs ∧
    (panelReply n r s).tlc = s.tlc ∧ (panelReply n r s).mfc = s.mfc ∧ (panelReply n r s).homes = s.homes ∧
    (panelReply n r s).pcd = s.pcd ∧ (panelReply n r s).srb = s.srb ∧ (panelReply n r s).fxl = s.fxl ∧
    (panelReply n r s).syp = s.syp ∧ (panelReply n r s).mct = s.mct ∧ (panelReply n r s).config = s.config ∧
    (panelReply n r s).inbox = s.inbox ∧ (panelReply n r s).book = s.book ∧ (panelReply n r s).pending = s.pending := by
  refine ⟨?_, ?_, ?_, ?_, ?_, ?_, ?_, ?_, ?_, ?_, ?_, ?_, ?_, ?_, ?_⟩ <;>
    (unfold panelReply; try dsimp only) <;> (repeat' split) <;> simp_all

@[simp] theorem routeReply_frame (m : Master) (n : Nat) (r : Reply) (s : State) :
    (routeReply m n r s).boot = s.boot ∧ (routeReply m n r s).cap = s.cap ∧ (routeReply m n r s).jobs = s.jobs ∧
    (routeReply m n r s).tlc = s.tlc ∧ (routeReply m n r s).mfc = s.mfc ∧ (routeReply m n r s).homes = s.homes ∧
    (routeReply m n r s).pcd = s.pcd ∧ (routeReply m n r s).srb = s.srb ∧ (routeReply m n r s).mct = s.mct ∧
    (routeReply m n r s).config = s.config ∧ (routeReply m n r s).inbox = s.inbox ∧
    (routeReply m n r s).book = s.book ∧ (routeReply m n r s).pending = s.pending := by
  refine ⟨?_, ?_, ?_, ?_, ?_, ?_, ?_, ?_, ?_, ?_, ?_, ?_, ?_⟩ <;>
    (unfold routeReply; try dsimp only) <;> (repeat' split) <;> simp_all

@[simp] theorem countReply_frame (m : Master) (st : Status) (s : State) :
    (countReply m st s).boot = s.boot ∧ (countReply m st s).cap = s.cap ∧ (countReply m st s).jobs = s.jobs ∧
    (countReply m st s).tlc = s.tlc ∧ (countReply m st s).mfc = s.mfc ∧ (countReply m st s).homes = s.homes ∧
    (countReply m st s).pcd = s.pcd ∧ (countReply m st s).pnp = s.pnp ∧ (countReply m st s).srb = s.srb ∧
    (countReply m st s).fxl = s.fxl ∧ (countReply m st s).config = s.config ∧ (countReply m st s).inbox = s.inbox ∧
    (countReply m st s).book = s.book ∧ (countReply m st s).pending = s.pending := by
  refine ⟨?_, ?_, ?_, ?_, ?_, ?_, ?_, ?_, ?_, ?_, ?_, ?_, ?_, ?_⟩ <;>
    (unfold countReply; try dsimp only) <;> (repeat' split) <;> simp_all

@[simp] theorem reply_frame (req : Request) (st : Status) (b : ReplyBody) (s : State) :
    (reply req st b s).boot = s.boot ∧ (reply req st b s).cap = s.cap ∧ (reply req st b s).jobs = s.jobs ∧
    (reply req st b s).tlc = s.tlc ∧ (reply req st b s).mfc = s.mfc ∧ (reply req st b s).homes = s.homes ∧
    (reply req st b s).pcd = s.pcd ∧ (reply req st b s).srb = s.srb ∧ (reply req st b s).config = s.config ∧
    (reply req st b s).inbox = s.inbox ∧ (reply req st b s).book = s.book ∧ (reply req st b s).pending = s.pending := by
  refine ⟨?_, ?_, ?_, ?_, ?_, ?_, ?_, ?_, ?_, ?_, ?_, ?_⟩ <;>
    (unfold reply; try dsimp only) <;> (repeat' split) <;> simp_all

@[simp] theorem refuse_frame (req : Request) (st : Status) (s : State) :
    (refuse req st s).boot = s.boot ∧ (refuse req st s).cap = s.cap ∧ (refuse req st s).jobs = s.jobs ∧
    (refuse req st s).tlc = s.tlc ∧ (refuse req st s).mfc = s.mfc ∧ (refuse req st s).homes = s.homes ∧
    (refuse req st s).pcd = s.pcd ∧ (refuse req st s).srb = s.srb ∧ (refuse req st s).config = s.config ∧
    (refuse req st s).inbox = s.inbox ∧ (refuse req st s).book = s.book ∧ (refuse req st s).pending = s.pending := by
  refine ⟨?_, ?_, ?_, ?_, ?_, ?_, ?_, ?_, ?_, ?_, ?_, ?_⟩ <;>
    (unfold refuse; try dsimp only) <;> (repeat' split) <;> simp_all

@[simp] theorem setDir_frame (t : TileNo) (d : DirState) (s : State) :
    (setDir t d s).boot = s.boot ∧ (setDir t d s).cap = s.cap ∧ (setDir t d s).jobs = s.jobs ∧
    (setDir t d s).tlc = s.tlc ∧ (setDir t d s).mfc = s.mfc ∧ (setDir t d s).homes = s.homes ∧
    (setDir t d s).pnp = s.pnp ∧ (setDir t d s).srb = s.srb ∧ (setDir t d s).fxl = s.fxl ∧
    (setDir t d s).syp = s.syp ∧ (setDir t d s).mct = s.mct ∧ (setDir t d s).config = s.config ∧
    (setDir t d s).inbox = s.inbox ∧ (setDir t d s).book = s.book ∧ (setDir t d s).pending = s.pending := by
  refine ⟨?_, ?_, ?_, ?_, ?_, ?_, ?_, ?_, ?_, ?_, ?_, ?_, ?_, ?_, ?_⟩ <;>
    (unfold setDir; try dsimp only) <;> (repeat' split) <;> simp_all

@[simp] theorem appendNotice_frame (t : TileNo) (s : State) :
    (appendNotice t s).boot = s.boot ∧ (appendNotice t s).cap = s.cap ∧ (appendNotice t s).jobs = s.jobs ∧
    (appendNotice t s).tlc = s.tlc ∧ (appendNotice t s).mfc = s.mfc ∧ (appendNotice t s).homes = s.homes ∧
    (appendNotice t s).pnp = s.pnp ∧ (appendNotice t s).srb = s.srb ∧ (appendNotice t s).fxl = s.fxl ∧
    (appendNotice t s).mct = s.mct ∧ (appendNotice t s).config = s.config ∧ (appendNotice t s).inbox = s.inbox ∧
    (appendNotice t s).book = s.book ∧ (appendNotice t s).pending = s.pending := by
  refine ⟨?_, ?_, ?_, ?_, ?_, ?_, ?_, ?_, ?_, ?_, ?_, ?_, ?_, ?_⟩ <;>
    (unfold appendNotice; try dsimp only) <;> (repeat' split) <;> simp_all

@[simp] theorem markChanged_frame (t : TileNo) (s : State) :
    (markChanged t s).boot = s.boot ∧ (markChanged t s).cap = s.cap ∧ (markChanged t s).jobs = s.jobs ∧
    (markChanged t s).tlc = s.tlc ∧ (markChanged t s).mfc = s.mfc ∧ (markChanged t s).homes = s.homes ∧
    (markChanged t s).pnp = s.pnp ∧ (markChanged t s).srb = s.srb ∧ (markChanged t s).fxl = s.fxl ∧
    (markChanged t s).mct = s.mct ∧ (markChanged t s).config = s.config ∧ (markChanged t s).inbox = s.inbox ∧
    (markChanged t s).book = s.book ∧ (markChanged t s).pending = s.pending := by
  refine ⟨?_, ?_, ?_, ?_, ?_, ?_, ?_, ?_, ?_, ?_, ?_, ?_, ?_, ?_⟩ <;>
    (unfold markChanged; try dsimp only) <;> (repeat' split) <;> simp_all

@[simp] theorem setHeader_frame (h : Header) (s : State) :
    (setHeader h s).boot = s.boot ∧ (setHeader h s).cap = s.cap ∧ (setHeader h s).jobs = s.jobs ∧
    (setHeader h s).tlc = s.tlc ∧ (setHeader h s).homes = s.homes ∧ (setHeader h s).pcd = s.pcd ∧
    (setHeader h s).pnp = s.pnp ∧ (setHeader h s).srb = s.srb ∧ (setHeader h s).fxl = s.fxl ∧
    (setHeader h s).syp = s.syp ∧ (setHeader h s).mct = s.mct ∧ (setHeader h s).config = s.config ∧
    (setHeader h s).inbox = s.inbox ∧ (setHeader h s).book = s.book ∧ (setHeader h s).pending = s.pending := by
  refine ⟨?_, ?_, ?_, ?_, ?_, ?_, ?_, ?_, ?_, ?_, ?_, ?_, ?_, ?_, ?_⟩ <;>
    (unfold setHeader; try dsimp only) <;> (repeat' split) <;> simp_all

/-! ## Cache -/

@[simp] theorem setEntry_frame (i : Fin 16) (w : Fin 8) (e : Option Entry) (s : State) :
    (setEntry i w e s).boot = s.boot ∧ (setEntry i w e s).cap = s.cap ∧ (setEntry i w e s).jobs = s.jobs ∧
    (setEntry i w e s).mfc = s.mfc ∧ (setEntry i w e s).homes = s.homes ∧ (setEntry i w e s).pcd = s.pcd ∧
    (setEntry i w e s).pnp = s.pnp ∧ (setEntry i w e s).srb = s.srb ∧ (setEntry i w e s).fxl = s.fxl ∧
    (setEntry i w e s).syp = s.syp ∧ (setEntry i w e s).mct = s.mct ∧ (setEntry i w e s).config = s.config ∧
    (setEntry i w e s).inbox = s.inbox ∧ (setEntry i w e s).book = s.book ∧ (setEntry i w e s).pending = s.pending := by
  refine ⟨?_, ?_, ?_, ?_, ?_, ?_, ?_, ?_, ?_, ?_, ?_, ?_, ?_, ?_, ?_⟩ <;>
    (unfold setEntry; try dsimp only) <;> (repeat' split) <;> simp_all

@[simp] theorem touch_frame (i : Fin 16) (w : Fin 8) (s : State) :
    (touch i w s).boot = s.boot ∧ (touch i w s).cap = s.cap ∧ (touch i w s).jobs = s.jobs ∧
    (touch i w s).mfc = s.mfc ∧ (touch i w s).homes = s.homes ∧ (touch i w s).pcd = s.pcd ∧
    (touch i w s).pnp = s.pnp ∧ (touch i w s).srb = s.srb ∧ (touch i w s).fxl = s.fxl ∧ (touch i w s).syp = s.syp ∧
    (touch i w s).mct = s.mct ∧ (touch i w s).config = s.config ∧ (touch i w s).inbox = s.inbox ∧
    (touch i w s).book = s.book ∧ (touch i w s).pending = s.pending := by
  refine ⟨?_, ?_, ?_, ?_, ?_, ?_, ?_, ?_, ?_, ?_, ?_, ?_, ?_, ?_, ?_⟩ <;>
    (unfold touch; try dsimp only) <;> (repeat' split) <;> simp_all

@[simp] theorem requestFill_frame (t : TileNo) (s : State) :
    (requestFill t s).boot = s.boot ∧ (requestFill t s).cap = s.cap ∧ (requestFill t s).jobs = s.jobs ∧
    (requestFill t s).homes = s.homes ∧ (requestFill t s).pcd = s.pcd ∧ (requestFill t s).pnp = s.pnp ∧
    (requestFill t s).srb = s.srb ∧ (requestFill t s).fxl = s.fxl ∧ (requestFill t s).syp = s.syp ∧
    (requestFill t s).mct = s.mct ∧ (requestFill t s).config = s.config ∧ (requestFill t s).inbox = s.inbox ∧
    (requestFill t s).book = s.book ∧ (requestFill t s).pending = s.pending := by
  refine ⟨?_, ?_, ?_, ?_, ?_, ?_, ?_, ?_, ?_, ?_, ?_, ?_, ?_, ?_⟩ <;>
    (unfold requestFill; try dsimp only) <;> (repeat' split) <;> simp_all

@[simp] theorem copyVictim_frame (i : Fin 16) (w : Fin 8) (s : State) :
    (copyVictim i w s).boot = s.boot ∧ (copyVictim i w s).cap = s.cap ∧ (copyVictim i w s).jobs = s.jobs ∧
    (copyVictim i w s).mfc = s.mfc ∧ (copyVictim i w s).homes = s.homes ∧ (copyVictim i w s).pcd = s.pcd ∧
    (copyVictim i w s).pnp = s.pnp ∧ (copyVictim i w s).srb = s.srb ∧ (copyVictim i w s).fxl = s.fxl ∧
    (copyVictim i w s).syp = s.syp ∧ (copyVictim i w s).mct = s.mct ∧ (copyVictim i w s).config = s.config ∧
    (copyVictim i w s).inbox = s.inbox ∧ (copyVictim i w s).book = s.book ∧ (copyVictim i w s).pending = s.pending := by
  refine ⟨?_, ?_, ?_, ?_, ?_, ?_, ?_, ?_, ?_, ?_, ?_, ?_, ?_, ?_, ?_⟩ <;>
    (unfold copyVictim; try dsimp only) <;> (repeat' split) <;> simp_all

@[simp] theorem giveWay_frame (i : Fin 16) (w : Fin 8) (t : TileNo) (st : EntryState) (s : State) :
    (giveWay i w t st s).boot = s.boot ∧ (giveWay i w t st s).cap = s.cap ∧ (giveWay i w t st s).jobs = s.jobs ∧
    (giveWay i w t st s).mfc = s.mfc ∧ (giveWay i w t st s).homes = s.homes ∧ (giveWay i w t st s).pcd = s.pcd ∧
    (giveWay i w t st s).pnp = s.pnp ∧ (giveWay i w t st s).srb = s.srb ∧ (giveWay i w t st s).fxl = s.fxl ∧
    (giveWay i w t st s).syp = s.syp ∧ (giveWay i w t st s).mct = s.mct ∧ (giveWay i w t st s).config = s.config ∧
    (giveWay i w t st s).inbox = s.inbox ∧ (giveWay i w t st s).book = s.book ∧
    (giveWay i w t st s).pending = s.pending := by
  refine ⟨?_, ?_, ?_, ?_, ?_, ?_, ?_, ?_, ?_, ?_, ?_, ?_, ?_, ?_, ?_⟩ <;>
    (unfold giveWay; try dsimp only) <;> (repeat' split) <;> simp_all

@[simp] theorem loseTile_frame (t : TileNo) (w : Fin 8) (s : State) :
    (loseTile t w s).boot = s.boot ∧ (loseTile t w s).cap = s.cap ∧ (loseTile t w s).jobs = s.jobs ∧
    (loseTile t w s).homes = s.homes ∧ (loseTile t w s).pnp = s.pnp ∧ (loseTile t w s).srb = s.srb ∧
    (loseTile t w s).fxl = s.fxl ∧ (loseTile t w s).mct = s.mct ∧ (loseTile t w s).config = s.config ∧
    (loseTile t w s).inbox = s.inbox ∧ (loseTile t w s).book = s.book ∧ (loseTile t w s).pending = s.pending := by
  refine ⟨?_, ?_, ?_, ?_, ?_, ?_, ?_, ?_, ?_, ?_, ?_, ?_⟩ <;>
    (unfold loseTile; try dsimp only) <;> (repeat' split) <;> simp_all

@[simp] theorem repairTile_frame (t : TileNo) (w : Fin 8) (s : State) :
    (repairTile t w s).boot = s.boot ∧ (repairTile t w s).cap = s.cap ∧ (repairTile t w s).jobs = s.jobs ∧
    (repairTile t w s).homes = s.homes ∧ (repairTile t w s).pcd = s.pcd ∧ (repairTile t w s).pnp = s.pnp ∧
    (repairTile t w s).srb = s.srb ∧ (repairTile t w s).fxl = s.fxl ∧ (repairTile t w s).mct = s.mct ∧
    (repairTile t w s).config = s.config ∧ (repairTile t w s).inbox = s.inbox ∧ (repairTile t w s).book = s.book ∧
    (repairTile t w s).pending = s.pending := by
  refine ⟨?_, ?_, ?_, ?_, ?_, ?_, ?_, ?_, ?_, ?_, ?_, ?_, ?_⟩ <;>
    (unfold repairTile; try dsimp only) <;> (repeat' split) <;> simp_all

@[simp] theorem readEntry_frame (t : TileNo) (w : Fin 8) (s : State) :
    (readEntry t w s).1.boot = s.boot ∧ (readEntry t w s).1.cap = s.cap ∧ (readEntry t w s).1.jobs = s.jobs ∧
    (readEntry t w s).1.homes = s.homes ∧ (readEntry t w s).1.pnp = s.pnp ∧ (readEntry t w s).1.srb = s.srb ∧
    (readEntry t w s).1.fxl = s.fxl ∧ (readEntry t w s).1.mct = s.mct ∧ (readEntry t w s).1.config = s.config ∧
    (readEntry t w s).1.inbox = s.inbox ∧ (readEntry t w s).1.book = s.book ∧ (readEntry t w s).1.pending = s.pending := by
  refine ⟨?_, ?_, ?_, ?_, ?_, ?_, ?_, ?_, ?_, ?_, ?_, ?_⟩ <;>
    (unfold readEntry; try dsimp only) <;> (repeat' split) <;> simp_all

@[simp] theorem readTileAt_frame (t : TileNo) (s : State) :
    (readTileAt t s).1.boot = s.boot ∧ (readTileAt t s).1.cap = s.cap ∧ (readTileAt t s).1.jobs = s.jobs ∧
    (readTileAt t s).1.homes = s.homes ∧ (readTileAt t s).1.pnp = s.pnp ∧ (readTileAt t s).1.srb = s.srb ∧
    (readTileAt t s).1.fxl = s.fxl ∧ (readTileAt t s).1.mct = s.mct ∧ (readTileAt t s).1.config = s.config ∧
    (readTileAt t s).1.inbox = s.inbox ∧ (readTileAt t s).1.book = s.book ∧ (readTileAt t s).1.pending = s.pending := by
  refine ⟨?_, ?_, ?_, ?_, ?_, ?_, ?_, ?_, ?_, ?_, ?_, ?_⟩ <;>
    (unfold readTileAt; try dsimp only) <;> (repeat' split) <;> simp_all

@[simp] theorem storeWhole_frame (t : TileNo) (w : Fin 8) (v : TileValues) (s : State) :
    (storeWhole t w v s).boot = s.boot ∧ (storeWhole t w v s).cap = s.cap ∧ (storeWhole t w v s).jobs = s.jobs ∧
    (storeWhole t w v s).homes = s.homes ∧ (storeWhole t w v s).pnp = s.pnp ∧ (storeWhole t w v s).srb = s.srb ∧
    (storeWhole t w v s).fxl = s.fxl ∧ (storeWhole t w v s).mct = s.mct ∧ (storeWhole t w v s).config = s.config ∧
    (storeWhole t w v s).inbox = s.inbox ∧ (storeWhole t w v s).book = s.book ∧
    (storeWhole t w v s).pending = s.pending := by
  refine ⟨?_, ?_, ?_, ?_, ?_, ?_, ?_, ?_, ?_, ?_, ?_, ?_⟩ <;>
    (unfold storeWhole; try dsimp only) <;> (repeat' split) <;> simp_all

@[simp] theorem writeTileAt_frame (t : TileNo) (v : TileValues) (s : State) :
    (writeTileAt t v s).1.boot = s.boot ∧ (writeTileAt t v s).1.cap = s.cap ∧ (writeTileAt t v s).1.jobs = s.jobs ∧
    (writeTileAt t v s).1.homes = s.homes ∧ (writeTileAt t v s).1.pnp = s.pnp ∧ (writeTileAt t v s).1.srb = s.srb ∧
    (writeTileAt t v s).1.fxl = s.fxl ∧ (writeTileAt t v s).1.mct = s.mct ∧ (writeTileAt t v s).1.config = s.config ∧
    (writeTileAt t v s).1.inbox = s.inbox ∧ (writeTileAt t v s).1.book = s.book ∧
    (writeTileAt t v s).1.pending = s.pending := by
  refine ⟨?_, ?_, ?_, ?_, ?_, ?_, ?_, ?_, ?_, ?_, ?_, ?_⟩ <;>
    (unfold writeTileAt; try dsimp only) <;> (repeat' split) <;> simp_all

@[simp] theorem wake_frame (on : TileNo → Bool) (f : OpPhase → OpPhase) (s : State) :
    (wake on f s).boot = s.boot ∧ (wake on f s).cap = s.cap ∧ (wake on f s).jobs = s.jobs ∧
    (wake on f s).mfc = s.mfc ∧ (wake on f s).homes = s.homes ∧ (wake on f s).pcd = s.pcd ∧
    (wake on f s).pnp = s.pnp ∧ (wake on f s).srb = s.srb ∧ (wake on f s).fxl = s.fxl ∧ (wake on f s).syp = s.syp ∧
    (wake on f s).mct = s.mct ∧ (wake on f s).config = s.config ∧ (wake on f s).inbox = s.inbox ∧
    (wake on f s).book = s.book ∧ (wake on f s).pending = s.pending := by
  refine ⟨?_, ?_, ?_, ?_, ?_, ?_, ?_, ?_, ?_, ?_, ?_, ?_, ?_, ?_, ?_⟩ <;>
    (unfold wake; try dsimp only) <;> (repeat' split) <;> simp_all

@[simp] theorem wakeWays_frame (s : State) :
    (wakeWays s).boot = s.boot ∧ (wakeWays s).cap = s.cap ∧ (wakeWays s).jobs = s.jobs ∧ (wakeWays s).mfc = s.mfc ∧
    (wakeWays s).homes = s.homes ∧ (wakeWays s).pcd = s.pcd ∧ (wakeWays s).pnp = s.pnp ∧ (wakeWays s).srb = s.srb ∧
    (wakeWays s).fxl = s.fxl ∧ (wakeWays s).syp = s.syp ∧ (wakeWays s).mct = s.mct ∧ (wakeWays s).config = s.config ∧
    (wakeWays s).inbox = s.inbox ∧ (wakeWays s).book = s.book ∧ (wakeWays s).pending = s.pending := by
  refine ⟨?_, ?_, ?_, ?_, ?_, ?_, ?_, ?_, ?_, ?_, ?_, ?_, ?_, ?_, ?_⟩ <;>
    (unfold wakeWays; try dsimp only) <;> (repeat' split) <;> simp_all

@[simp] theorem wakeQueue_frame (s : State) :
    (wakeQueue s).boot = s.boot ∧ (wakeQueue s).cap = s.cap ∧ (wakeQueue s).jobs = s.jobs ∧
    (wakeQueue s).mfc = s.mfc ∧ (wakeQueue s).homes = s.homes ∧ (wakeQueue s).pcd = s.pcd ∧
    (wakeQueue s).pnp = s.pnp ∧ (wakeQueue s).srb = s.srb ∧ (wakeQueue s).fxl = s.fxl ∧ (wakeQueue s).syp = s.syp ∧
    (wakeQueue s).mct = s.mct ∧ (wakeQueue s).config = s.config ∧ (wakeQueue s).inbox = s.inbox ∧
    (wakeQueue s).book = s.book ∧ (wakeQueue s).pending = s.pending := by
  refine ⟨?_, ?_, ?_, ?_, ?_, ?_, ?_, ?_, ?_, ?_, ?_, ?_, ?_, ?_, ?_⟩ <;>
    (unfold wakeQueue; try dsimp only) <;> (repeat' split) <;> simp_all

@[simp] theorem wakeInstall_frame (t : TileNo) (s : State) :
    (wakeInstall t s).boot = s.boot ∧ (wakeInstall t s).cap = s.cap ∧ (wakeInstall t s).jobs = s.jobs ∧
    (wakeInstall t s).mfc = s.mfc ∧ (wakeInstall t s).homes = s.homes ∧ (wakeInstall t s).pcd = s.pcd ∧
    (wakeInstall t s).pnp = s.pnp ∧ (wakeInstall t s).srb = s.srb ∧ (wakeInstall t s).fxl = s.fxl ∧
    (wakeInstall t s).syp = s.syp ∧ (wakeInstall t s).mct = s.mct ∧ (wakeInstall t s).config = s.config ∧
    (wakeInstall t s).inbox = s.inbox ∧ (wakeInstall t s).book = s.book ∧ (wakeInstall t s).pending = s.pending := by
  refine ⟨?_, ?_, ?_, ?_, ?_, ?_, ?_, ?_, ?_, ?_, ?_, ?_, ?_, ?_, ?_⟩ <;>
    (unfold wakeInstall; try dsimp only) <;> (repeat' split) <;> simp_all

@[simp] theorem grantOther_frame (s : State) :
    (grantOther s).boot = s.boot ∧ (grantOther s).cap = s.cap ∧ (grantOther s).jobs = s.jobs ∧
    (grantOther s).mfc = s.mfc ∧ (grantOther s).homes = s.homes ∧ (grantOther s).pcd = s.pcd ∧
    (grantOther s).pnp = s.pnp ∧ (grantOther s).srb = s.srb ∧ (grantOther s).fxl = s.fxl ∧
    (grantOther s).syp = s.syp ∧ (grantOther s).mct = s.mct ∧ (grantOther s).config = s.config ∧
    (grantOther s).inbox = s.inbox ∧ (grantOther s).book = s.book ∧ (grantOther s).pending = s.pending := by
  refine ⟨?_, ?_, ?_, ?_, ?_, ?_, ?_, ?_, ?_, ?_, ?_, ?_, ?_, ?_, ?_⟩ <;>
    (unfold grantOther; try dsimp only) <;> (repeat' split) <;> simp_all

@[simp] theorem grantJob_frame (s : State) :
    (grantJob s).boot = s.boot ∧ (grantJob s).cap = s.cap ∧ (grantJob s).jobs = s.jobs ∧ (grantJob s).mfc = s.mfc ∧
    (grantJob s).homes = s.homes ∧ (grantJob s).pcd = s.pcd ∧ (grantJob s).pnp = s.pnp ∧ (grantJob s).srb = s.srb ∧
    (grantJob s).fxl = s.fxl ∧ (grantJob s).syp = s.syp ∧ (grantJob s).mct = s.mct ∧ (grantJob s).config = s.config ∧
    (grantJob s).inbox = s.inbox ∧ (grantJob s).book = s.book ∧ (grantJob s).pending = s.pending := by
  refine ⟨?_, ?_, ?_, ?_, ?_, ?_, ?_, ?_, ?_, ?_, ?_, ?_, ?_, ?_, ?_⟩ <;>
    (unfold grantJob; try dsimp only) <;> (repeat' split) <;> simp_all

@[simp] theorem setJobOp_frame (p : Option OpPhase) (s : State) :
    (setJobOp p s).boot = s.boot ∧ (setJobOp p s).cap = s.cap ∧ (setJobOp p s).jobs = s.jobs ∧
    (setJobOp p s).mfc = s.mfc ∧ (setJobOp p s).homes = s.homes ∧ (setJobOp p s).pcd = s.pcd ∧
    (setJobOp p s).pnp = s.pnp ∧ (setJobOp p s).srb = s.srb ∧ (setJobOp p s).fxl = s.fxl ∧
    (setJobOp p s).syp = s.syp ∧ (setJobOp p s).mct = s.mct ∧ (setJobOp p s).config = s.config ∧
    (setJobOp p s).inbox = s.inbox ∧ (setJobOp p s).book = s.book ∧ (setJobOp p s).pending = s.pending := by
  refine ⟨?_, ?_, ?_, ?_, ?_, ?_, ?_, ?_, ?_, ?_, ?_, ?_, ?_, ?_, ?_⟩ <;>
    (unfold setJobOp; try dsimp only) <;> (repeat' split) <;> simp_all

@[simp] theorem setAccessPhase_frame (o : AccessOp) (p : OpPhase) (s : State) :
    (setAccessPhase o p s).boot = s.boot ∧ (setAccessPhase o p s).cap = s.cap ∧ (setAccessPhase o p s).jobs = s.jobs ∧
    (setAccessPhase o p s).mfc = s.mfc ∧ (setAccessPhase o p s).homes = s.homes ∧ (setAccessPhase o p s).pcd = s.pcd ∧
    (setAccessPhase o p s).pnp = s.pnp ∧ (setAccessPhase o p s).srb = s.srb ∧ (setAccessPhase o p s).fxl = s.fxl ∧
    (setAccessPhase o p s).syp = s.syp ∧ (setAccessPhase o p s).mct = s.mct ∧
    (setAccessPhase o p s).config = s.config ∧ (setAccessPhase o p s).inbox = s.inbox ∧
    (setAccessPhase o p s).book = s.book ∧ (setAccessPhase o p s).pending = s.pending := by
  refine ⟨?_, ?_, ?_, ?_, ?_, ?_, ?_, ?_, ?_, ?_, ?_, ?_, ?_, ?_, ?_⟩ <;>
    (unfold setAccessPhase; try dsimp only) <;> (repeat' split) <;> simp_all

@[simp] theorem dropAccess_frame (o : AccessOp) (s : State) :
    (dropAccess o s).boot = s.boot ∧ (dropAccess o s).cap = s.cap ∧ (dropAccess o s).jobs = s.jobs ∧
    (dropAccess o s).mfc = s.mfc ∧ (dropAccess o s).homes = s.homes ∧ (dropAccess o s).pcd = s.pcd ∧
    (dropAccess o s).pnp = s.pnp ∧ (dropAccess o s).srb = s.srb ∧ (dropAccess o s).fxl = s.fxl ∧
    (dropAccess o s).syp = s.syp ∧ (dropAccess o s).mct = s.mct ∧ (dropAccess o s).config = s.config ∧
    (dropAccess o s).inbox = s.inbox ∧ (dropAccess o s).book = s.book ∧ (dropAccess o s).pending = s.pending := by
  refine ⟨?_, ?_, ?_, ?_, ?_, ?_, ?_, ?_, ?_, ?_, ?_, ?_, ?_, ?_, ?_⟩ <;>
    (unfold dropAccess; try dsimp only) <;> (repeat' split) <;> simp_all

@[simp] theorem presentAccess_frame (req : Request) (t : TileNo) (k : AccessKind) (s : State) :
    (presentAccess req t k s).boot = s.boot ∧ (presentAccess req t k s).cap = s.cap ∧
    (presentAccess req t k s).jobs = s.jobs ∧ (presentAccess req t k s).mfc = s.mfc ∧
    (presentAccess req t k s).homes = s.homes ∧ (presentAccess req t k s).pcd = s.pcd ∧
    (presentAccess req t k s).pnp = s.pnp ∧ (presentAccess req t k s).srb = s.srb ∧
    (presentAccess req t k s).fxl = s.fxl ∧ (presentAccess req t k s).syp = s.syp ∧
    (presentAccess req t k s).mct = s.mct ∧ (presentAccess req t k s).config = s.config ∧
    (presentAccess req t k s).inbox = s.inbox ∧ (presentAccess req t k s).book = s.book ∧
    (presentAccess req t k s).pending = s.pending := by
  refine ⟨?_, ?_, ?_, ?_, ?_, ?_, ?_, ?_, ?_, ?_, ?_, ?_, ?_, ?_, ?_⟩ <;>
    (unfold presentAccess; try dsimp only) <;> (repeat' split) <;> simp_all

/-! ## Engine -/

@[simp] theorem setBox_frame (b : Fin 16) (x : Option Box) (s : State) :
    (setBox b x s).boot = s.boot ∧ (setBox b x s).cap = s.cap ∧ (setBox b x s).tlc = s.tlc ∧
    (setBox b x s).mfc = s.mfc ∧ (setBox b x s).homes = s.homes ∧ (setBox b x s).pcd = s.pcd ∧
    (setBox b x s).pnp = s.pnp ∧ (setBox b x s).srb = s.srb ∧ (setBox b x s).fxl = s.fxl ∧
    (setBox b x s).syp = s.syp ∧ (setBox b x s).mct = s.mct ∧ (setBox b x s).config = s.config ∧
    (setBox b x s).inbox = s.inbox ∧ (setBox b x s).book = s.book ∧ (setBox b x s).pending = s.pending := by
  refine ⟨?_, ?_, ?_, ?_, ?_, ?_, ?_, ?_, ?_, ?_, ?_, ?_, ?_, ?_, ?_⟩ <;>
    (unfold setBox; try dsimp only) <;> (repeat' split) <;> simp_all

@[simp] theorem setRunning_frame (r : Option Running) (s : State) :
    (setRunning r s).boot = s.boot ∧ (setRunning r s).cap = s.cap ∧ (setRunning r s).tlc = s.tlc ∧
    (setRunning r s).mfc = s.mfc ∧ (setRunning r s).homes = s.homes ∧ (setRunning r s).pcd = s.pcd ∧
    (setRunning r s).pnp = s.pnp ∧ (setRunning r s).srb = s.srb ∧ (setRunning r s).fxl = s.fxl ∧
    (setRunning r s).syp = s.syp ∧ (setRunning r s).mct = s.mct ∧ (setRunning r s).config = s.config ∧
    (setRunning r s).inbox = s.inbox ∧ (setRunning r s).book = s.book ∧ (setRunning r s).pending = s.pending := by
  refine ⟨?_, ?_, ?_, ?_, ?_, ?_, ?_, ?_, ?_, ?_, ?_, ?_, ?_, ?_, ?_⟩ <;>
    (unfold setRunning; try dsimp only) <;> (repeat' split) <;> simp_all

@[simp] theorem endBox_frame (b : Fin 16) (st : BoxState) (r : JobResult) (s : State) :
    (endBox b st r s).boot = s.boot ∧ (endBox b st r s).cap = s.cap ∧ (endBox b st r s).tlc = s.tlc ∧
    (endBox b st r s).mfc = s.mfc ∧ (endBox b st r s).homes = s.homes ∧ (endBox b st r s).pcd = s.pcd ∧
    (endBox b st r s).pnp = s.pnp ∧ (endBox b st r s).srb = s.srb ∧ (endBox b st r s).fxl = s.fxl ∧
    (endBox b st r s).mct = s.mct ∧ (endBox b st r s).config = s.config ∧ (endBox b st r s).inbox = s.inbox ∧
    (endBox b st r s).book = s.book ∧ (endBox b st r s).pending = s.pending := by
  refine ⟨?_, ?_, ?_, ?_, ?_, ?_, ?_, ?_, ?_, ?_, ?_, ?_, ?_, ?_⟩ <;>
    (unfold endBox; try dsimp only) <;> (repeat' split) <;> simp_all

@[simp] theorem endRunning_frame (b : Fin 16) (st : BoxState) (r : JobResult) (s : State) :
    (endRunning b st r s).boot = s.boot ∧ (endRunning b st r s).cap = s.cap ∧ (endRunning b st r s).mfc = s.mfc ∧
    (endRunning b st r s).homes = s.homes ∧ (endRunning b st r s).pcd = s.pcd ∧ (endRunning b st r s).pnp = s.pnp ∧
    (endRunning b st r s).srb = s.srb ∧ (endRunning b st r s).fxl = s.fxl ∧ (endRunning b st r s).mct = s.mct ∧
    (endRunning b st r s).config = s.config ∧ (endRunning b st r s).inbox = s.inbox ∧
    (endRunning b st r s).book = s.book ∧ (endRunning b st r s).pending = s.pending := by
  refine ⟨?_, ?_, ?_, ?_, ?_, ?_, ?_, ?_, ?_, ?_, ?_, ?_, ?_⟩ <;>
    (unfold endRunning; try dsimp only) <;> (repeat' split) <;> simp_all

@[simp] theorem consumeCapture_frame (s : State) :
    (consumeCapture s).boot = s.boot ∧ (consumeCapture s).jobs = s.jobs ∧ (consumeCapture s).tlc = s.tlc ∧
    (consumeCapture s).mfc = s.mfc ∧ (consumeCapture s).homes = s.homes ∧ (consumeCapture s).pcd = s.pcd ∧
    (consumeCapture s).pnp = s.pnp ∧ (consumeCapture s).srb = s.srb ∧ (consumeCapture s).fxl = s.fxl ∧
    (consumeCapture s).syp = s.syp ∧ (consumeCapture s).mct = s.mct ∧ (consumeCapture s).config = s.config ∧
    (consumeCapture s).inbox = s.inbox ∧ (consumeCapture s).book = s.book ∧ (consumeCapture s).pending = s.pending := by
  refine ⟨?_, ?_, ?_, ?_, ?_, ?_, ?_, ?_, ?_, ?_, ?_, ?_, ?_, ?_, ?_⟩ <;>
    (unfold consumeCapture; try dsimp only) <;> (repeat' split) <;> simp_all

@[simp] theorem endPassEarly_frame (b : Fin 16) (st : BoxState) (n : Nat) (s : State) :
    (endPassEarly b st n s).boot = s.boot ∧ (endPassEarly b st n s).mfc = s.mfc ∧
    (endPassEarly b st n s).homes = s.homes ∧ (endPassEarly b st n s).pcd = s.pcd ∧
    (endPassEarly b st n s).pnp = s.pnp ∧ (endPassEarly b st n s).srb = s.srb ∧ (endPassEarly b st n s).fxl = s.fxl ∧
    (endPassEarly b st n s).mct = s.mct ∧ (endPassEarly b st n s).config = s.config ∧
    (endPassEarly b st n s).inbox = s.inbox ∧ (endPassEarly b st n s).book = s.book ∧
    (endPassEarly b st n s).pending = s.pending := by
  refine ⟨?_, ?_, ?_, ?_, ?_, ?_, ?_, ?_, ?_, ?_, ?_, ?_⟩ <;>
    (unfold endPassEarly; try dsimp only) <;> (repeat' split) <;> simp_all

@[simp] theorem endClearEarly_frame (b : Fin 16) (st : BoxState) (n : Nat) (s : State) :
    (endClearEarly b st n s).boot = s.boot ∧ (endClearEarly b st n s).cap = s.cap ∧
    (endClearEarly b st n s).mfc = s.mfc ∧ (endClearEarly b st n s).homes = s.homes ∧
    (endClearEarly b st n s).pcd = s.pcd ∧ (endClearEarly b st n s).pnp = s.pnp ∧
    (endClearEarly b st n s).srb = s.srb ∧ (endClearEarly b st n s).fxl = s.fxl ∧
    (endClearEarly b st n s).mct = s.mct ∧ (endClearEarly b st n s).config = s.config ∧
    (endClearEarly b st n s).inbox = s.inbox ∧ (endClearEarly b st n s).book = s.book ∧
    (endClearEarly b st n s).pending = s.pending := by
  refine ⟨?_, ?_, ?_, ?_, ?_, ?_, ?_, ?_, ?_, ?_, ?_, ?_, ?_⟩ <;>
    (unfold endClearEarly; try dsimp only) <;> (repeat' split) <;> simp_all

@[simp] theorem setCommit_frame (b : Fin 16) (w : CommitWork) (s : State) :
    (setCommit b w s).boot = s.boot ∧ (setCommit b w s).cap = s.cap ∧ (setCommit b w s).tlc = s.tlc ∧
    (setCommit b w s).mfc = s.mfc ∧ (setCommit b w s).homes = s.homes ∧ (setCommit b w s).pcd = s.pcd ∧
    (setCommit b w s).pnp = s.pnp ∧ (setCommit b w s).srb = s.srb ∧ (setCommit b w s).fxl = s.fxl ∧
    (setCommit b w s).syp = s.syp ∧ (setCommit b w s).mct = s.mct ∧ (setCommit b w s).config = s.config ∧
    (setCommit b w s).inbox = s.inbox ∧ (setCommit b w s).book = s.book ∧ (setCommit b w s).pending = s.pending := by
  refine ⟨?_, ?_, ?_, ?_, ?_, ?_, ?_, ?_, ?_, ?_, ?_, ?_, ?_, ?_, ?_⟩ <;>
    (unfold setCommit; try dsimp only) <;> (repeat' split) <;> simp_all

@[simp] theorem failCommit_frame (b : Fin 16) (w : CommitWork) (r : Reason) (c : Option Bool) (s : State) :
    (failCommit b w r c s).boot = s.boot ∧ (failCommit b w r c s).cap = s.cap ∧
    (failCommit b w r c s).homes = s.homes ∧ (failCommit b w r c s).pcd = s.pcd ∧ (failCommit b w r c s).pnp = s.pnp ∧
    (failCommit b w r c s).srb = s.srb ∧ (failCommit b w r c s).fxl = s.fxl ∧ (failCommit b w r c s).mct = s.mct ∧
    (failCommit b w r c s).config = s.config ∧ (failCommit b w r c s).inbox = s.inbox ∧
    (failCommit b w r c s).book = s.book ∧ (failCommit b w r c s).pending = s.pending := by
  refine ⟨?_, ?_, ?_, ?_, ?_, ?_, ?_, ?_, ?_, ?_, ?_, ?_⟩ <;>
    (unfold failCommit; try dsimp only) <;> (repeat' split) <;> simp_all

@[simp] theorem countForCommit_frame (p q : Nat) (s : State) :
    (countForCommit p q s).boot = s.boot ∧ (countForCommit p q s).cap = s.cap ∧ (countForCommit p q s).tlc = s.tlc ∧
    (countForCommit p q s).mfc = s.mfc ∧ (countForCommit p q s).homes = s.homes ∧ (countForCommit p q s).pcd = s.pcd ∧
    (countForCommit p q s).pnp = s.pnp ∧ (countForCommit p q s).srb = s.srb ∧ (countForCommit p q s).fxl = s.fxl ∧
    (countForCommit p q s).syp = s.syp ∧ (countForCommit p q s).mct = s.mct ∧
    (countForCommit p q s).config = s.config ∧ (countForCommit p q s).inbox = s.inbox ∧
    (countForCommit p q s).book = s.book ∧ (countForCommit p q s).pending = s.pending := by
  refine ⟨?_, ?_, ?_, ?_, ?_, ?_, ?_, ?_, ?_, ?_, ?_, ?_, ?_, ?_, ?_⟩ <;>
    (unfold countForCommit; try dsimp only) <;> (repeat' split) <;> simp_all

@[simp] theorem dueDrains_frame (st : Status) (s : State) :
    (dueDrains st s).boot = s.boot ∧ (dueDrains st s).cap = s.cap ∧ (dueDrains st s).jobs = s.jobs ∧
    (dueDrains st s).mfc = s.mfc ∧ (dueDrains st s).homes = s.homes ∧ (dueDrains st s).pcd = s.pcd ∧
    (dueDrains st s).pnp = s.pnp ∧ (dueDrains st s).srb = s.srb ∧ (dueDrains st s).fxl = s.fxl ∧
    (dueDrains st s).syp = s.syp ∧ (dueDrains st s).mct = s.mct ∧ (dueDrains st s).config = s.config ∧
    (dueDrains st s).inbox = s.inbox ∧ (dueDrains st s).book = s.book ∧ (dueDrains st s).pending = s.pending := by
  refine ⟨?_, ?_, ?_, ?_, ?_, ?_, ?_, ?_, ?_, ?_, ?_, ?_, ?_, ?_, ?_⟩ <;>
    (unfold dueDrains; try dsimp only) <;> (repeat' split) <;> simp_all

@[simp] theorem commitMoment_frame (s : State) :
    (commitMoment s).boot = s.boot ∧ (commitMoment s).cap = s.cap ∧ (commitMoment s).tlc = s.tlc ∧
    (commitMoment s).mfc = s.mfc ∧ (commitMoment s).homes = s.homes ∧ (commitMoment s).pcd = s.pcd ∧
    (commitMoment s).pnp = s.pnp ∧ (commitMoment s).srb = s.srb ∧ (commitMoment s).fxl = s.fxl ∧
    (commitMoment s).syp = s.syp ∧ (commitMoment s).mct = s.mct ∧ (commitMoment s).config = s.config ∧
    (commitMoment s).inbox = s.inbox ∧ (commitMoment s).book = s.book ∧ (commitMoment s).pending = s.pending := by
  refine ⟨?_, ?_, ?_, ?_, ?_, ?_, ?_, ?_, ?_, ?_, ?_, ?_, ?_, ?_, ?_⟩ <;>
    (unfold commitMoment; try dsimp only) <;> (repeat' split) <;> simp_all

@[simp] theorem testDrains_frame (s : State) :
    (testDrains s).boot = s.boot ∧ (testDrains s).cap = s.cap ∧ (testDrains s).mfc = s.mfc ∧
    (testDrains s).homes = s.homes ∧ (testDrains s).pcd = s.pcd ∧ (testDrains s).pnp = s.pnp ∧
    (testDrains s).srb = s.srb ∧ (testDrains s).fxl = s.fxl ∧ (testDrains s).syp = s.syp ∧
    (testDrains s).mct = s.mct ∧ (testDrains s).config = s.config ∧ (testDrains s).inbox = s.inbox ∧
    (testDrains s).book = s.book ∧ (testDrains s).pending = s.pending := by
  refine ⟨?_, ?_, ?_, ?_, ?_, ?_, ?_, ?_, ?_, ?_, ?_, ?_, ?_, ?_⟩ <;>
    (unfold testDrains; try dsimp only) <;> (repeat' split) <;> simp_all

@[simp] theorem setFlash_frame (f : FlashState) (s : State) :
    (setFlash f s).boot = s.boot ∧ (setFlash f s).cap = s.cap ∧ (setFlash f s).jobs = s.jobs ∧
    (setFlash f s).tlc = s.tlc ∧ (setFlash f s).homes = s.homes ∧ (setFlash f s).pcd = s.pcd ∧
    (setFlash f s).pnp = s.pnp ∧ (setFlash f s).srb = s.srb ∧ (setFlash f s).fxl = s.fxl ∧
    (setFlash f s).syp = s.syp ∧ (setFlash f s).mct = s.mct ∧ (setFlash f s).config = s.config ∧
    (setFlash f s).inbox = s.inbox ∧ (setFlash f s).book = s.book ∧ (setFlash f s).pending = s.pending := by
  refine ⟨?_, ?_, ?_, ?_, ?_, ?_, ?_, ?_, ?_, ?_, ?_, ?_, ?_, ?_, ?_⟩ <;>
    (unfold setFlash; try dsimp only) <;> (repeat' split) <;> simp_all

@[simp] theorem startProgram_frame (j : FlashJob) (s : State) :
    (startProgram j s).boot = s.boot ∧ (startProgram j s).cap = s.cap ∧ (startProgram j s).jobs = s.jobs ∧
    (startProgram j s).tlc = s.tlc ∧ (startProgram j s).homes = s.homes ∧ (startProgram j s).pcd = s.pcd ∧
    (startProgram j s).pnp = s.pnp ∧ (startProgram j s).srb = s.srb ∧ (startProgram j s).fxl = s.fxl ∧
    (startProgram j s).syp = s.syp ∧ (startProgram j s).mct = s.mct ∧ (startProgram j s).config = s.config ∧
    (startProgram j s).inbox = s.inbox ∧ (startProgram j s).book = s.book ∧ (startProgram j s).pending = s.pending := by
  refine ⟨?_, ?_, ?_, ?_, ?_, ?_, ?_, ?_, ?_, ?_, ?_, ?_, ?_, ?_, ?_⟩ <;>
    (unfold startProgram; try dsimp only) <;> (repeat' split) <;> simp_all

@[simp] theorem programDone_frame (s : State) :
    (programDone s).boot = s.boot ∧ (programDone s).cap = s.cap ∧ (programDone s).homes = s.homes ∧
    (programDone s).pcd = s.pcd ∧ (programDone s).pnp = s.pnp ∧ (programDone s).srb = s.srb ∧
    (programDone s).fxl = s.fxl ∧ (programDone s).syp = s.syp ∧ (programDone s).mct = s.mct ∧
    (programDone s).config = s.config ∧ (programDone s).inbox = s.inbox ∧ (programDone s).book = s.book ∧
    (programDone s).pending = s.pending := by
  refine ⟨?_, ?_, ?_, ?_, ?_, ?_, ?_, ?_, ?_, ?_, ?_, ?_, ?_⟩ <;>
    (unfold programDone; try dsimp only) <;> (repeat' split) <;> simp_all

@[simp] theorem presentProgram_frame (p : RecordProgram) (s : State) :
    (presentProgram p s).boot = s.boot ∧ (presentProgram p s).cap = s.cap ∧ (presentProgram p s).jobs = s.jobs ∧
    (presentProgram p s).tlc = s.tlc ∧ (presentProgram p s).homes = s.homes ∧ (presentProgram p s).pcd = s.pcd ∧
    (presentProgram p s).pnp = s.pnp ∧ (presentProgram p s).srb = s.srb ∧ (presentProgram p s).fxl = s.fxl ∧
    (presentProgram p s).syp = s.syp ∧ (presentProgram p s).mct = s.mct ∧ (presentProgram p s).config = s.config ∧
    (presentProgram p s).inbox = s.inbox ∧ (presentProgram p s).book = s.book ∧
    (presentProgram p s).pending = s.pending := by
  refine ⟨?_, ?_, ?_, ?_, ?_, ?_, ?_, ?_, ?_, ?_, ?_, ?_, ?_, ?_, ?_⟩ <;>
    (unfold presentProgram; try dsimp only) <;> (repeat' split) <;> simp_all

@[simp] theorem setHeaderHome_frame (h : Home HeaderRecord) (s : State) :
    (setHeaderHome h s).boot = s.boot ∧ (setHeaderHome h s).cap = s.cap ∧ (setHeaderHome h s).jobs = s.jobs ∧
    (setHeaderHome h s).tlc = s.tlc ∧ (setHeaderHome h s).mfc = s.mfc ∧ (setHeaderHome h s).pcd = s.pcd ∧
    (setHeaderHome h s).pnp = s.pnp ∧ (setHeaderHome h s).srb = s.srb ∧ (setHeaderHome h s).fxl = s.fxl ∧
    (setHeaderHome h s).syp = s.syp ∧ (setHeaderHome h s).mct = s.mct ∧ (setHeaderHome h s).config = s.config ∧
    (setHeaderHome h s).inbox = s.inbox ∧ (setHeaderHome h s).book = s.book ∧ (setHeaderHome h s).pending = s.pending := by
  refine ⟨?_, ?_, ?_, ?_, ?_, ?_, ?_, ?_, ?_, ?_, ?_, ?_, ?_, ?_, ?_⟩ <;>
    (unfold setHeaderHome; try dsimp only) <;> (repeat' split) <;> simp_all

@[simp] theorem setTileHome_frame (t : TileNo) (w : TileHome) (h : Home TileRecord) (s : State) :
    (setTileHome t w h s).boot = s.boot ∧ (setTileHome t w h s).cap = s.cap ∧ (setTileHome t w h s).jobs = s.jobs ∧
    (setTileHome t w h s).tlc = s.tlc ∧ (setTileHome t w h s).mfc = s.mfc ∧ (setTileHome t w h s).pcd = s.pcd ∧
    (setTileHome t w h s).pnp = s.pnp ∧ (setTileHome t w h s).srb = s.srb ∧ (setTileHome t w h s).fxl = s.fxl ∧
    (setTileHome t w h s).syp = s.syp ∧ (setTileHome t w h s).mct = s.mct ∧ (setTileHome t w h s).config = s.config ∧
    (setTileHome t w h s).inbox = s.inbox ∧ (setTileHome t w h s).book = s.book ∧
    (setTileHome t w h s).pending = s.pending := by
  refine ⟨?_, ?_, ?_, ?_, ?_, ?_, ?_, ?_, ?_, ?_, ?_, ?_, ?_, ?_, ?_⟩ <;>
    (unfold setTileHome; try dsimp only) <;> (repeat' split) <;> simp_all

@[simp] theorem setSpare_frame (k : Fin 24) (x : SpareState) (s : State) :
    (setSpare k x s).boot = s.boot ∧ (setSpare k x s).cap = s.cap ∧ (setSpare k x s).jobs = s.jobs ∧
    (setSpare k x s).tlc = s.tlc ∧ (setSpare k x s).homes = s.homes ∧ (setSpare k x s).pcd = s.pcd ∧
    (setSpare k x s).pnp = s.pnp ∧ (setSpare k x s).srb = s.srb ∧ (setSpare k x s).fxl = s.fxl ∧
    (setSpare k x s).syp = s.syp ∧ (setSpare k x s).mct = s.mct ∧ (setSpare k x s).config = s.config ∧
    (setSpare k x s).inbox = s.inbox ∧ (setSpare k x s).book = s.book ∧ (setSpare k x s).pending = s.pending := by
  refine ⟨?_, ?_, ?_, ?_, ?_, ?_, ?_, ?_, ?_, ?_, ?_, ?_, ?_, ?_, ?_⟩ <;>
    (unfold setSpare; try dsimp only) <;> (repeat' split) <;> simp_all

@[simp] theorem withdrawHeader_frame (s : State) :
    (withdrawHeader s).boot = s.boot ∧ (withdrawHeader s).cap = s.cap ∧ (withdrawHeader s).jobs = s.jobs ∧
    (withdrawHeader s).tlc = s.tlc ∧ (withdrawHeader s).homes = s.homes ∧ (withdrawHeader s).pcd = s.pcd ∧
    (withdrawHeader s).pnp = s.pnp ∧ (withdrawHeader s).srb = s.srb ∧ (withdrawHeader s).fxl = s.fxl ∧
    (withdrawHeader s).syp = s.syp ∧ (withdrawHeader s).mct = s.mct ∧ (withdrawHeader s).config = s.config ∧
    (withdrawHeader s).inbox = s.inbox ∧ (withdrawHeader s).book = s.book ∧
    (withdrawHeader s).pending = s.pending := by
  refine ⟨?_, ?_, ?_, ?_, ?_, ?_, ?_, ?_, ?_, ?_, ?_, ?_, ?_, ?_, ?_⟩ <;> rfl

@[simp] theorem wornCommit_frame (s : State) :
    (wornCommit s).boot = s.boot ∧ (wornCommit s).cap = s.cap ∧ (wornCommit s).homes = s.homes ∧
    (wornCommit s).pcd = s.pcd ∧ (wornCommit s).pnp = s.pnp ∧ (wornCommit s).srb = s.srb ∧
    (wornCommit s).fxl = s.fxl ∧ (wornCommit s).mct = s.mct ∧ (wornCommit s).config = s.config ∧
    (wornCommit s).inbox = s.inbox ∧ (wornCommit s).book = s.book ∧ (wornCommit s).pending = s.pending := by
  refine ⟨?_, ?_, ?_, ?_, ?_, ?_, ?_, ?_, ?_, ?_, ?_, ?_⟩ <;>
    (unfold wornCommit; try dsimp only) <;> (repeat' split) <;> simp_all

@[simp] theorem enterWorn_frame (s : State) :
    (enterWorn s).boot = s.boot ∧ (enterWorn s).cap = s.cap ∧ (enterWorn s).homes = s.homes ∧
    (enterWorn s).pcd = s.pcd ∧ (enterWorn s).pnp = s.pnp ∧ (enterWorn s).srb = s.srb ∧ (enterWorn s).fxl = s.fxl ∧
    (enterWorn s).mct = s.mct ∧ (enterWorn s).config = s.config ∧ (enterWorn s).inbox = s.inbox ∧
    (enterWorn s).book = s.book ∧ (enterWorn s).pending = s.pending := by
  refine ⟨?_, ?_, ?_, ?_, ?_, ?_, ?_, ?_, ?_, ?_, ?_, ?_⟩ <;>
    (unfold enterWorn; try dsimp only) <;> (repeat' split) <;> simp_all

/-! ## Tiles -/

@[simp] theorem noteWrite_frame (s : State) :
    (noteWrite s).boot = s.boot ∧ (noteWrite s).cap = s.cap ∧ (noteWrite s).tlc = s.tlc ∧
    (noteWrite s).homes = s.homes ∧ (noteWrite s).pcd = s.pcd ∧ (noteWrite s).pnp = s.pnp ∧
    (noteWrite s).srb = s.srb ∧ (noteWrite s).fxl = s.fxl ∧ (noteWrite s).syp = s.syp ∧ (noteWrite s).mct = s.mct ∧
    (noteWrite s).config = s.config ∧ (noteWrite s).inbox = s.inbox ∧ (noteWrite s).book = s.book ∧
    (noteWrite s).pending = s.pending := by
  refine ⟨?_, ?_, ?_, ?_, ?_, ?_, ?_, ?_, ?_, ?_, ?_, ?_, ?_, ?_⟩ <;>
    (unfold noteWrite; try dsimp only) <;> (repeat' split) <;> simp_all

@[simp] theorem installFill_frame (t : TileNo) (w : Fin 8) (r : FillResult) (s : State) :
    (installFill t w r s).boot = s.boot ∧ (installFill t w r s).cap = s.cap ∧ (installFill t w r s).jobs = s.jobs ∧
    (installFill t w r s).homes = s.homes ∧ (installFill t w r s).pnp = s.pnp ∧ (installFill t w r s).srb = s.srb ∧
    (installFill t w r s).fxl = s.fxl ∧ (installFill t w r s).mct = s.mct ∧ (installFill t w r s).config = s.config ∧
    (installFill t w r s).inbox = s.inbox ∧ (installFill t w r s).book = s.book ∧
    (installFill t w r s).pending = s.pending := by
  refine ⟨?_, ?_, ?_, ?_, ?_, ?_, ?_, ?_, ?_, ?_, ?_, ?_⟩ <;>
    (unfold installFill; try dsimp only) <;> (repeat' split) <;> simp_all

@[simp] theorem installHead_frame (f : Fill) (rest : List Fill) (s : State) :
    (installHead f rest s).boot = s.boot ∧ (installHead f rest s).cap = s.cap ∧ (installHead f rest s).jobs = s.jobs ∧
    (installHead f rest s).homes = s.homes ∧ (installHead f rest s).pnp = s.pnp ∧ (installHead f rest s).srb = s.srb ∧
    (installHead f rest s).fxl = s.fxl ∧ (installHead f rest s).mct = s.mct ∧
    (installHead f rest s).config = s.config ∧ (installHead f rest s).inbox = s.inbox ∧
    (installHead f rest s).book = s.book ∧ (installHead f rest s).pending = s.pending := by
  refine ⟨?_, ?_, ?_, ?_, ?_, ?_, ?_, ?_, ?_, ?_, ?_, ?_⟩ <;>
    (unfold installHead; try dsimp only) <;> (repeat' split) <;> simp_all

/-! ## Panel -/

@[simp] theorem presentSnapshot_frame (s : State) :
    (presentSnapshot s).boot = s.boot ∧ (presentSnapshot s).cap = s.cap ∧ (presentSnapshot s).jobs = s.jobs ∧
    (presentSnapshot s).mfc = s.mfc ∧ (presentSnapshot s).homes = s.homes ∧ (presentSnapshot s).pcd = s.pcd ∧
    (presentSnapshot s).pnp = s.pnp ∧ (presentSnapshot s).srb = s.srb ∧ (presentSnapshot s).fxl = s.fxl ∧
    (presentSnapshot s).syp = s.syp ∧ (presentSnapshot s).mct = s.mct ∧ (presentSnapshot s).config = s.config ∧
    (presentSnapshot s).inbox = s.inbox ∧ (presentSnapshot s).book = s.book ∧ (presentSnapshot s).pending = s.pending := by
  refine ⟨?_, ?_, ?_, ?_, ?_, ?_, ?_, ?_, ?_, ?_, ?_, ?_, ?_, ?_, ?_⟩ <;>
    (unfold presentSnapshot; try dsimp only) <;> (repeat' split) <;> simp_all

@[simp] theorem awaitTiles_frame (ts : List TileNo) (s : State) :
    (awaitTiles ts s).boot = s.boot ∧ (awaitTiles ts s).cap = s.cap ∧ (awaitTiles ts s).jobs = s.jobs ∧
    (awaitTiles ts s).tlc = s.tlc ∧ (awaitTiles ts s).mfc = s.mfc ∧ (awaitTiles ts s).homes = s.homes ∧
    (awaitTiles ts s).pnp = s.pnp ∧ (awaitTiles ts s).srb = s.srb ∧ (awaitTiles ts s).fxl = s.fxl ∧
    (awaitTiles ts s).syp = s.syp ∧ (awaitTiles ts s).mct = s.mct ∧ (awaitTiles ts s).config = s.config ∧
    (awaitTiles ts s).inbox = s.inbox ∧ (awaitTiles ts s).book = s.book ∧ (awaitTiles ts s).pending = s.pending := by
  refine ⟨?_, ?_, ?_, ?_, ?_, ?_, ?_, ?_, ?_, ?_, ?_, ?_, ?_, ?_, ?_⟩ <;>
    (unfold awaitTiles; try dsimp only) <;> (repeat' split) <;> simp_all

@[simp] theorem setPanelOp_frame (o : Option PanelOp) (s : State) :
    (setPanelOp o s).boot = s.boot ∧ (setPanelOp o s).cap = s.cap ∧ (setPanelOp o s).jobs = s.jobs ∧
    (setPanelOp o s).mfc = s.mfc ∧ (setPanelOp o s).homes = s.homes ∧ (setPanelOp o s).pcd = s.pcd ∧
    (setPanelOp o s).pnp = s.pnp ∧ (setPanelOp o s).srb = s.srb ∧ (setPanelOp o s).fxl = s.fxl ∧
    (setPanelOp o s).syp = s.syp ∧ (setPanelOp o s).mct = s.mct ∧ (setPanelOp o s).config = s.config ∧
    (setPanelOp o s).inbox = s.inbox ∧ (setPanelOp o s).book = s.book ∧ (setPanelOp o s).pending = s.pending := by
  refine ⟨?_, ?_, ?_, ?_, ?_, ?_, ?_, ?_, ?_, ?_, ?_, ?_, ?_, ?_, ?_⟩ <;>
    (unfold setPanelOp; try dsimp only) <;> (repeat' split) <;> simp_all

@[simp] theorem leaveWaiting_frame (t : TileNo) (d : DirState) (s : State) :
    (leaveWaiting t d s).boot = s.boot ∧ (leaveWaiting t d s).cap = s.cap ∧ (leaveWaiting t d s).jobs = s.jobs ∧
    (leaveWaiting t d s).tlc = s.tlc ∧ (leaveWaiting t d s).mfc = s.mfc ∧ (leaveWaiting t d s).homes = s.homes ∧
    (leaveWaiting t d s).pnp = s.pnp ∧ (leaveWaiting t d s).srb = s.srb ∧ (leaveWaiting t d s).fxl = s.fxl ∧
    (leaveWaiting t d s).syp = s.syp ∧ (leaveWaiting t d s).mct = s.mct ∧ (leaveWaiting t d s).config = s.config ∧
    (leaveWaiting t d s).inbox = s.inbox ∧ (leaveWaiting t d s).book = s.book ∧
    (leaveWaiting t d s).pending = s.pending := by
  refine ⟨?_, ?_, ?_, ?_, ?_, ?_, ?_, ?_, ?_, ?_, ?_, ?_, ?_, ?_, ?_⟩ <;>
    (unfold leaveWaiting; try dsimp only) <;> (repeat' split) <;> simp_all

@[simp] theorem snapshotPoint_frame (o : PanelOp) (x : RunTile) (d : DirState) (s : State) :
    (snapshotPoint o x d s).boot = s.boot ∧ (snapshotPoint o x d s).cap = s.cap ∧
    (snapshotPoint o x d s).jobs = s.jobs ∧ (snapshotPoint o x d s).mfc = s.mfc ∧
    (snapshotPoint o x d s).homes = s.homes ∧ (snapshotPoint o x d s).srb = s.srb ∧
    (snapshotPoint o x d s).config = s.config ∧ (snapshotPoint o x d s).inbox = s.inbox ∧
    (snapshotPoint o x d s).book = s.book ∧ (snapshotPoint o x d s).pending = s.pending := by
  refine ⟨?_, ?_, ?_, ?_, ?_, ?_, ?_, ?_, ?_, ?_⟩ <;>
    (unfold snapshotPoint; try dsimp only) <;> (repeat' split) <;> simp_all

@[simp] theorem resetPanelSide_frame (req : Request) (s : State) :
    (resetPanelSide req s).boot = s.boot ∧ (resetPanelSide req s).cap = s.cap ∧ (resetPanelSide req s).jobs = s.jobs ∧
    (resetPanelSide req s).mfc = s.mfc ∧ (resetPanelSide req s).homes = s.homes ∧ (resetPanelSide req s).srb = s.srb ∧
    (resetPanelSide req s).fxl = s.fxl ∧ (resetPanelSide req s).syp = s.syp ∧ (resetPanelSide req s).mct = s.mct ∧
    (resetPanelSide req s).config = s.config ∧ (resetPanelSide req s).book = s.book ∧
    (resetPanelSide req s).pending = s.pending := by
  refine ⟨?_, ?_, ?_, ?_, ?_, ?_, ?_, ?_, ?_, ?_, ?_, ?_⟩ <;>
    (unfold resetPanelSide; try dsimp only) <;> (repeat' split) <;> simp_all

/-! ## Ports -/

@[simp] theorem takeRequest_frame (m : Master) (k t : Byte) (b : List Byte) (s : State) :
    (takeRequest m k t b s).boot = s.boot ∧ (takeRequest m k t b s).cap = s.cap ∧
    (takeRequest m k t b s).jobs = s.jobs ∧ (takeRequest m k t b s).tlc = s.tlc ∧
    (takeRequest m k t b s).mfc = s.mfc ∧ (takeRequest m k t b s).homes = s.homes ∧
    (takeRequest m k t b s).pcd = s.pcd ∧ (takeRequest m k t b s).srb = s.srb ∧
    (takeRequest m k t b s).config = s.config ∧ (takeRequest m k t b s).pending = s.pending := by
  refine ⟨?_, ?_, ?_, ?_, ?_, ?_, ?_, ?_, ?_, ?_⟩ <;>
    (unfold takeRequest; try dsimp only) <;> (repeat' split) <;> simp_all

@[simp] theorem panelOut_frame (o : SpiOut) (s : State) :
    (panelOut o s).boot = s.boot ∧ (panelOut o s).cap = s.cap ∧ (panelOut o s).jobs = s.jobs ∧
    (panelOut o s).tlc = s.tlc ∧ (panelOut o s).mfc = s.mfc ∧ (panelOut o s).homes = s.homes ∧
    (panelOut o s).pcd = s.pcd ∧ (panelOut o s).srb = s.srb ∧ (panelOut o s).fxl = s.fxl ∧
    (panelOut o s).syp = s.syp ∧ (panelOut o s).mct = s.mct ∧ (panelOut o s).config = s.config ∧
    (panelOut o s).inbox = s.inbox ∧ (panelOut o s).book = s.book ∧ (panelOut o s).pending = s.pending := by
  refine ⟨?_, ?_, ?_, ?_, ?_, ?_, ?_, ?_, ?_, ?_, ?_, ?_, ?_, ?_, ?_⟩ <;>
    (unfold panelOut; try dsimp only) <;> (repeat' split) <;> simp_all

@[simp] theorem systemOut_frame (o : SpiOut) (s : State) :
    (systemOut o s).boot = s.boot ∧ (systemOut o s).cap = s.cap ∧ (systemOut o s).jobs = s.jobs ∧
    (systemOut o s).tlc = s.tlc ∧ (systemOut o s).mfc = s.mfc ∧ (systemOut o s).homes = s.homes ∧
    (systemOut o s).pcd = s.pcd ∧ (systemOut o s).pnp = s.pnp ∧ (systemOut o s).srb = s.srb ∧
    (systemOut o s).fxl = s.fxl ∧ (systemOut o s).mct = s.mct ∧ (systemOut o s).config = s.config ∧
    (systemOut o s).inbox = s.inbox ∧ (systemOut o s).book = s.book ∧ (systemOut o s).pending = s.pending := by
  refine ⟨?_, ?_, ?_, ?_, ?_, ?_, ?_, ?_, ?_, ?_, ?_, ?_, ?_, ?_, ?_⟩ <;>
    (unfold systemOut; try dsimp only) <;> (repeat' split) <;> simp_all

@[simp] theorem panelHello_frame (req : Request) (s : State) :
    (panelHello req s).boot = s.boot ∧ (panelHello req s).cap = s.cap ∧ (panelHello req s).jobs = s.jobs ∧
    (panelHello req s).mfc = s.mfc ∧ (panelHello req s).homes = s.homes ∧ (panelHello req s).srb = s.srb ∧
    (panelHello req s).config = s.config ∧ (panelHello req s).book = s.book ∧
    (panelHello req s).pending = s.pending := by
  refine ⟨?_, ?_, ?_, ?_, ?_, ?_, ?_, ?_, ?_⟩ <;>
    (unfold panelHello; try dsimp only) <;> (repeat' split) <;> simp_all

@[simp] theorem takeHello_frame (t : Byte) (b : List Byte) (s : State) :
    (takeHello t b s).boot = s.boot ∧ (takeHello t b s).cap = s.cap ∧ (takeHello t b s).jobs = s.jobs ∧
    (takeHello t b s).mfc = s.mfc ∧ (takeHello t b s).homes = s.homes ∧ (takeHello t b s).srb = s.srb ∧
    (takeHello t b s).config = s.config ∧ (takeHello t b s).pending = s.pending := by
  refine ⟨?_, ?_, ?_, ?_, ?_, ?_, ?_, ?_⟩ <;>
    (unfold takeHello; try dsimp only) <;> (repeat' split) <;> simp_all

@[simp] theorem panelRecord_frame (k t : Byte) (b : List Byte) (s : State) :
    (panelRecord k t b s).boot = s.boot ∧ (panelRecord k t b s).cap = s.cap ∧ (panelRecord k t b s).jobs = s.jobs ∧
    (panelRecord k t b s).mfc = s.mfc ∧ (panelRecord k t b s).homes = s.homes ∧ (panelRecord k t b s).srb = s.srb ∧
    (panelRecord k t b s).config = s.config ∧ (panelRecord k t b s).pending = s.pending := by
  refine ⟨?_, ?_, ?_, ?_, ?_, ?_, ?_, ?_⟩ <;>
    (unfold panelRecord; try dsimp only) <;> (repeat' split) <;> simp_all

@[simp] theorem systemRecord_frame (k t : Byte) (b : List Byte) (s : State) :
    (systemRecord k t b s).boot = s.boot ∧ (systemRecord k t b s).cap = s.cap ∧ (systemRecord k t b s).jobs = s.jobs ∧
    (systemRecord k t b s).tlc = s.tlc ∧ (systemRecord k t b s).mfc = s.mfc ∧ (systemRecord k t b s).homes = s.homes ∧
    (systemRecord k t b s).pcd = s.pcd ∧ (systemRecord k t b s).srb = s.srb ∧
    (systemRecord k t b s).config = s.config ∧ (systemRecord k t b s).pending = s.pending := by
  refine ⟨?_, ?_, ?_, ?_, ?_, ?_, ?_, ?_, ?_, ?_⟩ <;>
    (unfold systemRecord; try dsimp only) <;> (repeat' split) <;> simp_all

@[simp] theorem deliverTile_frame (x : RunTile) (s : State) :
    (deliverTile x s).boot = s.boot ∧ (deliverTile x s).cap = s.cap ∧ (deliverTile x s).jobs = s.jobs ∧
    (deliverTile x s).tlc = s.tlc ∧ (deliverTile x s).mfc = s.mfc ∧ (deliverTile x s).homes = s.homes ∧
    (deliverTile x s).pnp = s.pnp ∧ (deliverTile x s).srb = s.srb ∧ (deliverTile x s).fxl = s.fxl ∧
    (deliverTile x s).mct = s.mct ∧ (deliverTile x s).config = s.config ∧ (deliverTile x s).inbox = s.inbox ∧
    (deliverTile x s).book = s.book ∧ (deliverTile x s).pending = s.pending := by
  refine ⟨?_, ?_, ?_, ?_, ?_, ?_, ?_, ?_, ?_, ?_, ?_, ?_, ?_, ?_⟩ <;>
    (unfold deliverTile; try dsimp only) <;> (repeat' split) <;> simp_all

/-! ## System -/

@[simp] theorem resumeLink_frame (s : State) :
    (resumeLink s).boot = s.boot ∧ (resumeLink s).cap = s.cap ∧ (resumeLink s).jobs = s.jobs ∧
    (resumeLink s).tlc = s.tlc ∧ (resumeLink s).mfc = s.mfc ∧ (resumeLink s).homes = s.homes ∧
    (resumeLink s).pcd = s.pcd ∧ (resumeLink s).pnp = s.pnp ∧ (resumeLink s).srb = s.srb ∧
    (resumeLink s).mct = s.mct ∧ (resumeLink s).config = s.config ∧ (resumeLink s).inbox = s.inbox ∧
    (resumeLink s).book = s.book ∧ (resumeLink s).pending = s.pending := by
  refine ⟨?_, ?_, ?_, ?_, ?_, ?_, ?_, ?_, ?_, ?_, ?_, ?_, ?_, ?_⟩ <;>
    (unfold resumeLink; try dsimp only) <;> (repeat' split) <;> simp_all

/-! ## Link -/

@[simp] theorem raiseIf_frame (e : Option Event) (s : State) :
    (raiseIf e s).boot = s.boot ∧ (raiseIf e s).cap = s.cap ∧ (raiseIf e s).jobs = s.jobs ∧
    (raiseIf e s).tlc = s.tlc ∧ (raiseIf e s).mfc = s.mfc ∧ (raiseIf e s).homes = s.homes ∧
    (raiseIf e s).pcd = s.pcd ∧ (raiseIf e s).pnp = s.pnp ∧ (raiseIf e s).srb = s.srb ∧ (raiseIf e s).fxl = s.fxl ∧
    (raiseIf e s).mct = s.mct ∧ (raiseIf e s).config = s.config ∧ (raiseIf e s).inbox = s.inbox ∧
    (raiseIf e s).book = s.book ∧ (raiseIf e s).pending = s.pending := by
  refine ⟨?_, ?_, ?_, ?_, ?_, ?_, ?_, ?_, ?_, ?_, ?_, ?_, ?_, ?_, ?_⟩ <;>
    (unfold raiseIf; try dsimp only) <;> (repeat' split) <;> simp_all

@[simp] theorem setLec_frame (n : Nat) (s : State) :
    (setLec n s).boot = s.boot ∧ (setLec n s).cap = s.cap ∧ (setLec n s).jobs = s.jobs ∧ (setLec n s).tlc = s.tlc ∧
    (setLec n s).mfc = s.mfc ∧ (setLec n s).homes = s.homes ∧ (setLec n s).pcd = s.pcd ∧ (setLec n s).pnp = s.pnp ∧
    (setLec n s).srb = s.srb ∧ (setLec n s).mct = s.mct ∧ (setLec n s).config = s.config ∧
    (setLec n s).inbox = s.inbox ∧ (setLec n s).book = s.book ∧ (setLec n s).pending = s.pending := by
  refine ⟨?_, ?_, ?_, ?_, ?_, ?_, ?_, ?_, ?_, ?_, ?_, ?_, ?_, ?_⟩ <;>
    (unfold setLec; try dsimp only) <;> (repeat' split) <;> simp_all

@[simp] theorem clearStationReservations_frame (s : State) :
    (clearStationReservations s).boot = s.boot ∧ (clearStationReservations s).cap = s.cap ∧
    (clearStationReservations s).jobs = s.jobs ∧ (clearStationReservations s).tlc = s.tlc ∧
    (clearStationReservations s).mfc = s.mfc ∧ (clearStationReservations s).homes = s.homes ∧
    (clearStationReservations s).pcd = s.pcd ∧ (clearStationReservations s).pnp = s.pnp ∧
    (clearStationReservations s).fxl = s.fxl ∧ (clearStationReservations s).syp = s.syp ∧
    (clearStationReservations s).mct = s.mct ∧ (clearStationReservations s).config = s.config ∧
    (clearStationReservations s).inbox = s.inbox ∧ (clearStationReservations s).book = s.book ∧
    (clearStationReservations s).pending = s.pending := by
  refine ⟨?_, ?_, ?_, ?_, ?_, ?_, ?_, ?_, ?_, ?_, ?_, ?_, ?_, ?_, ?_⟩ <;>
    (unfold clearStationReservations; try dsimp only) <;> (repeat' split) <;> simp_all

@[simp] theorem enterSilent_frame (s : State) :
    (enterSilent s).boot = s.boot ∧ (enterSilent s).cap = s.cap ∧ (enterSilent s).jobs = s.jobs ∧
    (enterSilent s).tlc = s.tlc ∧ (enterSilent s).mfc = s.mfc ∧ (enterSilent s).homes = s.homes ∧
    (enterSilent s).pcd = s.pcd ∧ (enterSilent s).pnp = s.pnp ∧ (enterSilent s).mct = s.mct ∧
    (enterSilent s).config = s.config ∧ (enterSilent s).inbox = s.inbox ∧ (enterSilent s).book = s.book ∧
    (enterSilent s).pending = s.pending := by
  refine ⟨?_, ?_, ?_, ?_, ?_, ?_, ?_, ?_, ?_, ?_, ?_, ?_, ?_⟩ <;>
    (unfold enterSilent; try dsimp only) <;> (repeat' split) <;> simp_all

@[simp] theorem badFrameEffect_frame (s : State) :
    (badFrameEffect s).boot = s.boot ∧ (badFrameEffect s).cap = s.cap ∧ (badFrameEffect s).jobs = s.jobs ∧
    (badFrameEffect s).tlc = s.tlc ∧ (badFrameEffect s).mfc = s.mfc ∧ (badFrameEffect s).homes = s.homes ∧
    (badFrameEffect s).pcd = s.pcd ∧ (badFrameEffect s).pnp = s.pnp ∧ (badFrameEffect s).mct = s.mct ∧
    (badFrameEffect s).config = s.config ∧ (badFrameEffect s).inbox = s.inbox ∧ (badFrameEffect s).book = s.book ∧
    (badFrameEffect s).pending = s.pending := by
  refine ⟨?_, ?_, ?_, ?_, ?_, ?_, ?_, ?_, ?_, ?_, ?_, ?_, ?_⟩ <;>
    (unfold badFrameEffect; try dsimp only) <;> (repeat' split) <;> simp_all

@[simp] theorem goodFrameEffect_frame (s : State) :
    (goodFrameEffect s).boot = s.boot ∧ (goodFrameEffect s).cap = s.cap ∧ (goodFrameEffect s).jobs = s.jobs ∧
    (goodFrameEffect s).tlc = s.tlc ∧ (goodFrameEffect s).mfc = s.mfc ∧ (goodFrameEffect s).homes = s.homes ∧
    (goodFrameEffect s).pcd = s.pcd ∧ (goodFrameEffect s).pnp = s.pnp ∧ (goodFrameEffect s).srb = s.srb ∧
    (goodFrameEffect s).mct = s.mct ∧ (goodFrameEffect s).config = s.config ∧ (goodFrameEffect s).inbox = s.inbox ∧
    (goodFrameEffect s).book = s.book ∧ (goodFrameEffect s).pending = s.pending := by
  refine ⟨?_, ?_, ?_, ?_, ?_, ?_, ?_, ?_, ?_, ?_, ?_, ?_, ?_, ?_⟩ <;>
    (unfold goodFrameEffect; try dsimp only) <;> (repeat' split) <;> simp_all

@[simp] theorem setReceiver_frame (r : Receiver) (s : State) :
    (setReceiver r s).boot = s.boot ∧ (setReceiver r s).cap = s.cap ∧ (setReceiver r s).jobs = s.jobs ∧
    (setReceiver r s).tlc = s.tlc ∧ (setReceiver r s).mfc = s.mfc ∧ (setReceiver r s).homes = s.homes ∧
    (setReceiver r s).pcd = s.pcd ∧ (setReceiver r s).pnp = s.pnp ∧ (setReceiver r s).srb = s.srb ∧
    (setReceiver r s).syp = s.syp ∧ (setReceiver r s).mct = s.mct ∧ (setReceiver r s).config = s.config ∧
    (setReceiver r s).inbox = s.inbox ∧ (setReceiver r s).book = s.book ∧ (setReceiver r s).pending = s.pending := by
  refine ⟨?_, ?_, ?_, ?_, ?_, ?_, ?_, ?_, ?_, ?_, ?_, ?_, ?_, ?_, ?_⟩ <;>
    (unfold setReceiver; try dsimp only) <;> (repeat' split) <;> simp_all

@[simp] theorem fxlAnswer_frame (st : Station) (k t : Byte) (x : Status) (s : State) :
    (fxlAnswer st k t x s).boot = s.boot ∧ (fxlAnswer st k t x s).cap = s.cap ∧ (fxlAnswer st k t x s).jobs = s.jobs ∧
    (fxlAnswer st k t x s).tlc = s.tlc ∧ (fxlAnswer st k t x s).mfc = s.mfc ∧ (fxlAnswer st k t x s).homes = s.homes ∧
    (fxlAnswer st k t x s).pcd = s.pcd ∧ (fxlAnswer st k t x s).pnp = s.pnp ∧ (fxlAnswer st k t x s).srb = s.srb ∧
    (fxlAnswer st k t x s).config = s.config ∧ (fxlAnswer st k t x s).inbox = s.inbox ∧
    (fxlAnswer st k t x s).book = s.book ∧ (fxlAnswer st k t x s).pending = s.pending := by
  refine ⟨?_, ?_, ?_, ?_, ?_, ?_, ?_, ?_, ?_, ?_, ?_, ?_, ?_⟩ <;>
    (unfold fxlAnswer; try dsimp only) <;> (repeat' split) <;> simp_all

@[simp] theorem absentKindAnswer_frame (st : Station) (t : Byte) (x : Status) (s : State) :
    (absentKindAnswer st t x s).boot = s.boot ∧ (absentKindAnswer st t x s).cap = s.cap ∧
    (absentKindAnswer st t x s).jobs = s.jobs ∧ (absentKindAnswer st t x s).tlc = s.tlc ∧
    (absentKindAnswer st t x s).mfc = s.mfc ∧ (absentKindAnswer st t x s).homes = s.homes ∧
    (absentKindAnswer st t x s).pcd = s.pcd ∧ (absentKindAnswer st t x s).pnp = s.pnp ∧
    (absentKindAnswer st t x s).srb = s.srb ∧ (absentKindAnswer st t x s).config = s.config ∧
    (absentKindAnswer st t x s).inbox = s.inbox ∧ (absentKindAnswer st t x s).pending = s.pending := by
  refine ⟨?_, ?_, ?_, ?_, ?_, ?_, ?_, ?_, ?_, ?_, ?_, ?_⟩ <;>
    (unfold absentKindAnswer; try dsimp only) <;> (repeat' split) <;> simp_all

@[simp] theorem answerRequest_frame (r : FrameRequest) (x : Status) (s : State) :
    (answerRequest r x s).boot = s.boot ∧ (answerRequest r x s).cap = s.cap ∧ (answerRequest r x s).jobs = s.jobs ∧
    (answerRequest r x s).tlc = s.tlc ∧ (answerRequest r x s).mfc = s.mfc ∧ (answerRequest r x s).homes = s.homes ∧
    (answerRequest r x s).pcd = s.pcd ∧ (answerRequest r x s).pnp = s.pnp ∧ (answerRequest r x s).srb = s.srb ∧
    (answerRequest r x s).config = s.config ∧ (answerRequest r x s).inbox = s.inbox ∧
    (answerRequest r x s).pending = s.pending := by
  refine ⟨?_, ?_, ?_, ?_, ?_, ?_, ?_, ?_, ?_, ?_, ?_, ?_⟩ <;>
    (unfold answerRequest; try dsimp only) <;> (repeat' split) <;> simp_all

@[simp] theorem takeStationRequest_frame (st : Station) (k t : Byte) (b : List Byte) (s : State) :
    (takeStationRequest st k t b s).boot = s.boot ∧ (takeStationRequest st k t b s).cap = s.cap ∧
    (takeStationRequest st k t b s).jobs = s.jobs ∧ (takeStationRequest st k t b s).tlc = s.tlc ∧
    (takeStationRequest st k t b s).mfc = s.mfc ∧ (takeStationRequest st k t b s).homes = s.homes ∧
    (takeStationRequest st k t b s).pcd = s.pcd ∧ (takeStationRequest st k t b s).srb = s.srb ∧
    (takeStationRequest st k t b s).config = s.config ∧ (takeStationRequest st k t b s).pending = s.pending := by
  refine ⟨?_, ?_, ?_, ?_, ?_, ?_, ?_, ?_, ?_, ?_⟩ <;>
    (unfold takeStationRequest; try dsimp only) <;> (repeat' split) <;> simp_all

@[simp] theorem requestEffect_frame (r : FrameRequest) (l : LinkState) (s : State) :
    (requestEffect r l s).boot = s.boot ∧ (requestEffect r l s).cap = s.cap ∧ (requestEffect r l s).jobs = s.jobs ∧
    (requestEffect r l s).tlc = s.tlc ∧ (requestEffect r l s).mfc = s.mfc ∧ (requestEffect r l s).homes = s.homes ∧
    (requestEffect r l s).pcd = s.pcd ∧ (requestEffect r l s).srb = s.srb ∧ (requestEffect r l s).config = s.config ∧
    (requestEffect r l s).pending = s.pending := by
  refine ⟨?_, ?_, ?_, ?_, ?_, ?_, ?_, ?_, ?_, ?_⟩ <;>
    (unfold requestEffect; try dsimp only) <;> (repeat' split) <;> simp_all

@[simp] theorem goodRequest_frame (r : FrameRequest) (s : State) :
    (goodRequest r s).boot = s.boot ∧ (goodRequest r s).cap = s.cap ∧ (goodRequest r s).jobs = s.jobs ∧
    (goodRequest r s).tlc = s.tlc ∧ (goodRequest r s).mfc = s.mfc ∧ (goodRequest r s).homes = s.homes ∧
    (goodRequest r s).pcd = s.pcd ∧ (goodRequest r s).srb = s.srb ∧ (goodRequest r s).config = s.config ∧
    (goodRequest r s).pending = s.pending := by
  refine ⟨?_, ?_, ?_, ?_, ?_, ?_, ?_, ?_, ?_, ?_⟩ <;>
    (unfold goodRequest; try dsimp only) <;> (repeat' split) <;> simp_all

@[simp] theorem releaseLink_frame (s : State) :
    (releaseLink s).boot = s.boot ∧ (releaseLink s).cap = s.cap ∧ (releaseLink s).jobs = s.jobs ∧
    (releaseLink s).tlc = s.tlc ∧ (releaseLink s).mfc = s.mfc ∧ (releaseLink s).homes = s.homes ∧
    (releaseLink s).pcd = s.pcd ∧ (releaseLink s).pnp = s.pnp ∧ (releaseLink s).srb = s.srb ∧
    (releaseLink s).mct = s.mct ∧ (releaseLink s).config = s.config ∧ (releaseLink s).inbox = s.inbox ∧
    (releaseLink s).book = s.book ∧ (releaseLink s).pending = s.pending := by
  refine ⟨?_, ?_, ?_, ?_, ?_, ?_, ?_, ?_, ?_, ?_, ?_, ?_, ?_, ?_⟩ <;>
    (unfold releaseLink; try dsimp only) <;> (repeat' split) <;> simp_all

@[simp] theorem goodIdleMark_frame (s : State) :
    (goodIdleMark s).boot = s.boot ∧ (goodIdleMark s).cap = s.cap ∧ (goodIdleMark s).jobs = s.jobs ∧
    (goodIdleMark s).tlc = s.tlc ∧ (goodIdleMark s).mfc = s.mfc ∧ (goodIdleMark s).homes = s.homes ∧
    (goodIdleMark s).pcd = s.pcd ∧ (goodIdleMark s).pnp = s.pnp ∧ (goodIdleMark s).srb = s.srb ∧
    (goodIdleMark s).mct = s.mct ∧ (goodIdleMark s).config = s.config ∧ (goodIdleMark s).inbox = s.inbox ∧
    (goodIdleMark s).book = s.book ∧ (goodIdleMark s).pending = s.pending := by
  refine ⟨?_, ?_, ?_, ?_, ?_, ?_, ?_, ?_, ?_, ?_, ?_, ?_, ?_, ?_⟩ <;>
    (unfold goodIdleMark; try dsimp only) <;> (repeat' split) <;> simp_all

@[simp] theorem resetLink_frame (s : State) :
    (resetLink s).boot = s.boot ∧ (resetLink s).cap = s.cap ∧ (resetLink s).jobs = s.jobs ∧
    (resetLink s).tlc = s.tlc ∧ (resetLink s).mfc = s.mfc ∧ (resetLink s).homes = s.homes ∧
    (resetLink s).pcd = s.pcd ∧ (resetLink s).pnp = s.pnp ∧ (resetLink s).srb = s.srb ∧ (resetLink s).mct = s.mct ∧
    (resetLink s).config = s.config ∧ (resetLink s).inbox = s.inbox ∧ (resetLink s).book = s.book ∧
    (resetLink s).pending = s.pending := by
  refine ⟨?_, ?_, ?_, ?_, ?_, ?_, ?_, ?_, ?_, ?_, ?_, ?_, ?_, ?_⟩ <;>
    (unfold resetLink; try dsimp only) <;> (repeat' split) <;> simp_all

/-! ## Keys -/

@[simp] theorem setSlot_frame (k : Fin 12) (x : KeySlot) (s : State) :
    (setSlot k x s).boot = s.boot ∧ (setSlot k x s).cap = s.cap ∧ (setSlot k x s).jobs = s.jobs ∧
    (setSlot k x s).tlc = s.tlc ∧ (setSlot k x s).mfc = s.mfc ∧ (setSlot k x s).homes = s.homes ∧
    (setSlot k x s).pcd = s.pcd ∧ (setSlot k x s).pnp = s.pnp ∧ (setSlot k x s).fxl = s.fxl ∧
    (setSlot k x s).syp = s.syp ∧ (setSlot k x s).mct = s.mct ∧ (setSlot k x s).config = s.config ∧
    (setSlot k x s).inbox = s.inbox ∧ (setSlot k x s).book = s.book ∧ (setSlot k x s).pending = s.pending := by
  refine ⟨?_, ?_, ?_, ?_, ?_, ?_, ?_, ?_, ?_, ?_, ?_, ?_, ?_, ?_, ?_⟩ <;>
    (unfold setSlot; try dsimp only) <;> (repeat' split) <;> simp_all

@[simp] theorem setKeyHome_frame (k : Fin 12) (h : Home KeyRecord) (s : State) :
    (setKeyHome k h s).boot = s.boot ∧ (setKeyHome k h s).cap = s.cap ∧ (setKeyHome k h s).jobs = s.jobs ∧
    (setKeyHome k h s).tlc = s.tlc ∧ (setKeyHome k h s).mfc = s.mfc ∧ (setKeyHome k h s).pcd = s.pcd ∧
    (setKeyHome k h s).pnp = s.pnp ∧ (setKeyHome k h s).srb = s.srb ∧ (setKeyHome k h s).fxl = s.fxl ∧
    (setKeyHome k h s).syp = s.syp ∧ (setKeyHome k h s).mct = s.mct ∧ (setKeyHome k h s).config = s.config ∧
    (setKeyHome k h s).inbox = s.inbox ∧ (setKeyHome k h s).book = s.book ∧ (setKeyHome k h s).pending = s.pending := by
  refine ⟨?_, ?_, ?_, ?_, ?_, ?_, ?_, ?_, ?_, ?_, ?_, ?_, ?_, ?_, ?_⟩ <;>
    (unfold setKeyHome; try dsimp only) <;> (repeat' split) <;> simp_all

/-! ## Records -/

@[simp] theorem setReservation_frame (m : Master) (r : Option (Target × BitVec 16)) (s : State) :
    (setReservation m r s).boot = s.boot ∧ (setReservation m r s).cap = s.cap ∧ (setReservation m r s).jobs = s.jobs ∧
    (setReservation m r s).tlc = s.tlc ∧ (setReservation m r s).mfc = s.mfc ∧ (setReservation m r s).homes = s.homes ∧
    (setReservation m r s).pcd = s.pcd ∧ (setReservation m r s).pnp = s.pnp ∧ (setReservation m r s).fxl = s.fxl ∧
    (setReservation m r s).syp = s.syp ∧ (setReservation m r s).mct = s.mct ∧
    (setReservation m r s).config = s.config ∧ (setReservation m r s).inbox = s.inbox ∧
    (setReservation m r s).book = s.book ∧ (setReservation m r s).pending = s.pending := by
  refine ⟨?_, ?_, ?_, ?_, ?_, ?_, ?_, ?_, ?_, ?_, ?_, ?_, ?_, ?_, ?_⟩ <;>
    (unfold setReservation; try dsimp only) <;> (repeat' split) <;> simp_all

@[simp] theorem clearTarget_frame (t : Target) (s : State) :
    (clearTarget t s).boot = s.boot ∧ (clearTarget t s).cap = s.cap ∧ (clearTarget t s).jobs = s.jobs ∧
    (clearTarget t s).tlc = s.tlc ∧ (clearTarget t s).mfc = s.mfc ∧ (clearTarget t s).homes = s.homes ∧
    (clearTarget t s).pcd = s.pcd ∧ (clearTarget t s).pnp = s.pnp ∧ (clearTarget t s).fxl = s.fxl ∧
    (clearTarget t s).syp = s.syp ∧ (clearTarget t s).mct = s.mct ∧ (clearTarget t s).config = s.config ∧
    (clearTarget t s).inbox = s.inbox ∧ (clearTarget t s).book = s.book ∧ (clearTarget t s).pending = s.pending := by
  refine ⟨?_, ?_, ?_, ?_, ?_, ?_, ?_, ?_, ?_, ?_, ?_, ?_, ?_, ?_, ?_⟩ <;>
    (unfold clearTarget; try dsimp only) <;> (repeat' split) <;> simp_all

@[simp] theorem setRegion_frame (r : SetRecord RegionFields) (s : State) :
    (setRegion r s).boot = s.boot ∧ (setRegion r s).cap = s.cap ∧ (setRegion r s).jobs = s.jobs ∧
    (setRegion r s).tlc = s.tlc ∧ (setRegion r s).mfc = s.mfc ∧ (setRegion r s).homes = s.homes ∧
    (setRegion r s).pcd = s.pcd ∧ (setRegion r s).pnp = s.pnp ∧ (setRegion r s).fxl = s.fxl ∧
    (setRegion r s).syp = s.syp ∧ (setRegion r s).mct = s.mct ∧ (setRegion r s).config = s.config ∧
    (setRegion r s).inbox = s.inbox ∧ (setRegion r s).book = s.book ∧ (setRegion r s).pending = s.pending := by
  refine ⟨?_, ?_, ?_, ?_, ?_, ?_, ?_, ?_, ?_, ?_, ?_, ?_, ?_, ?_, ?_⟩ <;>
    (unfold setRegion; try dsimp only) <;> (repeat' split) <;> simp_all

@[simp] theorem setLabel_frame (r : SetRecord LabelFields) (s : State) :
    (setLabel r s).boot = s.boot ∧ (setLabel r s).cap = s.cap ∧ (setLabel r s).jobs = s.jobs ∧
    (setLabel r s).tlc = s.tlc ∧ (setLabel r s).mfc = s.mfc ∧ (setLabel r s).homes = s.homes ∧
    (setLabel r s).pcd = s.pcd ∧ (setLabel r s).pnp = s.pnp ∧ (setLabel r s).fxl = s.fxl ∧
    (setLabel r s).syp = s.syp ∧ (setLabel r s).mct = s.mct ∧ (setLabel r s).config = s.config ∧
    (setLabel r s).inbox = s.inbox ∧ (setLabel r s).book = s.book ∧ (setLabel r s).pending = s.pending := by
  refine ⟨?_, ?_, ?_, ?_, ?_, ?_, ?_, ?_, ?_, ?_, ?_, ?_, ?_, ?_, ?_⟩ <;>
    (unfold setLabel; try dsimp only) <;> (repeat' split) <;> simp_all

@[simp] theorem reserveIf_frame (f : Bool) (m : Master) (t : Target) (v : BitVec 16) (s : State) :
    (reserveIf f m t v s).boot = s.boot ∧ (reserveIf f m t v s).cap = s.cap ∧ (reserveIf f m t v s).jobs = s.jobs ∧
    (reserveIf f m t v s).tlc = s.tlc ∧ (reserveIf f m t v s).mfc = s.mfc ∧ (reserveIf f m t v s).homes = s.homes ∧
    (reserveIf f m t v s).pcd = s.pcd ∧ (reserveIf f m t v s).pnp = s.pnp ∧ (reserveIf f m t v s).fxl = s.fxl ∧
    (reserveIf f m t v s).syp = s.syp ∧ (reserveIf f m t v s).mct = s.mct ∧ (reserveIf f m t v s).config = s.config ∧
    (reserveIf f m t v s).inbox = s.inbox ∧ (reserveIf f m t v s).book = s.book ∧
    (reserveIf f m t v s).pending = s.pending := by
  refine ⟨?_, ?_, ?_, ?_, ?_, ?_, ?_, ?_, ?_, ?_, ?_, ?_, ?_, ?_, ?_⟩ <;>
    (unfold reserveIf; try dsimp only) <;> (repeat' split) <;> simp_all

@[simp] theorem setRegionHome_frame (h : Home (StoredRecord RegionFields)) (s : State) :
    (setRegionHome h s).boot = s.boot ∧ (setRegionHome h s).cap = s.cap ∧ (setRegionHome h s).jobs = s.jobs ∧
    (setRegionHome h s).tlc = s.tlc ∧ (setRegionHome h s).mfc = s.mfc ∧ (setRegionHome h s).pcd = s.pcd ∧
    (setRegionHome h s).pnp = s.pnp ∧ (setRegionHome h s).srb = s.srb ∧ (setRegionHome h s).fxl = s.fxl ∧
    (setRegionHome h s).syp = s.syp ∧ (setRegionHome h s).mct = s.mct ∧ (setRegionHome h s).config = s.config ∧
    (setRegionHome h s).inbox = s.inbox ∧ (setRegionHome h s).book = s.book ∧ (setRegionHome h s).pending = s.pending := by
  refine ⟨?_, ?_, ?_, ?_, ?_, ?_, ?_, ?_, ?_, ?_, ?_, ?_, ?_, ?_, ?_⟩ <;>
    (unfold setRegionHome; try dsimp only) <;> (repeat' split) <;> simp_all

@[simp] theorem setLabelHome_frame (h : Home (StoredRecord LabelFields)) (s : State) :
    (setLabelHome h s).boot = s.boot ∧ (setLabelHome h s).cap = s.cap ∧ (setLabelHome h s).jobs = s.jobs ∧
    (setLabelHome h s).tlc = s.tlc ∧ (setLabelHome h s).mfc = s.mfc ∧ (setLabelHome h s).pcd = s.pcd ∧
    (setLabelHome h s).pnp = s.pnp ∧ (setLabelHome h s).srb = s.srb ∧ (setLabelHome h s).fxl = s.fxl ∧
    (setLabelHome h s).syp = s.syp ∧ (setLabelHome h s).mct = s.mct ∧ (setLabelHome h s).config = s.config ∧
    (setLabelHome h s).inbox = s.inbox ∧ (setLabelHome h s).book = s.book ∧ (setLabelHome h s).pending = s.pending := by
  refine ⟨?_, ?_, ?_, ?_, ?_, ?_, ?_, ?_, ?_, ?_, ?_, ?_, ?_, ?_, ?_⟩ <;>
    (unfold setLabelHome; try dsimp only) <;> (repeat' split) <;> simp_all

/-! ## Stage -/

@[simp] theorem setStage_frame (r : StageRec) (s : State) :
    (setStage r s).boot = s.boot ∧ (setStage r s).cap = s.cap ∧ (setStage r s).jobs = s.jobs ∧
    (setStage r s).tlc = s.tlc ∧ (setStage r s).mfc = s.mfc ∧ (setStage r s).homes = s.homes ∧
    (setStage r s).pcd = s.pcd ∧ (setStage r s).pnp = s.pnp ∧ (setStage r s).fxl = s.fxl ∧
    (setStage r s).syp = s.syp ∧ (setStage r s).mct = s.mct ∧ (setStage r s).config = s.config ∧
    (setStage r s).inbox = s.inbox ∧ (setStage r s).book = s.book ∧ (setStage r s).pending = s.pending := by
  refine ⟨?_, ?_, ?_, ?_, ?_, ?_, ?_, ?_, ?_, ?_, ?_, ?_, ?_, ?_, ?_⟩ <;>
    (unfold setStage; try dsimp only) <;> (repeat' split) <;> simp_all

@[simp] theorem setStageHome_frame (h : Home StageRecord) (s : State) :
    (setStageHome h s).boot = s.boot ∧ (setStageHome h s).cap = s.cap ∧ (setStageHome h s).jobs = s.jobs ∧
    (setStageHome h s).tlc = s.tlc ∧ (setStageHome h s).mfc = s.mfc ∧ (setStageHome h s).pcd = s.pcd ∧
    (setStageHome h s).pnp = s.pnp ∧ (setStageHome h s).srb = s.srb ∧ (setStageHome h s).fxl = s.fxl ∧
    (setStageHome h s).syp = s.syp ∧ (setStageHome h s).mct = s.mct ∧ (setStageHome h s).config = s.config ∧
    (setStageHome h s).inbox = s.inbox ∧ (setStageHome h s).book = s.book ∧ (setStageHome h s).pending = s.pending := by
  refine ⟨?_, ?_, ?_, ?_, ?_, ?_, ?_, ?_, ?_, ?_, ?_, ?_, ?_, ?_, ?_⟩ <;>
    (unfold setStageHome; try dsimp only) <;> (repeat' split) <;> simp_all

/-! ## Boot -/

@[simp] theorem setPhase_frame (p : BootPhase) (s : State) :
    (setPhase p s).cap = s.cap ∧ (setPhase p s).jobs = s.jobs ∧ (setPhase p s).tlc = s.tlc ∧
    (setPhase p s).mfc = s.mfc ∧ (setPhase p s).homes = s.homes ∧ (setPhase p s).pcd = s.pcd ∧
    (setPhase p s).pnp = s.pnp ∧ (setPhase p s).srb = s.srb ∧ (setPhase p s).fxl = s.fxl ∧
    (setPhase p s).syp = s.syp ∧ (setPhase p s).mct = s.mct ∧ (setPhase p s).config = s.config ∧
    (setPhase p s).inbox = s.inbox ∧ (setPhase p s).book = s.book ∧ (setPhase p s).pending = s.pending := by
  refine ⟨?_, ?_, ?_, ?_, ?_, ?_, ?_, ?_, ?_, ?_, ?_, ?_, ?_, ?_, ?_⟩ <;>
    (unfold setPhase; try dsimp only) <;> (repeat' split) <;> simp_all

@[simp] theorem noteSequence_frame (q : BitVec 32) (s : State) :
    (noteSequence q s).cap = s.cap ∧ (noteSequence q s).jobs = s.jobs ∧ (noteSequence q s).tlc = s.tlc ∧
    (noteSequence q s).mfc = s.mfc ∧ (noteSequence q s).homes = s.homes ∧ (noteSequence q s).pcd = s.pcd ∧
    (noteSequence q s).pnp = s.pnp ∧ (noteSequence q s).srb = s.srb ∧ (noteSequence q s).fxl = s.fxl ∧
    (noteSequence q s).syp = s.syp ∧ (noteSequence q s).mct = s.mct ∧ (noteSequence q s).config = s.config ∧
    (noteSequence q s).inbox = s.inbox ∧ (noteSequence q s).book = s.book ∧ (noteSequence q s).pending = s.pending := by
  refine ⟨?_, ?_, ?_, ?_, ?_, ?_, ?_, ?_, ?_, ?_, ?_, ?_, ?_, ?_, ?_⟩ <;>
    (unfold noteSequence; try dsimp only) <;> (repeat' split) <;> simp_all

@[simp] theorem defaultConfig_frame (s : State) :
    (defaultConfig s).boot = s.boot ∧ (defaultConfig s).cap = s.cap ∧ (defaultConfig s).jobs = s.jobs ∧
    (defaultConfig s).tlc = s.tlc ∧ (defaultConfig s).mfc = s.mfc ∧ (defaultConfig s).homes = s.homes ∧
    (defaultConfig s).pcd = s.pcd ∧ (defaultConfig s).pnp = s.pnp ∧ (defaultConfig s).srb = s.srb ∧
    (defaultConfig s).fxl = s.fxl ∧ (defaultConfig s).mct = s.mct ∧ (defaultConfig s).inbox = s.inbox ∧
    (defaultConfig s).book = s.book ∧ (defaultConfig s).pending = s.pending := by
  refine ⟨?_, ?_, ?_, ?_, ?_, ?_, ?_, ?_, ?_, ?_, ?_, ?_, ?_, ?_⟩ <;>
    (unfold defaultConfig; try dsimp only) <;> (repeat' split) <;> simp_all

@[simp] theorem loadConfig_frame (s : State) :
    (loadConfig s).cap = s.cap ∧ (loadConfig s).jobs = s.jobs ∧ (loadConfig s).tlc = s.tlc ∧
    (loadConfig s).mfc = s.mfc ∧ (loadConfig s).homes = s.homes ∧ (loadConfig s).pcd = s.pcd ∧
    (loadConfig s).pnp = s.pnp ∧ (loadConfig s).srb = s.srb ∧ (loadConfig s).fxl = s.fxl ∧
    (loadConfig s).mct = s.mct ∧ (loadConfig s).inbox = s.inbox ∧ (loadConfig s).book = s.book ∧
    (loadConfig s).pending = s.pending := by
  refine ⟨?_, ?_, ?_, ?_, ?_, ?_, ?_, ?_, ?_, ?_, ?_, ?_, ?_⟩ <;>
    (unfold loadConfig; try dsimp only) <;> (repeat' split) <;> simp_all

@[simp] theorem claimTile_frame (k : Fin 24) (t : TileNo) (q : BitVec 32) (s : State) :
    (claimTile k t q s).boot = s.boot ∧ (claimTile k t q s).cap = s.cap ∧ (claimTile k t q s).jobs = s.jobs ∧
    (claimTile k t q s).tlc = s.tlc ∧ (claimTile k t q s).homes = s.homes ∧ (claimTile k t q s).pcd = s.pcd ∧
    (claimTile k t q s).pnp = s.pnp ∧ (claimTile k t q s).srb = s.srb ∧ (claimTile k t q s).fxl = s.fxl ∧
    (claimTile k t q s).syp = s.syp ∧ (claimTile k t q s).mct = s.mct ∧ (claimTile k t q s).config = s.config ∧
    (claimTile k t q s).inbox = s.inbox ∧ (claimTile k t q s).book = s.book ∧ (claimTile k t q s).pending = s.pending := by
  refine ⟨?_, ?_, ?_, ?_, ?_, ?_, ?_, ?_, ?_, ?_, ?_, ?_, ?_, ?_, ?_⟩ <;>
    (unfold claimTile; try dsimp only) <;> (repeat' split) <;> simp_all

@[simp] theorem scanSpare_frame (k : Fin 24) (s : State) :
    (scanSpare k s).cap = s.cap ∧ (scanSpare k s).jobs = s.jobs ∧ (scanSpare k s).tlc = s.tlc ∧
    (scanSpare k s).homes = s.homes ∧ (scanSpare k s).pcd = s.pcd ∧ (scanSpare k s).pnp = s.pnp ∧
    (scanSpare k s).srb = s.srb ∧ (scanSpare k s).fxl = s.fxl ∧ (scanSpare k s).syp = s.syp ∧
    (scanSpare k s).mct = s.mct ∧ (scanSpare k s).config = s.config ∧ (scanSpare k s).inbox = s.inbox ∧
    (scanSpare k s).book = s.book ∧ (scanSpare k s).pending = s.pending := by
  refine ⟨?_, ?_, ?_, ?_, ?_, ?_, ?_, ?_, ?_, ?_, ?_, ?_, ?_, ?_⟩ <;>
    (unfold scanSpare; try dsimp only) <;> (repeat' split) <;> simp_all

@[simp] theorem loadHeader_frame (r : HeaderRecord) (s : State) :
    (loadHeader r s).cap = s.cap ∧ (loadHeader r s).jobs = s.jobs ∧ (loadHeader r s).tlc = s.tlc ∧
    (loadHeader r s).homes = s.homes ∧ (loadHeader r s).pcd = s.pcd ∧ (loadHeader r s).pnp = s.pnp ∧
    (loadHeader r s).srb = s.srb ∧ (loadHeader r s).fxl = s.fxl ∧ (loadHeader r s).syp = s.syp ∧
    (loadHeader r s).mct = s.mct ∧ (loadHeader r s).config = s.config ∧ (loadHeader r s).inbox = s.inbox ∧
    (loadHeader r s).book = s.book ∧ (loadHeader r s).pending = s.pending := by
  refine ⟨?_, ?_, ?_, ?_, ?_, ?_, ?_, ?_, ?_, ?_, ?_, ?_, ?_, ?_⟩ <;>
    (unfold loadHeader; try dsimp only) <;> (repeat' split) <;> simp_all

@[simp] theorem headerLost_frame (s : State) :
    (headerLost s).boot = s.boot ∧ (headerLost s).cap = s.cap ∧ (headerLost s).jobs = s.jobs ∧
    (headerLost s).tlc = s.tlc ∧ (headerLost s).homes = s.homes ∧ (headerLost s).pcd = s.pcd ∧
    (headerLost s).pnp = s.pnp ∧ (headerLost s).srb = s.srb ∧ (headerLost s).fxl = s.fxl ∧
    (headerLost s).mct = s.mct ∧ (headerLost s).config = s.config ∧ (headerLost s).inbox = s.inbox ∧
    (headerLost s).book = s.book ∧ (headerLost s).pending = s.pending := by
  refine ⟨?_, ?_, ?_, ?_, ?_, ?_, ?_, ?_, ?_, ?_, ?_, ?_, ?_, ?_⟩ <;>
    (unfold headerLost; try dsimp only) <;> (repeat' split) <;> simp_all

@[simp] theorem loadKeyHome_frame (k : Fin 12) (s : State) :
    (loadKeyHome k s).cap = s.cap ∧ (loadKeyHome k s).jobs = s.jobs ∧ (loadKeyHome k s).tlc = s.tlc ∧
    (loadKeyHome k s).mfc = s.mfc ∧ (loadKeyHome k s).homes = s.homes ∧ (loadKeyHome k s).pcd = s.pcd ∧
    (loadKeyHome k s).pnp = s.pnp ∧ (loadKeyHome k s).fxl = s.fxl ∧ (loadKeyHome k s).syp = s.syp ∧
    (loadKeyHome k s).mct = s.mct ∧ (loadKeyHome k s).config = s.config ∧ (loadKeyHome k s).inbox = s.inbox ∧
    (loadKeyHome k s).book = s.book ∧ (loadKeyHome k s).pending = s.pending := by
  refine ⟨?_, ?_, ?_, ?_, ?_, ?_, ?_, ?_, ?_, ?_, ?_, ?_, ?_, ?_⟩ <;>
    (unfold loadKeyHome; try dsimp only) <;> (repeat' split) <;> simp_all

@[simp] theorem loadStage_frame (r : StageRecord) (s : State) :
    (loadStage r s).cap = s.cap ∧ (loadStage r s).jobs = s.jobs ∧ (loadStage r s).tlc = s.tlc ∧
    (loadStage r s).mfc = s.mfc ∧ (loadStage r s).homes = s.homes ∧ (loadStage r s).pcd = s.pcd ∧
    (loadStage r s).pnp = s.pnp ∧ (loadStage r s).fxl = s.fxl ∧ (loadStage r s).mct = s.mct ∧
    (loadStage r s).config = s.config ∧ (loadStage r s).inbox = s.inbox ∧ (loadStage r s).book = s.book ∧
    (loadStage r s).pending = s.pending := by
  refine ⟨?_, ?_, ?_, ?_, ?_, ?_, ?_, ?_, ?_, ?_, ?_, ?_, ?_⟩ <;>
    (unfold loadStage; try dsimp only) <;> (repeat' split) <;> simp_all

@[simp] theorem stageLost_frame (s : State) :
    (stageLost s).boot = s.boot ∧ (stageLost s).cap = s.cap ∧ (stageLost s).jobs = s.jobs ∧
    (stageLost s).tlc = s.tlc ∧ (stageLost s).mfc = s.mfc ∧ (stageLost s).homes = s.homes ∧
    (stageLost s).pcd = s.pcd ∧ (stageLost s).pnp = s.pnp ∧ (stageLost s).fxl = s.fxl ∧ (stageLost s).mct = s.mct ∧
    (stageLost s).config = s.config ∧ (stageLost s).inbox = s.inbox ∧ (stageLost s).book = s.book ∧
    (stageLost s).pending = s.pending := by
  refine ⟨?_, ?_, ?_, ?_, ?_, ?_, ?_, ?_, ?_, ?_, ?_, ?_, ?_, ?_⟩ <;>
    (unfold stageLost; try dsimp only) <;> (repeat' split) <;> simp_all

@[simp] theorem loadStageHome_frame (s : State) :
    (loadStageHome s).cap = s.cap ∧ (loadStageHome s).jobs = s.jobs ∧ (loadStageHome s).tlc = s.tlc ∧
    (loadStageHome s).mfc = s.mfc ∧ (loadStageHome s).homes = s.homes ∧ (loadStageHome s).pcd = s.pcd ∧
    (loadStageHome s).pnp = s.pnp ∧ (loadStageHome s).fxl = s.fxl ∧ (loadStageHome s).mct = s.mct ∧
    (loadStageHome s).config = s.config ∧ (loadStageHome s).inbox = s.inbox ∧ (loadStageHome s).book = s.book ∧
    (loadStageHome s).pending = s.pending := by
  refine ⟨?_, ?_, ?_, ?_, ?_, ?_, ?_, ?_, ?_, ?_, ?_, ?_, ?_⟩ <;>
    (unfold loadStageHome; try dsimp only) <;> (repeat' split) <;> simp_all

@[simp] theorem finishStartup_frame (s : State) :
    (finishStartup s).cap = s.cap ∧ (finishStartup s).jobs = s.jobs ∧ (finishStartup s).tlc = s.tlc ∧
    (finishStartup s).homes = s.homes ∧ (finishStartup s).pcd = s.pcd ∧ (finishStartup s).pnp = s.pnp ∧
    (finishStartup s).srb = s.srb ∧ (finishStartup s).fxl = s.fxl ∧ (finishStartup s).syp = s.syp ∧
    (finishStartup s).mct = s.mct ∧ (finishStartup s).config = s.config ∧ (finishStartup s).inbox = s.inbox ∧
    (finishStartup s).book = s.book ∧ (finishStartup s).pending = s.pending := by
  refine ⟨?_, ?_, ?_, ?_, ?_, ?_, ?_, ?_, ?_, ?_, ?_, ?_, ?_, ?_⟩ <;>
    (unfold finishStartup; try dsimp only) <;> (repeat' split) <;> simp_all

end Sys2Proof.Machine
end

