-- ==== Sys2Proof/Laws/Ops.lean ====
section
/-! SUPPORT. What each shared operation does, said once: the lemmas that a proof about a command cites in place of
unfolding the operation. -/

namespace Sys2Proof.Machine

open Sys2Proof

/-! ## Requests -/

theorem serve_none {k : Kind} {m : Master} {f : Request → State → State} {s : State}
    (h : waitingRequest k m s = none) : serve k m f s = s := by
  simp [serve, h]

theorem serve_some {k : Kind} {m : Master} {f : Request → State → State} {s : State} {req : Request}
    (h : waitingRequest k m s = some req) : serve k m f s = f req (withoutRequest req s) := by
  simp [serve, h, withoutRequest]

/-- A waiting request is in the inbox, of the kind and from the master asked for. -/
theorem waitingRequest_spec {k : Kind} {m : Master} {s : State} {req : Request}
    (h : waitingRequest k m s = some req) : req ∈ s.inbox ∧ req.kind = k ∧ req.master = m := by
  have h1 := List.find?_some h
  simp only [Bool.and_eq_true, beq_iff_eq] at h1
  exact ⟨List.mem_of_find?_eq_some h, h1⟩

/-- What a station's request that its role and the stage admit gives the owning block. -/
theorem lineRequest_spec {role : Role} {k : Kind} {i : Station} {req : Request} {s : State}
    (h : lineRequest role k i req s) :
    waitingRequest k (.station i) s = some req ∧ req.master = .station i ∧ req.kind = k ∧
      stationWith role (.station i) (withoutRequest req s) = true ∧
      stageAdmits lineStage (withoutRequest req s) = true := by
  obtain ⟨h1, h2, h3⟩ := h
  have h4 := waitingRequest_spec h1
  exact ⟨h1, h4.2.2, h4.2.1, h2, h3⟩

/-! ## Events and counters -/

theorem flagSet_raise (e e' : Event) (s : State) : flagSet e (raise e' s) = (decide (e = e') || flagSet e s) := by
  cases e <;> cases e' <;> simp [flagSet, raise, eventMask, eventBit]

/-- A rise changes the counters and the event flags alone. -/
theorem rise_eq (m : Master) (k : CounterKind) (n : Nat) (s : State) :
    rise m k n s =
      { s with mct := (rise m k n s).mct, syp := { s.syp with flags := (rise m k n s).syp.flags } } := by
  unfold rise
  dsimp only
  split <;> rfl

theorem rise_mct_congr (m : Master) (k : CounterKind) (n : Nat) {s t : State} (h : s.mct = t.mct) :
    (rise m k n s).mct = (rise m k n t).mct := by
  simp only [rise, h]
  split <;> simp

theorem rise_flags_congr (m : Master) (k : CounterKind) (n : Nat) {s t : State} (h : s.mct = t.mct)
    (hf : s.syp.flags = t.syp.flags) : (rise m k n s).syp.flags = (rise m k n t).syp.flags := by
  simp only [rise, h]
  split <;> simp [raise, hf]

theorem counterOf_rise (m : Master) (k : CounterKind) (n : Nat) (s : State) :
    (counterOf m k (rise m k n s)).toNat = ((counterOf m k s).toNat + n) % 4294967296 := by
  unfold counterOf rise
  dsimp only
  split <;> simp

/-! ## The panel copy directory -/

theorem appendNotice_dir (t : TileNo) (s : State) : (appendNotice t s).pcd.dir = s.pcd.dir := by
  unfold appendNotice
  repeat' split
  all_goals simp

theorem appendNotice_scan (t : TileNo) (s : State) : (appendNotice t s).pcd.scan = s.pcd.scan := by
  unfold appendNotice
  repeat' split
  all_goals simp

theorem dirOf_setDir (t u : TileNo) (d : DirState) (s : State) :
    dirOf u (setDir t d s) = if u = t then d else dirOf u s := by
  by_cases h : u = t
  · subst h
    simp [dirOf, setDir]
  · simp [dirOf, setDir, h, Vector.getElem_set]
    intro h'
    exact absurd (Fin.ext h'.symm) h

/-- A change of a tile changes its directory entry as R121 says, and no other. -/
theorem dirOf_markChanged (t u : TileNo) (s : State) :
    dirOf u (markChanged t s) = if u = t then changedDir (dirOf t s) else dirOf u s := by
  by_cases hu : u = t
  · subst hu
    unfold markChanged
    cases h : dirOf u s <;> simp only [dirOf, appendNotice_dir] <;>
      first
        | simpa [dirOf, changedDir] using h
        | simp [changedDir, setDir]
  · simp only [hu, if_false]
    unfold markChanged
    cases h : dirOf t s <;> simp only [dirOf, appendNotice_dir] <;>
      first
        | rfl
        | simpa [dirOf, hu] using dirOf_setDir t u _ s

/-! ## The tile cache -/

theorem entryAt_setEntry_self (i : Fin 16) (w : Fin 8) (e : Option Entry) (s : State) :
    entryAt i w (setEntry i w e s) = e := by
  simp [entryAt, setEntry]

theorem entryAt_setEntry_other {i j : Fin 16} {w x : Fin 8} (e : Option Entry) (s : State) (h : ¬(j = i ∧ x = w)) :
    entryAt j x (setEntry i w e s) = entryAt j x s := by
  by_cases hj : j = i
  · subst hj
    have hx : ¬(w : ℕ) = x := fun h' => h ⟨rfl, Fin.ext h'.symm⟩
    simp [entryAt, setEntry, hx]
  · have hj' : ¬(i : ℕ) = j := fun h' => hj (Fin.ext h'.symm)
    simp [entryAt, setEntry, hj']

@[simp] theorem entryAt_touch (i j : Fin 16) (w x : Fin 8) (s : State) : entryAt j x (touch i w s) = entryAt j x s := by
  by_cases hj : (i : ℕ) = j
  · have : i = j := Fin.ext hj
    subst this
    simp [entryAt, touch]
  · simp [entryAt, touch, hj]

/-- The ways hold the same whenever the sets are the same. -/
theorem entryAt_congr {s t : State} (h : t.tlc.sets = s.tlc.sets) (i : Fin 16) (w : Fin 8) :
    entryAt i w t = entryAt i w s := by
  simp [entryAt, h]

theorem findWay_congr {s t : State} (h : t.tlc.sets = s.tlc.sets) (u : TileNo) : findWay u t = findWay u s := by
  simp [findWay, entryAt, h]

/-- The way that the lookup finds holds the tile. -/
theorem findWay_some {t : TileNo} {w : Fin 8} {s : State} (h : findWay t s = some w) :
    ∃ e : Entry, entryAt (setOf t) w s = some e ∧ e.tile = t := by
  have h1 := List.find?_some h
  cases he : entryAt (setOf t) w s with
  | none => simp [he] at h1
  | some e => exact ⟨e, rfl, by simpa [he] using h1⟩

/-- A victim is an invalid way or an eligible one (R77, R78). -/
theorem chooseVictim_some {i : Fin 16} {w : Fin 8} {s : State} (h : chooseVictim i s = some w) :
    entryAt i w s = none ∨ eligible i w s = true := by
  unfold chooseVictim at h
  split at h
  · rename_i v hv
    cases h
    exact .inl (by simpa using List.find?_some hv)
  · dsimp only at h
    split at h
    · cases h
      exact .inr ‹_›
    · exact .inr (List.find?_some (p := fun v => eligible i v s) h)

/-- What makes a way eligible (R78). -/
theorem eligible_iff (i : Fin 16) (w : Fin 8) (s : State) : eligible i w s = true ↔ replaceable i w s := by
  unfold eligible replaceable
  rw [Bool.and_eq_true, decide_eq_true_iff]
  refine and_congr Iff.rfl ?_
  cases entryAt i w s with
  | none => exact ⟨fun h => (by cases h), fun ⟨_, h, _⟩ => (by cases h)⟩
  | some e =>
    obtain ⟨t, st⟩ := e
    have hq : (!queueFull s) = true ↔ s.tlc.queue.length < 4 := by
      rw [Bool.not_eq_true', queueFull, decide_eq_false_iff_not, Nat.not_le]; rfl
    cases st with
    | clean v c => exact ⟨fun _ => ⟨_, rfl, .inl ⟨v, c, rfl⟩⟩, fun _ => rfl⟩
    | dirty v c =>
      refine ⟨fun h => ⟨_, rfl, .inr ⟨⟨v, c, rfl⟩, hq.1 h⟩⟩, ?_⟩
      rintro ⟨e, he, ⟨_, _, h⟩ | ⟨_, h⟩⟩
      · cases he; cases h
      · exact hq.2 h
    | filling =>
      refine ⟨fun h => (Bool.false_ne_true h).elim, ?_⟩
      rintro ⟨e, he, ⟨_, _, h⟩ | ⟨⟨_, _, h⟩, _⟩⟩ <;> cases he <;> cases h
    | faulty =>
      refine ⟨fun h => (Bool.false_ne_true h).elim, ?_⟩
      rintro ⟨e, he, ⟨_, _, h⟩ | ⟨⟨_, _, h⟩, _⟩⟩ <;> cases he <;> cases h

/-- What makes an operation without a victim wait (R79). -/
theorem mayWaitForWay_iff (i : Fin 16) (s : State) : mayWaitForWay i s = true ↔ mustWait i s := by
  unfold mayWaitForWay mustWait
  rw [Bool.and_eq_true, beq_iff_eq, List.any_eq_true]
  refine and_congr Iff.rfl (exists_congr fun w => ?_)
  rw [Bool.and_eq_true, decide_eq_true_iff]
  cases entryAt i w s with
  | none => exact ⟨fun h => (Bool.false_ne_true h.2.2).elim, fun ⟨_, _, h, _⟩ => (by cases h)⟩
  | some e =>
    obtain ⟨t, st⟩ := e
    have hq : queueFull s = true ↔ 4 ≤ s.tlc.queue.length := by rw [queueFull, decide_eq_true_iff]; rfl
    cases st with
    | filling => exact ⟨fun h => ⟨_, h.2.1, rfl, .inl rfl⟩, fun ⟨_, h, _⟩ => ⟨List.mem_finRange w, h, rfl⟩⟩
    | dirty v c =>
      refine ⟨fun h => ⟨_, h.2.1, rfl, .inr ⟨⟨v, c, rfl⟩, hq.1 h.2.2⟩⟩, ?_⟩
      rintro ⟨e, hl, he, h | ⟨_, h⟩⟩
      · cases he; cases h
      · exact ⟨List.mem_finRange w, hl, hq.2 h⟩
    | clean v c =>
      refine ⟨fun h => (Bool.false_ne_true h.2.2).elim, ?_⟩
      rintro ⟨e, hl, he, h | ⟨⟨_, _, h⟩, _⟩⟩ <;> cases he <;> cases h
    | faulty =>
      refine ⟨fun h => (Bool.false_ne_true h.2.2).elim, ?_⟩
      rintro ⟨e, hl, he, h | ⟨⟨_, _, h⟩, _⟩⟩ <;> cases he <;> cases h

/-- A read of a tile that the cache holds with an agreeing check code touches its way and gives its values. -/
theorem readTileAt_holds {t : TileNo} {w : Fin 8} {v : TileValues} {s : State} (h : holdsTile t w v s) :
    readTileAt t s = (touch (setOf t) w s, .values w v) := by
  obtain ⟨h1, h2 | h2⟩ := h <;> simp [readTileAt, h1, readEntry, h2, codeAgrees]

/-- A read of a tile whose entry is FAULTY changes nothing. -/
theorem readTileAt_faulty {t : TileNo} {w : Fin 8} {s : State} (h1 : findWay t s = some w)
    (h2 : entryAt (setOf t) w s = some { tile := t, state := .faulty }) : readTileAt t s = (s, .faulty w) := by
  simp [readTileAt, h1, readEntry, h2]

/-- A whole-tile write on a valid entry that is not FILLING is carried out in its way. -/
theorem writeTileAt_hit {t : TileNo} {w : Fin 8} {e : Entry} {s : State} (v : TileValues) (h1 : findWay t s = some w)
    (h2 : entryAt (setOf t) w s = some e) (h3 : e.state ≠ .filling) :
    writeTileAt t v s = (storeWhole t w v s, .written) := by
  obtain ⟨u, x⟩ := e
  cases x <;> simp_all [writeTileAt]

theorem storeWhole_sets (t : TileNo) (w : Fin 8) (v : TileValues) (s : State) :
    (storeWhole t w v s).tlc =
      (touch (setOf t) w (setEntry (setOf t) w (some { tile := t, state := .dirty v (codeOf t v) }) s)).tlc := by
  simp [storeWhole]

theorem storeWhole_entry (t : TileNo) (w : Fin 8) (v : TileValues) (s : State) :
    entryAt (setOf t) w (storeWhole t w v s) = some { tile := t, state := .dirty v (codeOf t v) } := by
  rw [entryAt_congr (congrArg Tlc.sets (storeWhole_sets t w v s)), entryAt_touch, entryAt_setEntry_self]

theorem storeWhole_otherWays (t : TileNo) (w : Fin 8) (v : TileValues) (s : State) :
    otherWaysKept (setOf t) w s (storeWhole t w v s) := by
  intro j x h
  rw [entryAt_congr (congrArg Tlc.sets (storeWhole_sets t w v s)), entryAt_touch, entryAt_setEntry_other _ _ h]

theorem storeWhole_header (t : TileNo) (w : Fin 8) (v : TileValues) (s : State) :
    (storeWhole t w v s).mfc.header =
      { s.mfc.header with committed := false,
                          faulty := s.mfc.header.faulty - if isFaulty (setOf t) w s then 1 else 0 } := by
  simp [storeWhole, setHeader]

theorem storeWhole_dir (t u : TileNo) (w : Fin 8) (v : TileValues) (s : State) :
    dirOf u (storeWhole t w v s) = if u = t then changedDir (dirOf t s) else dirOf u s := by
  simp only [storeWhole, dirOf_markChanged]
  simp [dirOf]

/-- Touching a way twice is touching it once. -/
theorem touchTree_idem (w : Fin 8) (tree : Vector Bool 7) : touchTree w (touchTree w tree) = touchTree w tree := by
  have key : ∀ (w : Fin 8) (a b c d e f g : Bool),
      touchTree w (touchTree w #v[a, b, c, d, e, f, g]) = touchTree w #v[a, b, c, d, e, f, g] := by decide +kernel
  have h : tree = #v[tree[0], tree[1], tree[2], tree[3], tree[4], tree[5], tree[6]] := by
    ext i hi
    interval_cases i <;> rfl
  rw [h]
  exact key ..

@[simp] theorem tree_setEntry (i j : Fin 16) (w : Fin 8) (e : Option Entry) (s : State) :
    ((setEntry i w e s).tlc.sets[j]).tree = (s.tlc.sets[j]).tree := by
  by_cases h : i = j
  · subst h
    simp [setEntry]
  · have h' : ¬(i : ℕ) = j := fun h' => h (Fin.ext h')
    simp [setEntry, h']

theorem tree_touch (i j : Fin 16) (w : Fin 8) (s : State) :
    ((touch i w s).tlc.sets[j]).tree =
      if j = i then touchTree w (s.tlc.sets[i]).tree else (s.tlc.sets[j]).tree := by
  by_cases h : j = i
  · subst h
    simp [touch]
  · have h' : ¬(i : ℕ) = j := fun h' => h (Fin.ext h'.symm)
    simp [touch, h', h]

theorem copyVictim_eq (i : Fin 16) (w : Fin 8) (s : State) :
    copyVictim i w s = s.setTlc { s.tlc with queue := s.tlc.queue ++ copyOfWay i w s } := by
  unfold copyVictim copyOfWay
  rcases entryAt i w s with _ | ⟨t, _ | _ | _ | _⟩ <;> simp [State.setTlc]

/-- The giving of a way changes the sets and the queue alone. -/
theorem giveWay_eq (i : Fin 16) (w : Fin 8) (t : TileNo) (e : EntryState) (s : State) :
    giveWay i w t e s =
      s.setTlc { s.tlc with sets := (giveWay i w t e s).tlc.sets, queue := s.tlc.queue ++ copyOfWay i w s } := by
  simp only [giveWay, copyVictim_eq]
  rfl

/-- What the giving of a way does to the sets and the queue (R74, R75). -/
theorem giveWay_wayGiven (t : TileNo) (w : Fin 8) (e : EntryState) (s : State) :
    wayGiven t w e s (giveWay (setOf t) w t e s) := by
  refine ⟨?_, fun j x hx => ?_, fun j => ?_, ?_⟩
  · simp only [giveWay, entryAt_touch, entryAt_setEntry_self]
  · simp only [giveWay, entryAt_touch, entryAt_setEntry_other _ _ hx, copyVictim_eq]
    rfl
  · simp only [giveWay, tree_touch, tree_setEntry, copyVictim_eq]
    rfl
  · simp only [giveWay, copyVictim_eq]
    rfl

/-- What marking a tile does to the directory does not depend on the rest of the part. -/
theorem markChanged_pcd_congr (t : TileNo) {s u : State} (h : u.pcd = s.pcd) :
    (markChanged t u).pcd = (markChanged t s).pcd := by
  have ha : ∀ x y : State, x.pcd = y.pcd → (appendNotice t x).pcd = (appendNotice t y).pcd := by
    intro x y hxy
    simp only [appendNotice, hxy]
    (repeat' split) <;> simp_all [raise]
  simp only [markChanged, show dirOf t u = dirOf t s by simp [dirOf, h]]
  split
  · exact ha _ _ (by simp [setDir, h])
  all_goals simp [setDir, h]

theorem markChanged_syp_congr (t : TileNo) {s u : State} (h : u.pcd = s.pcd) (hs : u.syp = s.syp) :
    (markChanged t u).syp = (markChanged t s).syp := by
  have ha : ∀ x y : State, x.pcd = y.pcd → x.syp = y.syp → (appendNotice t x).syp = (appendNotice t y).syp := by
    intro x y hxy hxs
    simp only [appendNotice, hxy]
    (repeat' split) <;> simp_all [raise]
  simp only [markChanged, show dirOf t u = dirOf t s by simp [dirOf, h]]
  split
  · exact ha _ _ (by simp [setDir, h]) (by simpa [setDir] using hs)
  all_goals simp [setDir, hs]

/-- Marking a tile changes the directory and the event flags alone. -/
theorem markChanged_eq (t : TileNo) (s : State) :
    markChanged t s =
      { s with pcd := (markChanged t s).pcd, syp := { s.syp with flags := (markChanged t s).syp.flags } } := by
  unfold markChanged appendNotice
  (repeat' split) <;> rfl

theorem storeWhole_tree (t : TileNo) (w : Fin 8) (v : TileValues) (s : State) (j : Fin 16) :
    ((storeWhole t w v s).tlc.sets[j]).tree =
      if j = setOf t then touchTree w (s.tlc.sets[setOf t]).tree else (s.tlc.sets[j]).tree := by
  rw [show (storeWhole t w v s).tlc.sets = _ from congrArg Tlc.sets (storeWhole_sets t w v s), tree_touch]
  simp only [tree_setEntry]

theorem storeWhole_pcd (t : TileNo) (w : Fin 8) (v : TileValues) (s : State) :
    (storeWhole t w v s).pcd = (markChanged t s).pcd :=
  markChanged_pcd_congr t rfl

theorem storeWhole_syp (t : TileNo) (w : Fin 8) (v : TileValues) (s : State) :
    (storeWhole t w v s).syp = (markChanged t s).syp :=
  markChanged_syp_congr t rfl rfl

/-- A whole-tile write in a way changes the sets, the working header, the directory and the event flags alone. -/
theorem storeWhole_eq (t : TileNo) (w : Fin 8) (v : TileValues) (s : State) :
    storeWhole t w v s =
      { s with tlc := { s.tlc with sets := (storeWhole t w v s).tlc.sets },
               mfc := { s.mfc with header := (storeWhole t w v s).mfc.header }, pcd := (markChanged t s).pcd,
               syp := (markChanged t s).syp } := by
  conv_rhs => rw [← storeWhole_pcd t w v s, ← storeWhole_syp t w v s]
  unfold storeWhole markChanged appendNotice
  dsimp only
  (repeat' split) <;> rfl

/-- What a whole-tile write in the tile's own way does. -/
theorem storeWhole_stored {t : TileNo} {w : Fin 8} {s : State} (h : findWay t s = some w) (v : TileValues) :
    tileStored t w v s (storeWhole t w v s) := by
  obtain ⟨⟨u, st⟩, he, rfl⟩ := findWay_some h
  refine ⟨storeWhole_entry .., storeWhole_otherWays _ w v s, storeWhole_tree _ w v s, ?_, ?_, ?_, storeWhole_pcd .., ?_, ?_⟩
  · rw [storeWhole_sets]
    simp [h, touch, setEntry]
  · rw [storeWhole_header]
  · rw [storeWhole_header]
    simp only [isFaulty, he]
    cases st <;> simp
  · rw [storeWhole_dir]
    simp
  · intro x hx
    rw [storeWhole_dir]
    simp [hx]

/-- A whole-tile write on a miss with a victim puts the values in the victim's way, and requests no fill (case 1 of R75). -/
theorem writeTileAt_miss {t : TileNo} {w : Fin 8} {s : State} (v : TileValues) (h1 : findWay t s = none)
    (h2 : chooseVictim (setOf t) s = some w) :
    ∃ u, writeTileAt t v s = (u, .written) ∧ tileStored t w v s u ∧
      u = { s with tlc := { s.tlc with sets := u.tlc.sets, queue := u.tlc.queue },
                   mfc := { s.mfc with header := { s.mfc.header with committed := false } },
                   pcd := (markChanged t s).pcd, syp := (markChanged t s).syp } := by
  have h3 : ¬entryAt (setOf t) w s = some { tile := t, state := .faulty } := by
    rcases chooseVictim_some h2 with h | h
    · simp [h]
    · intro h'
      simp [eligible, h'] at h
  have ge := giveWay_eq (setOf t) w t (.dirty v (codeOf t v)) s
  obtain ⟨g1, g2, g3, g4⟩ := giveWay_wayGiven t w (.dirty v (codeOf t v)) s
  generalize hg : giveWay (setOf t) w t (.dirty v (codeOf t v)) s = g at ge g1 g2 g3 g4
  have gp : g.pcd = s.pcd := by rw [ge]; rfl
  have gs : g.syp = s.syp := by rw [ge]; rfl
  have gm : g.mfc = s.mfc := by rw [ge]; rfl
  have hh : (storeWhole t w v g).mfc.header = { s.mfc.header with committed := false } := by
    rw [storeWhole_header]
    simp [isFaulty, g1, gm]
  refine ⟨storeWhole t w v g, by simp [writeTileAt, h1, h2, hg],
    ⟨storeWhole_entry .., fun j x hx => (storeWhole_otherWays t w v g j x hx).trans (g2 j x hx), fun j => ?_, ?_, ?_, ?_,
      (storeWhole_pcd ..).trans (markChanged_pcd_congr t gp), ?_, fun x hx => ?_⟩, ?_⟩
  · rw [storeWhole_tree, g3, g3]
    by_cases hj : j = setOf t
    · simp [hj, touchTree_idem]
    · simp [hj]
  · rw [storeWhole_sets]
    simp [h1, touch, setEntry, g4]
  · rw [hh]
  · rw [hh]
    simp [h3]
  · rw [storeWhole_dir]
    simp [dirOf, gp]
  · rw [storeWhole_dir]
    simp [hx, dirOf, gp]
  · conv_lhs => rw [storeWhole_eq, hh, markChanged_pcd_congr t gp, markChanged_syp_congr t gp gs]
    rw [ge, storeWhole_sets]
    rfl

/-- A whole-tile write that has a way is carried out there, and what it does. -/
theorem writeTileAt_way {t : TileNo} {w : Fin 8} {s : State} (v : TileValues) (h : wayToWrite t w s) :
    ∃ u, writeTileAt t v s = (u, .written) ∧ tileStored t w v s u ∧
      u = { s with tlc := { s.tlc with sets := u.tlc.sets, queue := u.tlc.queue },
                   mfc := { s.mfc with header := { s.mfc.header with committed := false, faulty := u.mfc.header.faulty } },
                   pcd := (markChanged t s).pcd, syp := (markChanged t s).syp } := by
  rcases h with ⟨e, h1, h2, h3⟩ | ⟨h1, h2⟩
  · refine ⟨_, writeTileAt_hit v h1 h2 h3, storeWhole_stored h1 v, ?_⟩
    have hq : (storeWhole t w v s).tlc.queue = s.tlc.queue := by
      rw [storeWhole_sets]
      simp [touch, setEntry]
    conv_lhs => rw [storeWhole_eq]
    rw [hq, storeWhole_header]
  · obtain ⟨u, h3, h4, h5⟩ := writeTileAt_miss v h1 h2
    refine ⟨u, h3, h4, h5.trans ?_⟩
    rw [show u.mfc.header.faulty = s.mfc.header.faulty by rw [h5]]

/-- A wait's end changes the phases of the operations on the tiles chosen, and leaves each at its requester (R72). -/
theorem wake_operationsGoOn (on : TileNo → Bool) (f : OpPhase → OpPhase) (s : State) :
    operationsGoOn (fun u p => if on u then f p else p) s (wake on f s) := by
  simp only [operationsGoOn, wake, State.setTlc]
  refine ⟨?_, List.map_congr_left fun o _ => ?_, ?_⟩
  · cases s.tlc.panel with
    | none => rfl
    | some o =>
      simp only [Option.map_some]
      split <;> rfl
  · split <;> rfl
  · cases jobTile s with
    | none => rfl
    | some u =>
      dsimp only
      split
      · rfl
      · rw [Option.map_id']

/-- Two ends of waits in a row. -/
theorem operationsGoOn_trans {f g : TileNo → OpPhase → OpPhase} {s t u : State} (h1 : operationsGoOn f s t)
    (h2 : operationsGoOn g t u) (hj : jobTile t = jobTile s) : operationsGoOn (fun x p => g x (f x p)) s u := by
  obtain ⟨a1, a2, a3⟩ := h1
  obtain ⟨b1, b2, b3⟩ := h2
  refine ⟨?_, ?_, ?_⟩
  · rw [b1, a1]
    simp [Function.comp_def]
  · rw [b2, a2]
    simp [Function.comp_def]
  · rw [b3, hj, a3]
    cases jobTile s with
    | none => rfl
    | some x => simp [Function.comp_def]

/-! ## The arbiter, and the tiles of a pass -/

/-- A phase is presented exactly when the arbiter may grant its operation. -/
theorem isPresented_iff (p : OpPhase) : isPresented p = true ↔ standsPresented p := by
  cases p <;> simp [isPresented, standsPresented]

/-- The JOB requester has an operation presented (R71). -/
theorem jobPresented_iff (s : State) : jobPresented s = true ↔ ∃ p, s.tlc.job = some p ∧ standsPresented p := by
  unfold jobPresented
  split <;> simp_all [isPresented_iff]

/-- The model's test of an included tile is the rule's (R2, R7). -/
theorem tileIncluded_iff (sh : Shape) (t : TileNo) : tileIncluded sh t = true ↔ inPass sh t := by
  have ht := t.isLt
  simp only [inPass, tileIncluded, Bool.and_eq_true, maskHas, tileChannel, tilePlane]
  constructor
  · rintro ⟨h1, h2⟩
    have h3 : t.val / 168 < 3 := by omega
    refine ⟨⟨t.val / 168, h3⟩, ⟨t.val / 42 % 4, by omega⟩, ⟨t.val / 6 % 7, by omega⟩, ⟨t.val % 6, by omega⟩, ?_,
      by simpa [h3] using h1, of_decide_eq_true h2⟩
    dsimp only
    omega
  · rintro ⟨c, p, tr, tc, h, hm, hp⟩
    have e1 : t.val / 168 = c.val := by omega
    have e2 : t.val / 42 % 4 = p.val := by omega
    exact ⟨by rw [e1]; simpa using hm, decide_eq_true (by rw [e2]; exact hp)⟩

/-! ## Boxes and the engine -/

theorem boxAt_setBox_self (b : Fin 16) (x : Option Box) (s : State) : boxAt b (setBox b x s) = x := by
  simp [boxAt, setBox]

theorem boxAt_setBox_other {b c : Fin 16} (x : Option Box) (s : State) (h : c ≠ b) :
    boxAt c (setBox b x s) = boxAt c s := by
  have h' : ¬(b : ℕ) = c := fun h' => h (Fin.ext h'.symm)
  simp [boxAt, setBox, h']

/-- The boxes hold the same whenever the job table does. -/
theorem boxAt_congr {s t : State} (h : t.jobs.boxes = s.jobs.boxes) (b : Fin 16) : boxAt b t = boxAt b s := by
  simp [boxAt, h]

/-- The end of a box that is not FREE (R52). -/
theorem endBox_some {b : Fin 16} {x : Box} {s : State} (h : boxAt b s = some x) (st : BoxState) (r : JobResult) :
    endBox b st r s =
      raise .jobEnded (setBox b (some { x with state := st, result := some r, newResult := true, hold := none }) s) := by
  simp [endBox, h]

/-- A HOLD_EXPIRY of a held box changes the boxes and the clock alone: its hold ends, and so does every other whose
deadline the clock passes (R57). -/
theorem holdExpiry_held {b : Fin 16} {x : Box} {s : State} {d : Nat} (h : boxAt b s = some x) (hd : x.hold = some d) :
    holdExpiry b s =
        { s with jobs := { s.jobs with boxes := (holdExpiry b s).jobs.boxes },
                 book := { s.book with now := max s.book.now d } } ∧
      boxAt b (holdExpiry b s) = some (expired x) ∧
      ∀ c : Fin 16, c ≠ b → boxAt c (holdExpiry b s) = (boxAt c s).map (holdAt (max s.book.now d)) := by
  simp only [holdExpiry, h, hd]
  refine ⟨rfl, boxAt_setBox_self b _ _, fun c hc => ?_⟩
  exact (boxAt_setBox_other _ _ hc).trans (by simp [boxAt, State.setJobs])

/-- A HOLD_EXPIRY of a box that is FREE or not held changes nothing. -/
theorem holdExpiry_unheld {b : Fin 16} {s : State} (h : ∀ x : Box, boxAt b s = some x → x.hold = none) :
    holdExpiry b s = s := by
  unfold holdExpiry
  split
  · rfl
  · simp [h _ ‹_›]

/-- The count of the UNUSED spares is the number of them (R112). -/
theorem unusedSpares_eq (s : State) : unusedSpares s = sparesUnused s := by
  unfold unusedSpares sparesUnused
  rw [List.countP_eq_length_filter, ← List.toFinset_card_of_nodup ((List.nodup_finRange 24).filter _)]
  congr 1
  ext k
  simp

/-- The moment of a commit's drain, on a running commit's work; no other work changes (R111). -/
theorem commitMoment_goesOn (s : State) : commitGoesOn momentFound s (commitMoment s) := by
  refine ⟨fun b w h => ?_, fun h => ?_⟩
  · unfold commitMoment momentFound
    rw [h]
    dsimp only
    cases hp : w.phase <;> simp [setCommit, setRunning, State.setJobs, h]
  · unfold commitMoment
    split
    · exact absurd ‹_› (h _ _)
    · rfl

/-- The counts of a running commit; no other work changes (R112). -/
theorem countForCommit_goesOn (n k : Nat) (s : State) :
    commitGoesOn (fun w => { w with programmed := w.programmed + n, sparesUsed := w.sparesUsed + k }) s
      (countForCommit n k s) := by
  refine ⟨fun b w h => ?_, fun h => ?_⟩
  · unfold countForCommit
    rw [h]
    rfl
  · unfold countForCommit
    split
    · exact absurd ‹_› (h _ _)
    · rfl

/-- A count for a running commit changes its work alone. -/
theorem countForCommit_eq (n k : Nat) (s : State) :
    countForCommit n k s = { s with jobs := { s.jobs with running := (countForCommit n k s).jobs.running } } := by
  unfold countForCommit
  split <;> rfl

/-- The moment of a commit's drain changes its work alone. -/
theorem commitMoment_eq (s : State) :
    commitMoment s = { s with jobs := { s.jobs with running := (commitMoment s).jobs.running } } := by
  unfold commitMoment
  split
  · split <;> rfl
  · rfl

/-- The test of the drains changes the running work and the withheld replies alone. -/
theorem testDrains_eq (s : State) :
    testDrains s =
      { s with jobs := { s.jobs with running := (testDrains s).jobs.running },
               tlc := { s.tlc with drains := (testDrains s).tlc.drains } } := by
  unfold testDrains
  split
  · rw [commitMoment_eq]
    rfl
  · rfl

/-- The end of a program leaves the flash IDLE and tests the drains. -/
theorem programDone_eq (s : State) :
    programDone s =
      { s with jobs := { s.jobs with running := (programDone s).jobs.running },
               tlc := { s.tlc with drains := (programDone s).tlc.drains }, mfc := { s.mfc with flash := .idle } } := by
  unfold programDone
  rw [testDrains_eq]
  rfl

/-- The end of a program leaves a running commit running, with its counts. -/
theorem programDone_commit {b : Fin 16} {w : CommitWork} {s : State}
    (h : s.jobs.running = some { box := b, work := .commit w }) :
    ∃ p : CommitPhase, (programDone s).jobs.running = some { box := b, work := .commit { w with phase := p } } := by
  unfold programDone testDrains
  split
  · have h' : (dueDrains .ok (setFlash .idle s)).jobs.running = some { box := b, work := .commit w } := by
      simpa using h
    obtain ⟨p, n, k, v⟩ := w
    cases p with
    | headerRead => exact ⟨.headerRead, by simp only [commitMoment, h']⟩
    | sweep u => exact ⟨.sweep u, by simp only [commitMoment, h']⟩
    | drain m => exact ⟨.drain true, by simp only [commitMoment, h']; rfl⟩
    | header => exact ⟨.header, by simp only [commitMoment, h']⟩
  · exact ⟨w.phase, by simpa using h⟩

/-! ## Homes and slots -/

/-- A home of a tile takes a content, and nothing but the homes changes. -/
theorem setTileHome_eq (t : TileNo) (where_ : TileHome) (h : Home TileRecord) (s : State) :
    setTileHome t where_ h s = { s with homes := (setTileHome t where_ h s).homes } := by
  cases where_ <;> rfl

theorem slotAt_setSlot (j k : Fin 12) (x : KeySlot) (s : State) :
    slotAt j (setSlot k x s) = if j = k then x else slotAt j s := by
  by_cases h : j = k
  · subst h
    simp [slotAt, setSlot]
  · have h' : ¬(k : ℕ) = j := fun h' => h (Fin.ext h'.symm)
    simp [slotAt, setSlot, h, h']

/-- The next unused spare is UNUSED, and every lower one is not (R101). -/
theorem nextSpare_some {k : Fin 24} {s : State} (h : nextSpare s = some k) :
    s.mfc.spares[k] = .unused := by
  simpa using List.find?_some h

/-! ## Every command completes -/

/-- No command stops the part: `exec` answers a next state for every command in every state. -/
theorem exec_next (c : Instr) (s : State) : ∃ t : State, exec c s = .next t := by
  cases c <;> exact ⟨_, rfl⟩

end Sys2Proof.Machine
end

