-- ==== Sys2Proof/Laws/PerInstr.lean ====
section
/-! SUPPORT. A statement about each command as syntax: a request command names the kind that it serves and the master whom
it serves, it is the command that `commandOf` gives for them, and its operand needs no check. -/

namespace Sys2Proof.Laws.Requests

open Sys2Proof Sys2Proof.Machine

/-- The kind of request that a command serves, and the master; none for a command that serves no request. -/
def served (i : Instr) : Option (Kind × Master) :=
  match i with
  | .openCapture m => some (.openCapture, m)
  | .putRow m => some (.putRow, m)
  | .discardCapture m => some (.discardCapture, m)
  | .captureState m => some (.captureState, m)
  | .submitJob m => some (.submitJob, m)
  | .readBox m => some (.readBox, m)
  | .holdBox m => some (.holdBox, m)
  | .editBox m => some (.editBox, m)
  | .releaseBox m => some (.releaseBox, m)
  | .cancelJob m => some (.cancelJob, m)
  | .freeBox m => some (.freeBox, m)
  | .readTile m => some (.readTile, m)
  | .writeTile m => some (.writeTile, m)
  | .lockWays m => some (.lockWays, m)
  | .drain m => some (.drain, m)
  | .panelHello m => some (.panelHello, m)
  | .fetchRun m => some (.fetchRun, m)
  | .readNotices m => some (.readNotices, m)
  | .nextStale m => some (.nextStale, m)
  | .readProfile m => some (.readProfile, m)
  | .loadKey m => some (.loadKey, m)
  | .fixKey m => some (.fixKey, m)
  | .eraseKey m => some (.eraseKey, m)
  | .checkKey m => some (.checkKey, m)
  | .releaseKey m => some (.releaseKey, m)
  | .readRegion m => some (.readRegion, m)
  | .readLabel m => some (.readLabel, m)
  | .writeRegion m => some (.writeRegion, m)
  | .writeLabel m => some (.writeLabel, m)
  | .stageQuery m => some (.stageQuery, m)
  | .closeSet m => some (.closeSet, m)
  | .reopenSet m => some (.reopenSet, m)
  | .linkResume m => some (.linkResume, m)
  | .ackEvents m => some (.ackEvents, m)
  | .setEventMask m => some (.setEventMask, m)
  | .readCounters m => some (.readCounters, m)
  | .clearCounters m => some (.clearCounters, m)
  | .writeConfig m => some (.writeConfig, m)
  | .powerOn | .resetAssert | .resetRelease | .startupConfigRead | .spareScan | .headerLoad | .keyHomeLoad
  | .regionLabelLoad | .stageLoad | .panelRequestTransaction _ | .panelReplyTransaction _
  | .panelStatusTransaction | .systemRequestTransaction _ | .systemReplyTransaction _
  | .systemStatusTransaction | .requestFrame _ | .idleMark _ | .badFrame _ _ | .frameGapTimeout
  | .droppingIdleEnd | .replyFrameStart | .replyFrameSent | .fixtureBreak | .holdExpiry _ | .jobStart
  | .passTileOperation | .clearTileOperation | .commitCopyOut | .readTileAccess | .writeTileAccess
  | .panelSnapshot | .fillInstall | .drainReply | .storageFault _ _ | .flashGrant | .fillReadComplete
  | .tileProgramComplete _ | .uncommitProgramComplete _ | .headerCheckReadComplete | .commitDrainDone
  | .commitHeaderComplete _ | .keyFixComplete _ | .keyEraseComplete _ | .recordWriteComplete _
  | .closeProgramComplete _ | .reopenProgramComplete _ | .configProgramComplete _ | .syncCharacterReceived => none

/-- The naming of a command's request is read back, and the command is well-formed. -/
def Statement (i : Instr) : Prop :=
  ∀ (k : Kind) (m : Master), served i = some (k, m) → commandOf k m = i ∧ i.wf = true

theorem powerOn : Statement .powerOn := by
  rintro k m' h
  cases h

theorem resetAssert : Statement .resetAssert := by
  rintro k m' h
  cases h

theorem resetRelease : Statement .resetRelease := by
  rintro k m' h
  cases h

theorem startupConfigRead : Statement .startupConfigRead := by
  rintro k m' h
  cases h

theorem spareScan : Statement .spareScan := by
  rintro k m' h
  cases h

theorem headerLoad : Statement .headerLoad := by
  rintro k m' h
  cases h

theorem keyHomeLoad : Statement .keyHomeLoad := by
  rintro k m' h
  cases h

theorem regionLabelLoad : Statement .regionLabelLoad := by
  rintro k m' h
  cases h

theorem stageLoad : Statement .stageLoad := by
  rintro k m' h
  cases h

theorem panelRequestTransaction (mosi : List Byte) : Statement (.panelRequestTransaction mosi) := by
  rintro k m' h
  cases h

theorem panelReplyTransaction (clocks : Nat) : Statement (.panelReplyTransaction clocks) := by
  rintro k m' h
  cases h

theorem panelStatusTransaction : Statement .panelStatusTransaction := by
  rintro k m' h
  cases h

theorem systemRequestTransaction (mosi : List Byte) : Statement (.systemRequestTransaction mosi) := by
  rintro k m' h
  cases h

theorem systemReplyTransaction (clocks : Nat) : Statement (.systemReplyTransaction clocks) := by
  rintro k m' h
  cases h

theorem systemStatusTransaction : Statement .systemStatusTransaction := by
  rintro k m' h
  cases h

theorem requestFrame (chars : List Byte) : Statement (.requestFrame chars) := by
  rintro k m' h
  cases h

theorem idleMark (chars : List Byte) : Statement (.idleMark chars) := by
  rintro k m' h
  cases h

theorem badFrame (chars : List Byte) (framingError : Bool) : Statement (.badFrame chars framingError) := by
  rintro k m' h
  cases h

theorem frameGapTimeout : Statement .frameGapTimeout := by
  rintro k m' h
  cases h

theorem droppingIdleEnd : Statement .droppingIdleEnd := by
  rintro k m' h
  cases h

theorem replyFrameStart : Statement .replyFrameStart := by
  rintro k m' h
  cases h

theorem replyFrameSent : Statement .replyFrameSent := by
  rintro k m' h
  cases h

theorem fixtureBreak : Statement .fixtureBreak := by
  rintro k m' h
  cases h

theorem openCapture (m : Master) : Statement (.openCapture m) := by
  rintro k m' h
  cases h
  exact ⟨rfl, rfl⟩

theorem putRow (m : Master) : Statement (.putRow m) := by
  rintro k m' h
  cases h
  exact ⟨rfl, rfl⟩

theorem discardCapture (m : Master) : Statement (.discardCapture m) := by
  rintro k m' h
  cases h
  exact ⟨rfl, rfl⟩

theorem captureState (m : Master) : Statement (.captureState m) := by
  rintro k m' h
  cases h
  exact ⟨rfl, rfl⟩

theorem submitJob (m : Master) : Statement (.submitJob m) := by
  rintro k m' h
  cases h
  exact ⟨rfl, rfl⟩

theorem readBox (m : Master) : Statement (.readBox m) := by
  rintro k m' h
  cases h
  exact ⟨rfl, rfl⟩

theorem holdBox (m : Master) : Statement (.holdBox m) := by
  rintro k m' h
  cases h
  exact ⟨rfl, rfl⟩

theorem editBox (m : Master) : Statement (.editBox m) := by
  rintro k m' h
  cases h
  exact ⟨rfl, rfl⟩

theorem releaseBox (m : Master) : Statement (.releaseBox m) := by
  rintro k m' h
  cases h
  exact ⟨rfl, rfl⟩

theorem cancelJob (m : Master) : Statement (.cancelJob m) := by
  rintro k m' h
  cases h
  exact ⟨rfl, rfl⟩

theorem freeBox (m : Master) : Statement (.freeBox m) := by
  rintro k m' h
  cases h
  exact ⟨rfl, rfl⟩

theorem holdExpiry (box : Fin 16) : Statement (.holdExpiry box) := by
  rintro k m' h
  cases h

theorem jobStart : Statement .jobStart := by
  rintro k m' h
  cases h

theorem passTileOperation : Statement .passTileOperation := by
  rintro k m' h
  cases h

theorem clearTileOperation : Statement .clearTileOperation := by
  rintro k m' h
  cases h

theorem commitCopyOut : Statement .commitCopyOut := by
  rintro k m' h
  cases h

theorem readTile (m : Master) : Statement (.readTile m) := by
  rintro k m' h
  cases h
  exact ⟨rfl, rfl⟩

theorem readTileAccess : Statement .readTileAccess := by
  rintro k m' h
  cases h

theorem writeTile (m : Master) : Statement (.writeTile m) := by
  rintro k m' h
  cases h
  exact ⟨rfl, rfl⟩

theorem writeTileAccess : Statement .writeTileAccess := by
  rintro k m' h
  cases h

theorem panelSnapshot : Statement .panelSnapshot := by
  rintro k m' h
  cases h

theorem fillInstall : Statement .fillInstall := by
  rintro k m' h
  cases h

theorem lockWays (m : Master) : Statement (.lockWays m) := by
  rintro k m' h
  cases h
  exact ⟨rfl, rfl⟩

theorem drain (m : Master) : Statement (.drain m) := by
  rintro k m' h
  cases h
  exact ⟨rfl, rfl⟩

theorem drainReply : Statement .drainReply := by
  rintro k m' h
  cases h

theorem storageFault (place : FaultPlace) (changes : List (Fin 32 × Int)) : Statement (.storageFault place changes) := by
  rintro k m' h
  cases h

theorem flashGrant : Statement .flashGrant := by
  rintro k m' h
  cases h

theorem fillReadComplete : Statement .fillReadComplete := by
  rintro k m' h
  cases h

theorem tileProgramComplete (verified : Bool) : Statement (.tileProgramComplete verified) := by
  rintro k m' h
  cases h

theorem uncommitProgramComplete (verified : Bool) : Statement (.uncommitProgramComplete verified) := by
  rintro k m' h
  cases h

theorem headerCheckReadComplete : Statement .headerCheckReadComplete := by
  rintro k m' h
  cases h

theorem commitDrainDone : Statement .commitDrainDone := by
  rintro k m' h
  cases h

theorem commitHeaderComplete (verified : Bool) : Statement (.commitHeaderComplete verified) := by
  rintro k m' h
  cases h

theorem panelHello (m : Master) : Statement (.panelHello m) := by
  rintro k m' h
  cases h
  exact ⟨rfl, rfl⟩

theorem fetchRun (m : Master) : Statement (.fetchRun m) := by
  rintro k m' h
  cases h
  exact ⟨rfl, rfl⟩

theorem readNotices (m : Master) : Statement (.readNotices m) := by
  rintro k m' h
  cases h
  exact ⟨rfl, rfl⟩

theorem nextStale (m : Master) : Statement (.nextStale m) := by
  rintro k m' h
  cases h
  exact ⟨rfl, rfl⟩

theorem readProfile (m : Master) : Statement (.readProfile m) := by
  rintro k m' h
  cases h
  exact ⟨rfl, rfl⟩

theorem loadKey (m : Master) : Statement (.loadKey m) := by
  rintro k m' h
  cases h
  exact ⟨rfl, rfl⟩

theorem fixKey (m : Master) : Statement (.fixKey m) := by
  rintro k m' h
  cases h
  exact ⟨rfl, rfl⟩

theorem keyFixComplete (verified : Bool) : Statement (.keyFixComplete verified) := by
  rintro k m' h
  cases h

theorem eraseKey (m : Master) : Statement (.eraseKey m) := by
  rintro k m' h
  cases h
  exact ⟨rfl, rfl⟩

theorem keyEraseComplete (verified : Bool) : Statement (.keyEraseComplete verified) := by
  rintro k m' h
  cases h

theorem checkKey (m : Master) : Statement (.checkKey m) := by
  rintro k m' h
  cases h
  exact ⟨rfl, rfl⟩

theorem releaseKey (m : Master) : Statement (.releaseKey m) := by
  rintro k m' h
  cases h
  exact ⟨rfl, rfl⟩

theorem readRegion (m : Master) : Statement (.readRegion m) := by
  rintro k m' h
  cases h
  exact ⟨rfl, rfl⟩

theorem readLabel (m : Master) : Statement (.readLabel m) := by
  rintro k m' h
  cases h
  exact ⟨rfl, rfl⟩

theorem writeRegion (m : Master) : Statement (.writeRegion m) := by
  rintro k m' h
  cases h
  exact ⟨rfl, rfl⟩

theorem writeLabel (m : Master) : Statement (.writeLabel m) := by
  rintro k m' h
  cases h
  exact ⟨rfl, rfl⟩

theorem recordWriteComplete (verified : Bool) : Statement (.recordWriteComplete verified) := by
  rintro k m' h
  cases h

theorem stageQuery (m : Master) : Statement (.stageQuery m) := by
  rintro k m' h
  cases h
  exact ⟨rfl, rfl⟩

theorem closeSet (m : Master) : Statement (.closeSet m) := by
  rintro k m' h
  cases h
  exact ⟨rfl, rfl⟩

theorem closeProgramComplete (verified : Bool) : Statement (.closeProgramComplete verified) := by
  rintro k m' h
  cases h

theorem reopenSet (m : Master) : Statement (.reopenSet m) := by
  rintro k m' h
  cases h
  exact ⟨rfl, rfl⟩

theorem reopenProgramComplete (verified : Bool) : Statement (.reopenProgramComplete verified) := by
  rintro k m' h
  cases h

theorem linkResume (m : Master) : Statement (.linkResume m) := by
  rintro k m' h
  cases h
  exact ⟨rfl, rfl⟩

theorem ackEvents (m : Master) : Statement (.ackEvents m) := by
  rintro k m' h
  cases h
  exact ⟨rfl, rfl⟩

theorem setEventMask (m : Master) : Statement (.setEventMask m) := by
  rintro k m' h
  cases h
  exact ⟨rfl, rfl⟩

theorem readCounters (m : Master) : Statement (.readCounters m) := by
  rintro k m' h
  cases h
  exact ⟨rfl, rfl⟩

theorem clearCounters (m : Master) : Statement (.clearCounters m) := by
  rintro k m' h
  cases h
  exact ⟨rfl, rfl⟩

theorem writeConfig (m : Master) : Statement (.writeConfig m) := by
  rintro k m' h
  cases h
  exact ⟨rfl, rfl⟩

theorem configProgramComplete (verified : Bool) : Statement (.configProgramComplete verified) := by
  rintro k m' h
  cases h

theorem syncCharacterReceived : Statement .syncCharacterReceived := by
  rintro k m' h
  cases h

end Sys2Proof.Laws.Requests
end

