-- ==== Sys2Proof/Tests/Slice0.lean ====
section
/-! SUPPORT. Tests: ill-formed commands are refused; the spec's worked examples, each with its section; and for every
statement with hypotheses a concrete state and operands that meet them (the theorems named `witness_…`). -/

namespace Sys2Proof.Tests

open Sys2Proof Sys2Proof.Machine

set_option Elab.async false

/-! ## Ill-formed and well-formed commands -/

/-- R190: an SPI request has a first byte, and it is not the type of one of the other two transactions. -/
theorem test_wf_requestTransaction :
    (Instr.panelRequestTransaction []).wf = false ∧ (Instr.panelRequestTransaction [0x02#8]).wf = false ∧
    (Instr.panelRequestTransaction [0x03#8]).wf = false ∧ (Instr.panelRequestTransaction [0x01#8]).wf = true ∧
    (Instr.systemRequestTransaction []).wf = false ∧ (Instr.systemRequestTransaction [0x02#8]).wf = false ∧
    (Instr.systemRequestTransaction [0x03#8]).wf = false ∧ (Instr.systemRequestTransaction [0x07#8]).wf = true := by
  decide

/-- R167: a frame has at most 306 characters after its sync character, and a bad one has at least one. -/
theorem test_wf_frames :
    (Instr.requestFrame (List.replicate 307 0#8)).wf = false ∧ (Instr.requestFrame (List.replicate 306 0#8)).wf = true ∧
    (Instr.idleMark (List.replicate 307 0#8)).wf = false ∧ (Instr.idleMark (List.replicate 306 0#8)).wf = true ∧
    (Instr.badFrame (List.replicate 307 0#8) true).wf = false ∧ (Instr.badFrame [] true).wf = false ∧
    (Instr.badFrame [0#8] true).wf = true := by
  decide +kernel

/-- R82: a storage fault changes one or more values, each to one within -511..511. -/
theorem test_wf_storageFault :
    (Instr.storageFault (.entry 0 0) []).wf = false ∧ (Instr.storageFault (.entry 0 0) [(0, 512)]).wf = false ∧
    (Instr.storageFault (.queued 3) [(31, -512)]).wf = false ∧
    (Instr.storageFault (.queued 3) [(31, -511), (0, 511)]).wf = true := by
  decide

/-- The table gives its rows no bits: no word spells a command. -/
theorem test_decode_none : decodeTableWord 0 0 = none ∧ decodeTableWord 8 1 = none := by
  decide

/-! ## Worked examples -/

/-- Section 2.2 of the introduction: tile 274 is green, plane 2, base 270, and node (35, 14) has value index 19. -/
theorem test_tile_274 :
    tileChannel 274 = 1 ∧ tilePlane 274 = 2 ∧ nodeX 274 19 = 35 ∧ nodeY 274 19 = 14 ∧ nodeX 274 0 = 32 ∧
    nodeY 274 0 = 12 ∧ nodeX 274 31 = 39 ∧ nodeY 274 31 = 15 := by
  decide

/-- Section 2.4 of the introduction: the FAULTS counter of PANEL has index 23. -/
theorem test_counter_index : counterIndex .panel .faults = 23 ∧ counterIndex (.station 0) .taken = 0 := by
  decide

/-- Section 1.3: the worked targets. -/
theorem test_targets :
    meanTruncated [4100, 4180, 4220] = 4166 ∧ meanTruncated [9012, 9020, 9033, 9041] = 9026 := by
  decide

/-- Section 1.4: the pairs of planes. -/
theorem test_slope_pairs :
    [slopePair 2 0, slopePair 2 1, slopePair 3 0, slopePair 3 1, slopePair 3 2, slopePair 4 2, slopePair 4 3] =
      [(0, 1), (0, 1), (0, 1), (1, 2), (1, 2), (2, 3), (2, 3)] := by
  decide

/-- Section 1.5: the worked slopes, truncated toward zero. -/
theorem test_slopes :
    slopeOf 4000 9000 256 512 = 312 ∧ slopeOf 5000 4800 256 512 = -12 ∧ slopeOf 5000 5200 256 512 = 12 ∧
    slopeOf 3000 7000 128 384 = 250 := by
  decide

/-- Section 1.6: the worked residuals and rounding cases. -/
theorem test_residuals :
    rawResidual 4200 4000 312 = 41 ∧ rawResidual 9400 9000 312 = 82 ∧ limitTo 64 82 = 64 ∧ rawResidual 0 3 128 = -2 ∧
    rawResidual 5 0 128 = 3 ∧ rawResidual 0 250 300 = -53 ∧ rawResidual 7 7 300 = 0 ∧
    rawResidual 65000 1000 16 = 256000 := by
  decide

/-- Section 1.6: the means of the worked substitutions, and an old value clamped. -/
theorem test_substitution :
    borrowedMean [40, 36, 45] = 40 ∧ borrowedMean [15, 12] = 13 ∧ borrowedMean [7, 9] = 8 ∧ borrowedMean [-3, 6] = 1 ∧
    borrowedMean [4, -9] = -2 ∧ borrowedMean [] = 0 ∧ limitTo 384 (500 - 20) = 384 ∧ isOutside 384 (500 - 20) = true ∧
    limitTo 384 (-392) = -384 := by
  decide

/-- A PLRU tree written n0 to n6. -/
def tree (n0 n1 n2 n3 n4 n5 n6 : Bool) : Vector Bool 7 :=
  #v[n0, n1, n2, n3, n4, n5, n6]

/-- Section 4.10: the trees after the touches of steps 1, 3 to 9 and 12. -/
theorem test_touches :
    touchTree 0 (tree false false false false false false false) = tree true true false true false false false ∧
    touchTree 4 (tree true true false true false false false) = tree false true true true false true false ∧
    touchTree 2 (tree false true true true false true false) = tree true false true true true true false ∧
    touchTree 6 (tree true false true true true true false) = tree false false false true true true true ∧
    touchTree 3 (tree false false false true true true true) = tree true false false true false true true ∧
    touchTree 5 (tree true false false true false true true) = tree false false true true false false true ∧
    touchTree 2 (tree false false true true false false true) = tree true false true true true false true ∧
    touchTree 7 (tree true false true true true false true) = tree false false false true true false false ∧
    touchTree 1 (tree false false false true true false false) = tree true true false false true false false := by
  decide

/-- Section 4.10: the walks of steps 3, 5, 6, 7, 8, 9 and 12, two ways locked but in the last. -/
theorem test_walks :
    walkTree (tree true true false true false false false) 2 = 4 ∧
    walkTree (tree true false true true true true false) 2 = 6 ∧
    walkTree (tree false false false true true true true) 2 = 3 ∧
    walkTree (tree true false false true false true true) 2 = 5 ∧
    walkTree (tree false false true true false false true) 2 = 2 ∧
    walkTree (tree true false true true true false true) 2 = 7 ∧
    walkTree (tree false false false true true false false) 0 = 1 := by
  decide

/-- R136: the check value of the nine characters 1 to 9 is CBF43926h. -/
theorem test_crc32 : crc32 [0x31, 0x32, 0x33, 0x34, 0x35, 0x36, 0x37, 0x38, 0x39] = 0xCBF43926#32 := by
  decide +kernel

/-- R167: the register runs over the nine characters 1 to 9 to 29B1h, as the polynomial, start and bit order give. -/
theorem test_crc16 : crc16 [0x31, 0x32, 0x33, 0x34, 0x35, 0x36, 0x37, 0x38, 0x39] = 0x29B1#16 := by
  decide +kernel

/-- Section 10.7: values -1 and 5 at indices 0 and 1 give bytes FFh and 17h. -/
theorem test_packing :
    (packTile ((Vector.replicate 32 (0 : Int)).set 0 (-1) |>.set 1 5)).take 3 = [0xFF#8, 0x17#8, 0x00#8] := by
  decide +kernel

/-- Section 9.9: the counter and link after each step of the worked sequence that a single frame makes. -/
theorem test_link_states :
    linkStateOf 88 = .normal ∧ linkStateOf 95 = .normal ∧ linkStateOf 96 = .warning ∧ linkStateOf 93 = .normal ∧
    linkStateOf 101 = .warning ∧ linkStateOf 125 = .warning ∧ linkStateOf 127 = .warning ∧ linkStateOf 128 = .guarded ∧
    linkStateOf 133 = .guarded ∧ linkStateOf 251 = .guarded := by
  decide

/-! ## Small states -/

/-- The part after start-up, with nothing else done. -/
def ready : State :=
  { State.reset with boot := { phase := .done, maxSeq := none } }

/-- A request with tag 7, the first that a port takes. -/
def ask (k : Kind) (m : Master) (body : List Byte) : Request :=
  { master := m, ticket := 0, kind := k, tag := 7, body := body }

/-- The request is outstanding at its port and waits at its owning block. -/
def asked (k : Kind) (m : Master) (body : List Byte) (s : State) : State :=
  let s := s.setInbox [ask k m body]
  match m with
  | .station st => s.setFxl { s.fxl with outstanding := s.fxl.outstanding.set st (some 0) }
  | .system => s.setSyp { s.syp with pending := some 0 }
  | .panel => s.setPnp { s.pnp with pending := some 0 }

/-- A body of fields with one byte each, from number 1. -/
def bytesBody (bs : List Byte) : List Byte :=
  fieldBytes (bs.zipIdx.map fun b => (b.2 + 1, [b.1]))

/-- Values that are all zero. -/
def zeros : TileValues :=
  Vector.replicate 32 0

/-- A tile stands in a way. -/
def cached (t : TileNo) (w : Fin 8) (e : EntryState) (s : State) : State :=
  setEntry (setOf t) w (some { tile := t, state := e }) s

/-- A CLEAN tile of zeros. -/
def cleanTile (t : TileNo) : EntryState :=
  .clean zeros (codeOf t zeros)

/-- A DIRTY tile of zeros. -/
def dirtyTile (t : TileNo) : EntryState :=
  .dirty zeros (codeOf t zeros)

/-- A QUEUED box of STATION1. -/
def queued (k : JobKind) (a : Option PassArgs) : Box :=
  { state := .queued, owner := 1, kind := k, args := a, seq := 0xFFFF, progress := 0, started := false,
    cancelNoted := false, hold := none, holdExpired := false, result := none, newResult := false }

/-- The same box RUNNING, its start checks passed. -/
def running (k : JobKind) (a : Option PassArgs) : Box :=
  { queued k a with state := .running, started := true }

/-- Default arguments with a target of 9000 everywhere. -/
def args : PassArgs :=
  { modes := Vector.replicate 3 (.fixed (Vector.replicate 4 9000)), window := none, stepLimit := 64, valLimit := 384,
    minSlope := 16, tolerance := 2, flatLimit := 64 }

/-- Green alone, two planes. -/
def greenPair : Shape :=
  { codes := [256, 512], mask := #v[false, true, false] }

/-- A complete capture of the shape, every row 4000 on plane 0 and 9000 on plane 1, owned by STATION1. -/
def capture (st : CapState) : Cap :=
  { state := st, owner := some 1, number := 8, shape := some greenPair,
    rows := Vector.ofFn fun i : Fin 336 =>
      if i.val / 28 = 1 then some { dup := 0, values := Vector.replicate 48 4000 }
      else if i.val / 28 = 4 then some { dup := 0, values := Vector.replicate 48 9000 } else none }

/-- The work of a pass at a tile. -/
def passAt (t : TileNo) : PassWork :=
  { passWorkAtStart (capture .locked) greenPair args with next := t }

/-- Box 3 runs the work, with an operation presented. -/
def runs (k : JobKind) (a : Option PassArgs) (w : Work) (s : State) : State :=
  let s := setRunning (some { box := 3, work := w }) (setBox 3 (some (running k a)) s)
  s.setTlc { s.tlc with job := some .presented }

/-- The flash programs or reads. -/
def flashing (f : FlashState) (s : State) : State :=
  s.setMfc { s.mfc with flash := f }

/-- A key of 16 zero bytes loaded by STATION1. -/
def key : Key :=
  { cls := .content, material := List.replicate 16 0, check := crc32 (List.replicate 16 0), loader := 1 }

/-- The slot holds the state. -/
def slotted (k : Fin 12) (x : SlotState) (s : State) : State :=
  setSlot k { state := x, pending := false, homeFault := false } s

/-- A region record, and a label record. -/
def region : RegionFields :=
  { code := 63, tuners := 0xFF, language := [69, 78, 71], mains := 60, rating := 15 }

def label : LabelFields :=
  { serial := [65, 45, 49], model := 0x6340, year := 2096, month := 2, day := 29 }

/-- The set's stage and stage program. -/
def staged (x : Stage) (p : StageProgram) (s : State) : State :=
  setStage { s.srb.stage with stage := x, program := p } s

/-- A committed, converged, unmixed map, with no required keys and both records committed: nothing is missing. -/
def whole (s : State) : State :=
  let s := setHeader { s.mfc.header with committed := true, converged := true } s
  let s := s.setConfig { s.config with required := 0 }
  setLabel { content := some label, version := 1, committed := true, pending := false, homeFault := false }
    (setRegion { content := some region, version := 1, committed := true, pending := false, homeFault := false } s)

/-- The link's counter and state. -/
def linked (lec : Nat) (l : LinkState) (s : State) : State :=
  s.setFxl { s.fxl with lec := lec, link := l, receiver := .inFrame }

/-- A reply with an empty body. -/
def anyReply : Reply :=
  { kind := 0x40, tag := 7, status := .ok, body := .empty }

/-! ## Witnesses: the machine and its invariants -/

/-- A command waits; an empty queue with a held box whose deadline is this microsecond. -/
theorem witness_StepServesFront :
    (∃ (s : State) (c : Instr) (rest : List Instr), s.pending = c :: rest) ∧
    ∃ (s : State) (b : Fin 16) (x : Box) (d : Nat),
      s.pending = [] ∧ boxAt b s = some x ∧ x.hold = some d ∧ s.book.now ≤ d ∧ d ≤ s.book.now :=
  ⟨⟨ready.setPending [.jobStart, .drainReply], .jobStart, [.drainReply], rfl⟩,
    setBox 15 (some { queued .clearMap none with hold := some 0 }) ready, 15, { queued .clearMap none with hold := some 0 },
    0, by decide +kernel⟩

/-- The link at 255 in SILENT with 127 IDLE_MARK frames counted, and a reply in a place. -/
def silentLink : State :=
  ({ ready with
    fxl := { Fxl.reset with lec := 255, link := .silent, release := 127, queue := [2],
                            place := Vector.ofFn fun i : Fin 4 =>
                              if i = 2 then some { reply := anyReply, own := false } else none } }).setPending [.fixtureBreak]

theorem witness_LinkStaysSound :
    ∃ s t : State, (LinkSound s.fxl ∧ ReplyQueueSound s.fxl) ∧ step s = .next t :=
  ⟨silentLink, _, by unfold LinkSound ReplyQueueSound; decide +kernel, rfl⟩

theorem witness_NoticesStaySound : ∃ s t : State, NoticesSound s.pcd ∧ step s = .next t :=
  ⟨({ ready with pcd := { Pcd.reset with dir := Vector.replicate 504 .stale, notices := (List.finRange 504).take 32 } }
      ).setPending [.fixtureBreak], _, by unfold NoticesSound; decide +kernel, rfl⟩

/-- A copy of tile 5. -/
def copy5 : TileCopy :=
  { tile := 5, values := zeros, code := codeOf 5 zeros }

/-- Four copies queued; tile 503 FAULTY in way 0, with a faulty count of 1. -/
def soundCache : State :=
  let s := cached 503 0 .faulty { ready with tlc := { Tlc.reset with queue := [copy5, copy5, copy5, copy5] } }
  setHeader { s.mfc.header with faulty := 1 } s

theorem soundCache_entries (i : Fin 16) (w : Fin 8) (e : Entry) (h : entryAt i w soundCache = some e) :
    i = setOf 503 ∧ w = 0 ∧ e.tile = 503 := by
  have hw : ∀ (i : Fin 16) (w : Fin 8), entryAt i w soundCache = none ∨
      (i = setOf 503 ∧ w = 0 ∧ entryAt i w soundCache = some { tile := 503, state := .faulty }) := by decide +kernel
  rcases hw i w with hn | ⟨h1, h2, h3⟩
  · rw [hn] at h; cases h
  · rw [h3] at h; cases h; exact ⟨h1, h2, rfl⟩

theorem witness_TheCacheStaysSound :
    ∃ s t : State, QueueSound s ∧ s.tlc.queue.length = 4 ∧ EntriesSound s ∧ s.mfc.header.faulty = 1 ∧ step s = .next t := by
  refine ⟨soundCache.setPending [.flashGrant], _, ?_, rfl, ⟨fun h => absurd h (by decide +kernel), ⟨?_, ?_⟩, ?_⟩, rfl, rfl⟩
  · unfold QueueSound; decide +kernel
  · intro i w e h
    obtain ⟨h1, -, h3⟩ := soundCache_entries i w e h
    rw [h3, h1]
  · intro i w x e f h1 h2 _
    rw [(soundCache_entries i w e h1).2.1, (soundCache_entries i x f h2).2.1]
  · decide +kernel

/-- A pass RUNNING in box 3 with the capture LOCKED. -/
theorem witness_RunningJobStaysSound :
    ∃ s t : State, RunningSound s ∧ s.cap.state = .locked ∧ step s = .next t := by
  let x : Box := running .runPass (some args)
  let s : State := (runs .runPass (some args) (.pass (passAt 251)) (ready.setCap (capture .locked))).setPending [.jobStart]
  have hb : ∀ b : Fin 16, boxAt b s = if b = 3 then some x else none := by decide +kernel
  have hr : s.jobs.running = some { box := 3, work := .pass (passAt 251) } := rfl
  refine ⟨s, _, ⟨fun b y h1 _ => ?_, fun b w h => ?_, fun b y h1 _ => ?_, ⟨fun _ => ⟨3, _, hr⟩, fun _ => rfl⟩⟩, rfl, rfl⟩
  · rw [hb] at h1
    split at h1
    · subst b; exact ⟨_, hr⟩
    · cases h1
  · rw [hr] at h; cases h; exact ⟨x, hb 3, rfl, rfl, rfl⟩
  · rw [hb] at h1
    split at h1
    · cases h1; rfl
    · cases h1

/-- A committed header with the flash-committed marker. -/
def committedHome : HeaderRecord :=
  { signed := true, generation := 65535, passCount := 1, codes := [256, 512], committed := true, converged := true,
    mixed := false, seq := 9 }

/-- The marker set and the header home claiming committed; the uncommit program in flight. -/
def uncommitting : State :=
  ({ ready with
      homes := { Homes.new with header := .holds committedHome },
      mfc := { Mfc.reset with marker := true,
                              flash := .programming (.uncommit { committedHome with committed := false }) 10 } }
      ).setPending [.uncommitProgramComplete true]

theorem witness_CommittedPromiseHolds :
    ∃ s t : State, PromiseSound s ∧ s.mfc.marker = true ∧ s.mfc.flash ≠ .idle ∧ step s = .next t :=
  ⟨uncommitting, _,
    ⟨fun h => absurd h (by decide +kernel), show ({ committedHome with committed := false } : HeaderRecord).committed = false from rfl,
      by decide +kernel, by decide +kernel⟩, rfl, by decide +kernel, rfl⟩

/-- Spare 23 mapped for tile 503, and that tile being programmed there. -/
def remapped : State :=
  { ready with
    mfc := { Mfc.reset with
      spares := Vector.ofFn fun k : Fin 24 => if k = 23 then .mapped 503 else .dead,
      flash := .programming (.tile { tile := 503, values := zeros, code := codeOf 503 zeros } (.spare 23)) 7 } }

theorem remapped_spares (j : Fin 24) (t : TileNo) (h : remapped.mfc.spares[j] = .mapped t) : j = 23 := by
  by_contra hj
  have hd : ∀ j : Fin 24, j ≠ 23 → remapped.mfc.spares[j] = .dead := by decide +kernel
  rw [hd j hj] at h
  cases h

theorem witness_RemapTableStaysSound : ∃ s t : State, RemapSound s ∧ step s = .next t :=
  ⟨remapped.setPending [.tileProgramComplete true], _,
    ⟨fun h => absurd h (by decide +kernel),
      show homeOf 503 (remapped.setPending [.tileProgramComplete true]) = .spare 23 by decide +kernel,
      fun j k t hj hk => (remapped_spares j t hj).trans (remapped_spares k t hk).symm⟩, rfl⟩

/-- The greatest values, in a way and in the queue. -/
def top : TileValues :=
  Vector.replicate 32 511

def filled : State :=
  let s := cached 503 7 (.dirty top (codeOf 503 top)) ready
  s.setTlc { s.tlc with queue := [{ tile := 503, values := top, code := codeOf 503 top }] }

theorem top_inRange : inRange top := by
  unfold inRange; decide +kernel

theorem witness_MapValuesStayInRange : ∃ s t : State, ValuesSound s ∧ step s = .next t := by
  refine ⟨filled.setPending [.flashGrant], _, ⟨fun i w e h => ?_, ?_, ?_, ?_, ?_, ?_, trivial, ?_⟩, rfl⟩
  · have hw : ∀ (i : Fin 16) (w : Fin 8), entryAt i w (filled.setPending [.flashGrant]) = none ∨
        entryAt i w (filled.setPending [.flashGrant]) =
          some { tile := 503, state := .dirty top (codeOf 503 top) } := by decide +kernel
    rcases hw i w with hn | hs
    · rw [hn] at h; cases h
    · rw [hs] at h; cases h; exact top_inRange
  · intro c hc
    have : c = { tile := 503, values := top, code := codeOf 503 top } := List.mem_singleton.mp hc
    rw [this]; exact top_inRange
  · intro f hf; cases hf
  · intro o ho; cases ho
  · intro t
    have h : (filled.setPending [.flashGrant]).homes.tile[t] = .erased :=
      Vector.getElem_replicate (n := 504) (a := Home.erased) t.isLt
    rw [h]; trivial
  · intro k
    have h : (filled.setPending [.flashGrant]).homes.spare[k] = .erased :=
      Vector.getElem_replicate (n := 24) (a := Home.erased) k.isLt
    rw [h]; trivial
  · intro b x h
    have hn : boxAt b (filled.setPending [.flashGrant]) = none :=
      Vector.getElem_replicate (n := 16) (a := (none : Option Box)) b.isLt
    rw [hn] at h; cases h

/-- A set CLOSED with every item present, whose reopen is in flight. -/
def closedSet : State :=
  staged .closed .reopening
    (flashing (.programming (.record (.reopen (ask .reopenSet (.station 0) []) 1 1)) 5) (whole ready))

theorem witness_ClosedSetKeepsItsItems : ∃ s t : State, ClosedSound s ∧ s.srb.stage.stage = .closed ∧ step s = .next t :=
  ⟨closedSet.setPending [.reopenProgramComplete true], _,
    ⟨fun h => absurd h (by decide +kernel), by unfold KeyProgramsSound; decide +kernel,
      by unfold StageProgramSound; decide +kernel, by decide +kernel⟩, rfl, rfl⟩

/-! ## Witnesses: layouts, replies and counters -/

/-- A payload of 300; a REPLY kind is bad from a station, as is address 16; a length of 301; a CRC that differs. -/
theorem witness_FramesAreJudged :
  (∃ (k : FrameKind) (payload : List Byte), k ≠ .reply ∧ payload.length ≤ 300 ∧ 300 ≤ payload.length) ∧
  ((∃ chars : List Byte, chars ≠ [] ∧ frameOpen chars.dropLast = true) ∧
     (∃ a b : Byte, stationFrameKind a = none ∧ stationFrameKind b = none ∧ a = 0x04 ∧ b = 0x10) ∧
     (∃ a h l : Byte, (stationFrameKind a).isSome = true ∧ natOfBytes [h, l] = 301) ∧
     ∃ (k : FrameKind) (st : Station) (tag c d : Byte) (payload : List Byte), k ≠ .reply ∧ payload.length ≤ 300 ∧
       natOfBytes [c, d] ≠
         (crc16 (addressKind k st :: tag :: bytesOfNat 2 payload.length ++ payload)).toNat) :=
  ⟨⟨.request, List.replicate 300 0, by decide +kernel⟩,
    ⟨⟨[0x00, 0x07], by decide⟩, ⟨0x04, 0x10, by decide⟩, ⟨0x00, 0x01, 0x2D, by decide⟩,
      .request, 3, 7, 0, 0, [0x44], by decide +kernel⟩⟩

theorem witness_LayoutsAreReadBack :
  (∃ v : TileValues, ∀ k : Fin 32, -512 ≤ v[k] ∧ v[k] ≤ 511) ∧
  (∃ (count : Nat) (fs : List (Nat × List Byte)), count ≤ 255 ∧ rising (fs.map (·.1)) = true ∧ fs ≠ [] ∧
       ∀ f ∈ fs, 1 ≤ f.1 ∧ f.1 ≤ count ∧ f.2.length < 65536) ∧
  ((∃ body : List Byte, body.length = 298) ∧
     (∃ (len : Nat) (part : List Byte), 2 ≤ len ∧ len ≤ 300 ∧ part.length < len) ∧
     (∃ len : Nat, len < 65536 ∧ (len < 2 ∨ 300 < len)) ∧ ∃ b : Byte, b ≠ 0x01#8 ∧ b ≠ 0x02#8 ∧ b ≠ 0x03#8) :=
  ⟨⟨(Vector.replicate 32 (-512)).set 31 511, by decide +kernel⟩,
    ⟨255, [(1, []), (2, [0]), (255, [1, 2])], by decide⟩,
    ⟨⟨List.replicate 298 0, by decide +kernel⟩, ⟨2, [0x10], by decide⟩, ⟨301, by decide⟩, 0x04, by decide⟩⟩

/-- A reply arrives at an empty place, at a place with an answer, and for an abandoned request. -/
theorem witness_RepliesReachTheirPorts :
    (∃ s : State, s.syp.pending = some 0 ∧ s.pnp.pending = some 0) ∧
    (∃ (s : State) (st : Station) (n : Nat), n ∈ s.fxl.abandoned ∧ s.fxl.place[st] = none) ∧
    (∃ (s : State) (st : Station) (n : Nat), n ∉ s.fxl.abandoned ∧ s.fxl.outstanding[st] = some n ∧ s.fxl.place[st] = none) ∧
    ∃ (s : State) (st : Station) (n : Nat),
      n ∉ s.fxl.abandoned ∧ s.fxl.outstanding[st] = some n ∧ (s.fxl.place[st]).isSome = true :=
  ⟨⟨asked .readProfile .system [] (asked .readProfile .panel [] ready), rfl, rfl⟩,
    ⟨ready.setFxl { ready.fxl with abandoned := [4] }, 3, 4, by decide +kernel⟩,
    ⟨asked .drain (.station 2) [] ready, 2, 0, by decide +kernel⟩,
    asked .drain (.station 2) [] silentLink, 2, 0, by decide +kernel⟩

theorem witness_CountersRise : ∃ i : Fin 24, i ≠ counterIndex .panel .faults :=
  ⟨0, by decide⟩

/-- R186: a counter at its top wraps to 0 with its wrap flag and COUNTER_WRAP. -/
theorem test_counter_wrap :
    let s := ready.setMct { Mct.reset with counter := Mct.reset.counter.set 23 0xFFFFFFFF#32 }
    let t := rise .panel .faults 1 s
    counterOf .panel .faults t = 0 ∧ t.mct.wrap[23] = true ∧ flagSet .counterWrap t = true := by
  decide +kernel

/-! ## Witnesses: resets and start-up -/

/-- Every job may be in flight at a reset; a header, a close and a reopen presented before their grants; nothing in flight. -/
theorem witness_ResetsLeaveResetValues :
    (∃ s : State, s.boot.phase = .held) ∧
    (∀ j ∈ [FlashJob.tile copy5 .own, .tile copy5 (.spare 23), .header committedHome, .uncommit committedHome,
        .record (.keyFix (ask .fixKey (.station 1) []) 11 key), .record (.keyErase (ask .eraseKey (.station 1) []) 11),
        .record (.close (ask .closeSet (.station 0) []) 1 0), .record (.reopen (ask .reopenSet (.station 0) []) 1 1),
        .record (.region (ask .writeRegion .system []) region 1), .record (.label (ask .writeLabel .system []) label 1),
        .record (.config (ask .writeConfig .system []) Config.defaults)],
      ∃ (m : Mfc) (q : BitVec 32), m.flash = .programming j q) ∧
    (∀ p ∈ [RecordProgram.header, .close (ask .closeSet (.station 0) []) 1 0, .reopen (ask .reopenSet (.station 0) []) 1 1],
      ∃ m : Mfc, m.flash = .idle ∧ p ∈ m.programs) ∧
    ∃ m : Mfc, m.flash = .idle ∧ m.programs = [] :=
  ⟨⟨{ ready with boot := { phase := .held, maxSeq := none } }, rfl⟩,
    fun j _ => ⟨{ Mfc.reset with flash := .programming j 1 }, 1, rfl⟩,
    fun p _ => ⟨{ Mfc.reset with programs := [p] }, rfl, List.mem_singleton.mpr rfl⟩, Mfc.reset, rfl, rfl⟩

/-- R112, R155, R162: a reset while a close is presented leaves the stage home failing its check, and one while a commit's
header is presented the header home; that a key record only presented leaves its home is log 38. -/
theorem test_reset_in_flight :
    let s := ready.setMfc { Mfc.reset with
      programs := [.keyFix (ask .fixKey (.station 1) []) 11 key, .header, .close (ask .closeSet (.station 0) []) 1 0] }
    ∃ t, exec .resetAssert s = .next t ∧ t.homes.stage = .failing ∧ t.homes.header = .failing ∧
      t.homes.key[(11 : Fin 12)] = .erased :=
  ⟨_, rfl, by decide +kernel⟩

/-- Start-up stands at a phase with its homes. -/
def booting (p : BootPhase) (h : Homes) : State :=
  { State.reset with boot := { phase := p, maxSeq := none }, homes := h }

/-- A spare home that claims tile 9. -/
def claim (seq : BitVec 32) : TileRecord :=
  { tile := 9, seq := seq, values := zeros, code := codeOf 9 zeros }

/-- The config home holds a record of limit 15, one of limit 16, and none; the spare homes are erased, failing, and hold
records with and without agreeing codes, alone, newer than the claimant's and of the same sequence. -/
theorem witness_StartupReadsConfigAndSpares :
    (∃ (s : State) (r : ConfigRecord), s.boot.phase = .config ∧ s.homes.config = .holds r ∧ configPasses r = true) ∧
    (∃ s : State, s.boot.phase = .config ∧ ∀ r : ConfigRecord, s.homes.config = .holds r → configPasses r = false) ∧
    (∃ (s : State) (k : Fin 24), s.boot.phase = .spare k ∧ s.homes.spare[k] = .erased) ∧
    (∃ (s : State) (k : Fin 24), s.boot.phase = .spare k ∧ s.homes.spare[k] = .failing) ∧
    (∃ (s : State) (k : Fin 24) (r : TileRecord),
      s.boot.phase = .spare k ∧ s.homes.spare[k] = .holds r ∧ codeAgrees r.tile r.values r.code = false) ∧
    (∃ (s : State) (k : Fin 24) (r : TileRecord),
      s.boot.phase = .spare k ∧ s.homes.spare[k] = .holds r ∧ codeAgrees r.tile r.values r.code = true ∧
        claimant r.tile s = none) ∧
    (∃ (s : State) (k j : Fin 24) (r : TileRecord),
      s.boot.phase = .spare k ∧ s.homes.spare[k] = .holds r ∧ codeAgrees r.tile r.values r.code = true ∧
        claimant r.tile s = some j ∧ spareSequence j s < r.seq) ∧
    ∃ (s : State) (k j : Fin 24) (r : TileRecord),
      s.boot.phase = .spare k ∧ s.homes.spare[k] = .holds r ∧ codeAgrees r.tile r.values r.code = true ∧
        claimant r.tile s = some j ∧ ¬spareSequence j s < r.seq :=
  ⟨⟨booting .config { Homes.new with config := .holds { signed := true, config := { Config.defaults with reopenLimit := 15 }, seq := 1 } },
      { signed := true, config := { Config.defaults with reopenLimit := 15 }, seq := 1 }, rfl, rfl, by decide +kernel⟩,
    ⟨booting .config { Homes.new with config := .holds { signed := true, config := { Config.defaults with reopenLimit := 16 }, seq := 1 } },
      rfl, fun r h => by cases h; decide +kernel⟩,
    ⟨booting (.spare 23) Homes.new, 23, rfl, by decide +kernel⟩,
    ⟨booting (.spare 0) { Homes.new with spare := Vector.replicate 24 .failing }, 0, rfl, by decide +kernel⟩,
    ⟨booting (.spare 0) { Homes.new with spare := Vector.replicate 24 (.holds { claim 1 with code := codeOf 8 zeros }) }, 0,
      { claim 1 with code := codeOf 8 zeros }, rfl, by decide +kernel⟩,
    ⟨booting (.spare 0) { Homes.new with spare := Vector.replicate 24 (.holds (claim 1)) }, 0, claim 1, rfl,
      by decide +kernel⟩,
    ⟨setSpare 0 (.mapped 9) (booting (.spare 1) { Homes.new with
        spare := (Vector.replicate 24 (.holds (claim 2))).set 0 (.holds (claim 1)) }), 1, 0, claim 2, rfl,
      by decide +kernel⟩,
    setSpare 0 (.mapped 9) (booting (.spare 1) { Homes.new with spare := Vector.replicate 24 (.holds (claim 1)) }), 1, 0,
    claim 1, rfl, by decide +kernel⟩

theorem witness_StartupReadsHeaderAndKeys :
    (∃ (s : State) (r : HeaderRecord), s.boot.phase = .header ∧ s.homes.header = .holds r ∧ r.signed = true) ∧
    (∃ s : State, s.boot.phase = .header ∧ ∀ r : HeaderRecord, s.homes.header = .holds r → r.signed = false) ∧
    (∃ (s : State) (k : Fin 12), s.boot.phase = .key k ∧ s.homes.key[k] = .erased) ∧
    (∃ (s : State) (k : Fin 12) (r : KeyRecord),
      s.boot.phase = .key k ∧ s.homes.key[k] = .holds r ∧ keyRecordPasses k r = true) ∧
    ∃ (s : State) (k : Fin 12) (r : KeyRecord),
      s.boot.phase = .key k ∧ s.homes.key[k] = .holds r ∧ keyRecordPasses k r = false :=
  ⟨⟨booting .header { Homes.new with header := .holds committedHome }, committedHome, rfl, rfl, rfl⟩,
    ⟨booting .header { Homes.new with header := .holds { committedHome with signed := false } }, rfl,
      fun r h => by cases h; rfl⟩,
    ⟨booting (.key 11) Homes.new, 11, rfl, by decide +kernel⟩,
    ⟨booting (.key 11) { Homes.new with key := Vector.replicate 12 (.holds { slot := 11, key := some key, seq := 3 }) }, 11,
      { slot := 11, key := some key, seq := 3 }, rfl, by decide +kernel⟩,
    booting (.key 0) { Homes.new with key := Vector.replicate 12 (.holds { slot := 11, key := some key, seq := 3 }) }, 0,
    { slot := 11, key := some key, seq := 3 }, rfl, by decide +kernel⟩

/-- A stored region, a stored label, and a stage record. -/
def storedRegion (r : RegionFields) : StoredRecord RegionFields := { content := r, version := 2, seq := 5 }
def storedLabel (r : LabelFields) : StoredRecord LabelFields := { content := r, version := 2, seq := 6 }
def stageRecord (x : Stage) (n : Nat) : StageRecord := { stage := x, closeCount := 1, reopenCount := n, seq := 7 }

/-- Records in range and just out of it (rating 15 and 16, 29 February 2096 and 2097, a reopen count of 15 and 16), and a
CLOSED stage whose items survive and do not. -/
theorem witness_StartupReadsRecordsAndStage :
    (∃ (s : State) (r : StoredRecord RegionFields),
      s.boot.phase = .region ∧ s.homes.region = .holds r ∧ regionFits r.content = true) ∧
    (∃ (s : State) (r : StoredRecord RegionFields),
      s.boot.phase = .region ∧ s.homes.region = .holds r ∧ regionFits r.content = false) ∧
    (∃ s : State, s.boot.phase = .region ∧ s.homes.region = .erased) ∧
    (∃ s : State, s.boot.phase = .region ∧ s.homes.region = .failing) ∧
    (∃ (s : State) (r : StoredRecord LabelFields),
      s.boot.phase = .label ∧ s.homes.label = .holds r ∧ labelFits r.content = true) ∧
    (∃ (s : State) (r : StoredRecord LabelFields),
      s.boot.phase = .label ∧ s.homes.label = .holds r ∧ labelFits r.content = false) ∧
    (∃ s : State, s.boot.phase = .label ∧ s.homes.label = .erased) ∧
    (∃ s : State, s.boot.phase = .label ∧ s.homes.label = .failing) ∧
    (∃ s : State, s.boot.phase = .stage ∧ s.homes.stage = .erased) ∧
    (∃ (s : State) (r : StageRecord), s.boot.phase = .stage ∧ s.homes.stage = .holds r ∧ stagePasses r = false) ∧
    (∃ (s : State) (r : StageRecord),
      s.boot.phase = .stage ∧ s.homes.stage = .holds r ∧ stagePasses r = true ∧ r.stage = .closed ∧ itemsSurvive s = true) ∧
    ∃ (s : State) (r : StageRecord),
      s.boot.phase = .stage ∧ s.homes.stage = .holds r ∧ stagePasses r = true ∧ r.stage = .closed ∧ itemsSurvive s = false :=
  ⟨⟨booting .region { Homes.new with region := .holds (storedRegion region) }, storedRegion region, rfl, rfl, by decide⟩,
    ⟨booting .region { Homes.new with region := .holds (storedRegion { region with rating := 16 }) },
      storedRegion { region with rating := 16 }, rfl, rfl, by decide⟩,
    ⟨booting .region Homes.new, rfl, rfl⟩,
    ⟨booting .region { Homes.new with region := .failing }, rfl, rfl⟩,
    ⟨booting .label { Homes.new with label := .holds (storedLabel label) }, storedLabel label, rfl, rfl, by decide⟩,
    ⟨booting .label { Homes.new with label := .holds (storedLabel { label with year := 2097 }) },
      storedLabel { label with year := 2097 }, rfl, rfl, by decide⟩,
    ⟨booting .label Homes.new, rfl, rfl⟩,
    ⟨booting .label { Homes.new with label := .failing }, rfl, rfl⟩,
    ⟨booting .stage Homes.new, rfl, rfl⟩,
    ⟨booting .stage { Homes.new with stage := .holds (stageRecord .closed 16) }, stageRecord .closed 16, rfl, rfl, by decide⟩,
    ⟨whole (booting .stage { Homes.new with stage := .holds (stageRecord .closed 15) }), stageRecord .closed 15, rfl, rfl,
      by decide, rfl, by decide +kernel⟩,
    booting .stage { Homes.new with stage := .holds (stageRecord .closed 15) }, stageRecord .closed 15, rfl, rfl,
    by decide, rfl, by decide +kernel⟩

/-! ## Witnesses: the ports -/

/-- A whole record is taken before start-up is done, with and without something outstanding, for a kind in the catalogue,
one that is not (FFh), and a PANEL_HELLO (40h) with and without a body; a record cut short; an ignored one. -/
theorem witness_RequestTransactionsAreAccepted :
    (∃ mosi : List Byte, spiRequest mosi = .cut) ∧ (∃ mosi : List Byte, spiRequest mosi = .ignored) ∧
    (∃ (mosi : List Byte) (tag : Byte) (body : List Byte) (k : Kind),
      spiRequest mosi = .record 0x30 tag body ∧ kindOfCode 0x30 = some k ∧ (0x30 : Byte) ≠ kindCode .panelHello) ∧
    (∃ (mosi : List Byte) (tag : Byte) (body : List Byte),
      spiRequest mosi = .record 0xFF tag body ∧ kindOfCode 0xFF = none) ∧
    (∀ body : List Byte, body ∈ [[], [0x00#8]] → ∃ (mosi : List Byte) (tag : Byte),
      spiRequest mosi = .record 0x40 tag body ∧ (0x40 : Byte) = kindCode .panelHello) ∧
    (∃ s : State, startupDone s = false) ∧
    (∃ s : State, startupDone s = true ∧ panelOutstanding s = true ∧ systemOutstanding s = true) ∧
    ∃ s : State, startupDone s = true ∧ panelOutstanding s = false ∧ systemOutstanding s = false :=
  ⟨⟨[0x01, 0x00, 0x02, 0x30], by decide⟩, ⟨[0x01, 0x01, 0x2D], by decide⟩,
    ⟨[0x01, 0x00, 0x02, 0x30, 0x07], 0x07, [], .readTile, by decide⟩, ⟨[0x01, 0x00, 0x02, 0xFF, 0x07], 0x07, [], by decide⟩,
    by
      intro body h
      simp only [List.mem_cons, List.not_mem_nil, or_false] at h
      rcases h with rfl | rfl
      · exact ⟨[0x01, 0x00, 0x02, 0x40, 0x07], 0x07, by decide⟩
      · exact ⟨[0x01, 0x00, 0x03, 0x40, 0x07, 0x00], 0x07, by decide⟩, ⟨State.reset, rfl⟩,
    ⟨asked .readProfile .system [] (asked .readProfile .panel [] ready), by decide +kernel⟩, ready, by decide +kernel⟩

/-- A slot full and read whole, or cut short by one byte; and empty slots. -/
theorem witness_RepliesAreReadOutAndLinesFollow :
    (∃ (s : State) (r : Reply) (clocks : Nat), s.syp.slot = some r ∧ 2 + (replyBytes r).length ≤ clocks) ∧
    (∃ (s : State) (r : Reply) (clocks : Nat), s.pnp.slot = some r ∧ (∀ t n xs, r.body ≠ .run t n xs) ∧
      2 + (replyBytes r).length ≤ clocks) ∧
    (∃ (s : State) (r : Reply) (clocks : Nat), s.pnp.slot = some r ∧ clocks < 2 + (replyBytes r).length) ∧
    ∃ s : State, s.syp.slot = none ∧ s.pnp.slot = none :=
  ⟨⟨ready.setSyp { ready.syp with slot := some anyReply }, anyReply, 5, rfl, by decide⟩,
    ⟨ready.setPnp { ready.pnp with slot := some anyReply }, anyReply, 5, rfl, (fun _ _ _ h => by cases h), by decide⟩,
    ⟨ready.setPnp { ready.pnp with slot := some anyReply }, anyReply, 4, rfl, by decide⟩, ready, rfl, rfl⟩

/-- A run of tiles 5 and 0, OK and FAULT. -/
def run50 : List RunTile :=
  [{ tile := 5, status := .ok, values := zeros }, { tile := 0, status := .fault, values := zeros }]

/-- The reply of that run, in the slot of a part whose tiles 5 and 0 have changed since. -/
def runReply : Reply :=
  { anyReply with body := .run 5 2 run50 }

def delivering (notices : List TileNo) (overflow : Bool) : State :=
  setDir 0 .sendingChanged (setDir 5 .sendingChanged
    { ready with pnp := { Pnp.reset with slot := some runReply },
                 pcd := { Pcd.reset with notices := notices, overflow := overflow } })

/-- The reply to a FETCH_RUN stands whole in the slot: 30 notices and no overflow leaving room for two; 32 notices and a
SENDING_CHANGED tile; the overflow flag set. -/
theorem witness_RunsAreDelivered :
    (∃ (s : State) (r : Reply) (first : TileNo) (n : Nat) (xs : List RunTile) (clocks : Nat),
      s.pnp.slot = some r ∧ r.body = .run first n xs ∧ 2 + (replyBytes r).length ≤ clocks ∧ (xs.map (·.tile)).Nodup ∧
      s.pcd.overflow = false ∧ s.pcd.notices.length + xs.length ≤ 32 ∧ (∀ x ∈ xs, x.tile ∉ s.pcd.notices) ∧ xs ≠ []) ∧
    (∃ (s : State) (r : Reply) (first : TileNo) (n : Nat) (xs : List RunTile) (clocks : Nat) (x : RunTile),
      s.pnp.slot = some r ∧ r.body = .run first n xs ∧ 2 + (replyBytes r).length ≤ clocks ∧ (xs.map (·.tile)).Nodup ∧
      x ∈ xs ∧ s.pcd.overflow = false ∧ s.pcd.notices.length = 32 ∧ dirOf x.tile s = .sendingChanged ∧
      x.tile ∉ s.pcd.notices) ∧
    ∃ (s : State) (r : Reply) (first : TileNo) (n : Nat) (xs : List RunTile) (clocks : Nat),
      s.pnp.slot = some r ∧ r.body = .run first n xs ∧ 2 + (replyBytes r).length ≤ clocks ∧ (xs.map (·.tile)).Nodup ∧
      s.pcd.overflow = true :=
  ⟨⟨delivering (((List.finRange 504).drop 100).take 30) false, runReply, 5, 2, run50, 500, rfl, rfl, by decide +kernel,
      by decide +kernel, rfl, by decide +kernel, by decide +kernel, by decide +kernel⟩,
    ⟨delivering (((List.finRange 504).drop 100).take 32) false, runReply, 5, 2, run50, 500,
      { tile := 0, status := .fault, values := zeros }, rfl, rfl, by decide +kernel, by decide +kernel, by decide +kernel,
      rfl, by decide +kernel, by decide +kernel, by decide +kernel⟩,
    delivering [] true, runReply, 5, 2, run50, 500, rfl, rfl, by decide +kernel, by decide +kernel, rfl⟩

/-- A reply is being sent with another deferred behind it, and with none. -/
def sendingLink (d : Option Reply) : State :=
  ready.setFxl
    { Fxl.reset with sending := true, queue := [2, 0],
                     place := Vector.ofFn fun i : Fin 4 => if i = 2 then some { reply := anyReply, own := true } else none,
                     deferred := Vector.ofFn fun i : Fin 4 => if i = 2 then d else none }

theorem witness_ReceiverRepliesAndBreaksMove :
    (∃ s : State, s.fxl.receiver = .hunting ∧ s.fxl.sending = false ∧ s.fxl.queue ≠ []) ∧
    (∃ s : State, s.fxl.receiver = .dropping) ∧
    (∃ (s : State) (st : Station) (rest : List Station) (p : Placed),
      s.fxl.sending = true ∧ s.fxl.queue = st :: rest ∧ s.fxl.place[st] = some p ∧ s.fxl.deferred[st] = none) ∧
    (∃ (s : State) (st : Station) (rest : List Station) (p : Placed) (r : Reply),
      s.fxl.sending = true ∧ s.fxl.queue = st :: rest ∧ s.fxl.place[st] = some p ∧ s.fxl.deferred[st] = some r) ∧
    (∃ s : State, s.fxl.receiver ≠ .inFrame ∧ s.fxl.link = .silent) ∧
    ∃ s : State, s.fxl.receiver ≠ .inFrame ∧ s.fxl.link ≠ .silent :=
  ⟨⟨silentLink, by decide +kernel⟩, ⟨ready.setFxl { ready.fxl with receiver := .dropping }, rfl⟩,
    ⟨sendingLink none, 2, [0], { reply := anyReply, own := true }, by decide +kernel⟩,
    ⟨sendingLink (some anyReply), 2, [0], { reply := anyReply, own := true }, anyReply, by decide +kernel⟩,
    ⟨silentLink, by decide +kernel⟩, ready, by decide +kernel⟩

/-- An empty IDLE_MARK of STATION1. -/
def idleChars : List Byte :=
  frameChars .idleMark 1 7 []

/-- A gap, and a bad frame; the counter at 247, where 8 more still fit, and at 248, where they do not; and SILENT. An IDLE_MARK
outside SILENT at a counter of 0; in SILENT at the 127th and the 128th. -/
theorem witness_FramesMoveTheCounter :
  ((∃ (s : State) (c : Instr) (r : Receiver), s.fxl.receiver = .inFrame ∧ c = .frameGapTimeout ∧ r = .hunting ∧
       s.fxl.link ≠ .silent ∧ s.fxl.lec + 8 ≤ 255) ∧
     (∃ (s : State) (chars : List Byte) (framing : Bool) (r : Receiver), s.fxl.receiver = .inFrame ∧
       badVerdict chars framing = some r ∧ s.fxl.link ≠ .silent ∧ 255 < s.fxl.lec + 8) ∧
     ∃ s : State, s.fxl.receiver = .inFrame ∧ s.fxl.link = .silent) ∧
  ((∃ (s : State) (chars : List Byte) (st : Station) (tag : Byte) (payload : List Byte), s.fxl.receiver = .inFrame ∧
       judgeFrame chars = .good .idleMark st tag payload ∧ s.fxl.link ≠ .silent ∧ s.fxl.lec = 0) ∧
     (∃ (s : State) (chars : List Byte) (st : Station) (tag : Byte) (payload : List Byte), s.fxl.receiver = .inFrame ∧
       judgeFrame chars = .good .idleMark st tag payload ∧ s.fxl.link = .silent ∧ s.fxl.release + 1 < 128) ∧
     ∃ (s : State) (chars : List Byte) (st : Station) (tag : Byte) (payload : List Byte), s.fxl.receiver = .inFrame ∧
       judgeFrame chars = .good .idleMark st tag payload ∧ s.fxl.link = .silent ∧ 128 ≤ s.fxl.release + 1) :=
  ⟨⟨⟨linked 247 .guarded ready, .frameGapTimeout, .hunting, by decide +kernel⟩,
      ⟨linked 248 .guarded ready, [0x04], false, .dropping, by decide +kernel⟩, linked 255 .silent ready, rfl, rfl⟩,
    ⟨⟨linked 0 .normal ready, idleChars, 1, 7, [], by decide +kernel⟩,
      ⟨(linked 255 .silent ready).setFxl { (linked 255 .silent ready).fxl with release := 126 }, idleChars, 1, 7, [],
        by decide +kernel⟩,
      (linked 255 .silent ready).setFxl { (linked 255 .silent ready).fxl with release := 127 }, idleChars, 1, 7, [],
      by decide +kernel⟩⟩

/-- A READ_TILE, a WRITE_TILE, an unknown kind and an empty payload of STATION1; the link in each case of the clauses. -/
theorem witness_RequestFramesAreTaken :
    (∃ (chars : List Byte) (st : Station) (tag : Byte) (body : List Byte) (k : Kind),
      judgeFrame chars = .good .request st tag (0x30 :: body) ∧ kindOfCode 0x30 = some k ∧ isReadKind k = true) ∧
    (∃ (chars : List Byte) (st : Station) (tag : Byte) (body : List Byte) (k : Kind),
      judgeFrame chars = .good .request st tag (0x31 :: body) ∧ kindOfCode 0x31 = some k ∧ isReadKind k = false) ∧
    (∃ (chars : List Byte) (st : Station) (tag : Byte) (body : List Byte),
      judgeFrame chars = .good .request st tag (0xFF :: body) ∧ kindOfCode 0xFF = none) ∧
    (∃ (chars : List Byte) (st : Station) (tag : Byte), judgeFrame chars = .good .request st tag []) ∧
    (∃ s : State, s.fxl.receiver = .inFrame ∧ s.fxl.link = .silent) ∧
    (∃ s : State, s.fxl.receiver = .inFrame ∧ s.fxl.link ≠ .silent ∧ startupDone s = false) ∧
    (∃ s : State, s.fxl.receiver = .inFrame ∧ s.fxl.link ≠ .silent ∧ startupDone s = true ∧
      (s.fxl.outstanding[(1 : Station)]).isSome = true) ∧
    (∃ s : State, s.fxl.receiver = .inFrame ∧ startupDone s = true ∧ s.fxl.outstanding[(1 : Station)] = none ∧
      s.fxl.link = .guarded) ∧
    ∃ s : State, s.fxl.receiver = .inFrame ∧ startupDone s = true ∧ s.fxl.outstanding[(1 : Station)] = none ∧
      s.fxl.link = .warning :=
  ⟨⟨frameChars .request 1 7 [0x30], 1, 7, [], .readTile, by decide +kernel⟩,
    ⟨frameChars .request 1 7 [0x31], 1, 7, [], .writeTile, by decide +kernel⟩,
    ⟨frameChars .request 1 7 [0xFF], 1, 7, [], by decide +kernel⟩,
    ⟨frameChars .request 1 7 [], 1, 7, by decide +kernel⟩, ⟨linked 255 .silent ready, by decide +kernel⟩,
    ⟨linked 0 .normal State.reset, by decide +kernel⟩,
    ⟨linked 0 .normal (asked .drain (.station 1) [] ready), by decide +kernel⟩,
    ⟨linked 128 .guarded ready, by decide +kernel⟩, linked 127 .warning ready, by decide +kernel⟩

/-- R46, R53: a QUEUED box carries neither cancel noted (field 6) nor new result (field 10); a CANCELLED one carries both. -/
theorem test_box_fields :
    let b : Box := { state := .queued, owner := 1, kind := .commitMap, args := none, seq := 3, progress := 0,
                     started := false, cancelNoted := false, hold := none, holdExpired := false, result := none, newResult := false }
    (boxFields (some { box := b, timeLeft := none })).map (·.1) = [1, 2, 4, 5, 7, 8] ∧
      (boxFields (some { box := { b with state := .cancelled }, timeLeft := none })).map (·.1) = [1, 2, 4, 5, 6, 7, 8, 10] := by
  decide +kernel

/-- R141, R192: an EMPTY slot with home fault set and nothing pending gives its flags as one byte with bit 1. -/
theorem test_slot_flags :
    (slotFields 4 { state := .empty, pending := false, homeFault := true }).getLast? = some (3, [0x02#8]) := by
  decide +kernel

/-- R191: every byte of an ignored transaction, here one of 4 bytes and an unknown type, is answered FFh. R133: a PANEL_HELLO
is answered TAKEN, and its reply stands in the slot in the same step. -/
theorem test_panel_transactions :
    (∃ t, exec (.panelRequestTransaction [0x09#8, 0#8, 0#8, 0#8]) ready = .next t ∧
      t.pnp.out = .bytes [0xFF#8, 0xFF#8, 0xFF#8, 0xFF#8]) ∧
    ∃ t, exec (.panelRequestTransaction [0x01#8, 0#8, 2#8, kindCode .panelHello, 7#8]) ready = .next t ∧
      t.pnp.out = .bytes [kindCode .panelHello, 7#8, 0x00#8] ∧ t.pnp.pending = none ∧
      (t.pnp.slot.map (·.status)) = some .ok ∧ t.inbox = [] := by
  exact ⟨⟨_, rfl, by decide +kernel⟩, ⟨_, rfl, by decide +kernel⟩⟩

/-- Section 9.9, steps 7 and 8: in GUARDED a WRITE_TILE is answered LINK_GUARDED and a READ_TILE is taken. -/
theorem test_guarded :
    (∃ t, exec (.requestFrame (frameChars .request 1 7 [0x31])) (linked 133 .guarded ready) = .next t ∧ t.fxl.lec = 132 ∧
      t.inbox = [] ∧ (t.fxl.place[(1 : Station)]).map (·.reply.status) = some .linkGuarded) ∧
    ∃ t, exec (.requestFrame (frameChars .request 1 7 [0x30])) (linked 132 .guarded ready) = .next t ∧ t.fxl.lec = 131 ∧
      t.inbox.map (·.kind) = [.readTile] ∧ t.fxl.place[(1 : Station)] = none :=
  ⟨⟨_, rfl, by decide +kernel⟩, _, rfl, by decide +kernel⟩

/-- Section 9.9, steps 2, 11 and 15: 88 + 8 enters WARNING, 251 + 8 enters SILENT at 255, and the 128th IDLE_MARK frame
releases the link. -/
theorem test_link_walk :
    (∃ t, exec .frameGapTimeout (linked 88 .normal ready) = .next t ∧ t.fxl.lec = 96 ∧ t.fxl.link = .warning ∧
      flagSet .linkWarning t = true) ∧
    (∃ t, exec .frameGapTimeout (linked 251 .guarded ready) = .next t ∧ t.fxl.lec = 255 ∧ t.fxl.link = .silent ∧
      flagSet .linkSilent t = true) ∧
    ∃ t, exec (.idleMark idleChars)
        ((linked 255 .silent ready).setFxl { (linked 255 .silent ready).fxl with release := 127 }) = .next t ∧
      t.fxl.lec = 0 ∧ t.fxl.link = .normal ∧ flagSet .linkReleased t = true :=
  ⟨⟨_, rfl, by decide +kernel⟩, ⟨_, rfl, by decide +kernel⟩, _, rfl, by decide +kernel⟩

/-! ## Witnesses: the capture -/

/-- The body of an OPEN_CAPTURE of the worked capture: two planes at codes 256 and 512, green. -/
def openBody : List Byte :=
  fieldBytes [(1, [2]), (2, [1, 0, 2, 0]), (3, [2])]

/-- The body of a PUT_ROW of plane 1, green, row 27. -/
def rowBody (y : Byte) : List Byte :=
  fieldBytes [(1, [1]), (2, [1]), (3, [y]), (4, List.replicate 96 0xFF)]

theorem witness_CapturesAreOpenedFilledAndDiscarded :
  ((∃ (s : State) (i : Station) (req : Request) (sh : Shape), lineRequest .capture .openCapture i req s ∧
       s.cap.state ≠ .locked ∧ parseShape req.body = some sh) ∧
     ∃ (s : State) (i : Station) (req : Request), lineRequest .capture .discardCapture i req s ∧ s.cap.owner = some i ∧
       req.body = [] ∧ s.cap.state = .consumed) ∧
  ((∃ (s : State) (i : Station) (req : Request) (a : RowArgs) (sh : Shape), lineRequest .capture .putRow i req s ∧
       s.cap.owner = some i ∧ s.cap.state = .opened ∧ parseRow req.body = some a ∧ s.cap.shape = some sh ∧
       sh.codes.length ≤ 4 ∧ rowFits a sh = true ∧ rowAt a.plane a.channel a.y s.cap = none) ∧
     ∃ (s : State) (i : Station) (req : Request) (a : RowArgs) (sh : Shape), lineRequest .capture .putRow i req s ∧
       s.cap.owner = some i ∧ s.cap.state = .complete ∧ parseRow req.body = some a ∧ s.cap.shape = some sh ∧
       sh.codes.length ≤ 4 ∧ rowFits a sh = true ∧ (rowAt a.plane a.channel a.y s.cap).map (·.dup) = some 255) :=
  ⟨⟨⟨asked .openCapture (.station 1) openBody (ready.setCap (capture .consumed)), 1, ask .openCapture (.station 1) openBody,
        greenPair, by unfold lineRequest; decide +kernel⟩,
      asked .discardCapture (.station 1) [] (ready.setCap (capture .consumed)), 1, ask .discardCapture (.station 1) [],
      by unfold lineRequest; decide +kernel⟩,
    ⟨⟨asked .putRow (.station 1) (rowBody 27)
          (ready.setCap { capture .opened with rows := (capture .opened).rows.set 139 none }), 1,
        ask .putRow (.station 1) (rowBody 27), { plane := 1, channel := 1, y := 27, values := Vector.replicate 48 65535 },
        greenPair, by unfold lineRequest; decide +kernel⟩,
      asked .putRow (.station 1) (rowBody 0) (ready.setCap { capture .complete with
          rows := (capture .complete).rows.set 112 (some { dup := 255, values := Vector.replicate 48 0 }) }), 1,
      ask .putRow (.station 1) (rowBody 0), { plane := 1, channel := 1, y := 0, values := Vector.replicate 48 65535 },
      greenPair, by unfold lineRequest; decide +kernel⟩⟩

/-- Section 2.9, steps 1 and 8: the capture takes number 8 and opens 0 of 56 rows, and the row that completes it. -/
theorem test_worked_capture :
    (∃ t, exec (.openCapture (.station 1))
        (asked .openCapture (.station 1) openBody (ready.setCap { capture .consumed with number := 7 })) = .next t ∧
      t.cap.number = 8 ∧ presentRows t.cap = 0 ∧ (t.fxl.place[(1 : Station)]).map (·.reply.body) =
        some (.opened 8 56 .consumed (some 1))) ∧
    ∃ t, exec (.putRow (.station 1))
        (asked .putRow (.station 1) (rowBody 27)
          (ready.setCap { capture .opened with rows := (capture .opened).rows.set 139 none })) = .next t ∧
      t.cap.state = .complete ∧
      (t.fxl.place[(1 : Station)]).map (·.reply.body) = some (.rowStored 0 48 56 .complete) :=
  ⟨⟨_, rfl, by decide +kernel⟩, _, rfl, by decide +kernel⟩

/-! ## Witnesses: reads -/

theorem box0 : parseBoxOnly (bytesBody [0]) = some 0 := by
  decide

theorem slot11 : parseSlotOnly (bytesBody [11]) = some 11 := by
  decide

/-- A capture of two planes in green with a row of plane 1 absent. -/
def gappedCapture : Cap :=
  { capture .opened with rows := (capture .opened).rows.set 139 none }

/-- Each read from a station, SYSTEM and PANEL; the detail of plane 1 and green in EMPTY, with a row absent and one present,
of plane 2, and of red; every item missing, and none. -/
theorem witness_ReadsReplyAndChangeNothing :
    (∀ m : Master, m ∈ [.station 0, .system, .panel] →
      (∀ k : Kind, k ∈ [.captureState, .readProfile, .stageQuery, .readCounters] →
        ∃ (s : State) (req : Request), waitingRequest k m s = some req ∧ req.body = []) ∧
      ∃ (s : State) (req : Request) (n : Fin 12), waitingRequest .checkKey m s = some req ∧
        parseSlotOnly req.body = some n) ∧
    (∃ (s : State) (req : Request), waitingRequest .captureState .panel s = some req ∧
      parseDetail req.body = some (some (1, 1)) ∧ s.cap.shape = none) ∧
    (∃ (s : State) (req : Request) (sh : Shape) (y z : Nat), waitingRequest .captureState .panel s = some req ∧
      parseDetail req.body = some (some (1, 1)) ∧ s.cap.shape = some sh ∧ 1 < sh.codes.length ∧ maskHas sh.mask 1 = true ∧
      y < 28 ∧ z < 28 ∧ rowAt 1 1 y s.cap = none ∧ (rowAt 1 1 z s.cap).isSome = true) ∧
    (∃ (s : State) (req : Request) (sh : Shape), waitingRequest .captureState .panel s = some req ∧
      parseDetail req.body = some (some (2, 1)) ∧ s.cap.shape = some sh ∧ sh.codes.length ≤ 2) ∧
    (∃ (s : State) (req : Request) (sh : Shape), waitingRequest .captureState .panel s = some req ∧
      parseDetail req.body = some (some (1, 0)) ∧ s.cap.shape = some sh ∧ maskHas sh.mask 0 = false) ∧
    (∃ s : State, missingItems s = []) ∧ ∃ s : State, (missingItems s).length = 4 := by
  refine ⟨fun m _ => ⟨fun k _ => ⟨asked k m [] ready, ask k m [], ?_, rfl⟩,
    asked .checkKey m (bytesBody [11]) ready, ask .checkKey m (bytesBody [11]), 11, ?_, slot11⟩,
    ⟨asked .captureState .panel (bytesBody [1, 1]) ready, ask .captureState .panel (bytesBody [1, 1]), by decide +kernel⟩,
    ⟨asked .captureState .panel (bytesBody [1, 1]) (ready.setCap gappedCapture), ask .captureState .panel (bytesBody [1, 1]),
      greenPair, 27, 26, by decide +kernel⟩,
    ⟨asked .captureState .panel (bytesBody [2, 1]) (ready.setCap gappedCapture), ask .captureState .panel (bytesBody [2, 1]),
      greenPair, by decide +kernel⟩,
    ⟨asked .captureState .panel (bytesBody [1, 0]) (ready.setCap gappedCapture), ask .captureState .panel (bytesBody [1, 0]),
      greenPair, by decide +kernel⟩,
    ⟨whole ready, by decide +kernel⟩, ready, by decide +kernel⟩
  · rcases m with i | _ | _ <;> simp [asked, waitingRequest, ask, State.setInbox, State.setFxl, State.setSyp, State.setPnp]
  · rcases m with i | _ | _ <;> simp [asked, waitingRequest, ask, State.setInbox, State.setFxl, State.setSyp, State.setPnp]

/-! ## Witnesses: jobs -/

/-- Box 15 and box 3 taken, box 14 free: STATION1 owns three boxes. -/
def threeBoxes : State :=
  let x := some (queued .clearMap none)
  setBox 15 x (setBox 3 x (setBox 4 x ready))

/-- The body of a SUBMIT_JOB: RUN_PASS with three FIXED channels and targets of 65534. -/
def submitBody : List Byte :=
  fieldBytes [(1, [0]), (2, fieldBytes [(1, [0, 0, 0]), (2, (List.replicate 12 [0xFF#8, 0xFE#8]).flatten)])]

/-- A held box of STATION1, at its deadline. -/
def heldBox : Box :=
  { queued .clearMap none with hold := some 0 }

/-- Three held boxes of STATION1, with deadlines of 50000, 50010 and 50010. -/
def threeHeld : State :=
  let x (d : Nat) := some { heldBox with hold := some d }
  setBox 2 (x 50010) (setBox 1 (x 50010) (setBox 0 (x 50000) ready))

/-- R57: HOLD_EXPIRY of the second box finds the first past its deadline and ends its hold too, so that its RELEASE_BOX is
HOLD_LOST; the third, with the same deadline, stands (log 3). -/
theorem test_hold_expiry_passes :
    ∃ t, exec (.holdExpiry 1) threeHeld = .next t ∧ t.book.now = 50010 ∧
      (∀ b ∈ [(0 : Fin 16), 1], boxAt b t = some { heldBox with hold := none, holdExpired := true }) ∧
      boxAt 2 t = boxAt 2 threeHeld ∧
      ∃ u, exec (.releaseBox (.station 1)) (asked .releaseBox (.station 1) (bytesBody [0]) t) = .next u ∧
        (u.fxl.place[(1 : Station)]).map (·.reply.status) = some .holdLost :=
  ⟨_, rfl, by decide +kernel, by decide +kernel, by decide +kernel, _, rfl, by decide +kernel⟩

theorem witness_JobsAreSubmittedAndHeld :
  (∃ (s : State) (i : Station) (req : Request) (a : Option PassArgs) (b : Fin 16), lineRequest .map .submitJob i req s ∧
       parseSubmit req.body = some (.runPass, a) ∧ a ≠ none ∧ ownedBoxes i s < 4 ∧ boxAt b s = none ∧
       ∀ c : Fin 16, b < c → (boxAt c s).isSome = true) ∧
  ((∃ (s : State) (i : Station) (req : Request) (b : Fin 16) (x : Box), boxAt b s = some x ∧
       lineRequest .map .holdBox i req s ∧ parseBoxOnly req.body = some b ∧ x.owner = i ∧ x.state = .queued ∧
       x.hold = none) ∧
     (∃ (s : State) (i : Station) (req : Request) (b : Fin 16) (x : Box) (bytes : Option (List Byte)) (a : Option PassArgs),
       boxAt b s = some x ∧ lineRequest .map .editBox i req s ∧ x.owner = i ∧ x.hold.isSome = true ∧
       parseEdit req.body = some (b, bytes) ∧ parseJobArgs x.kind bytes = some a) ∧
     (∃ (s : State) (i : Station) (req : Request) (b : Fin 16) (x : Box), boxAt b s = some x ∧
       lineRequest .map .releaseBox i req s ∧ parseBoxOnly req.body = some b ∧ x.owner = i ∧ x.hold.isSome = true) ∧
     (∃ (s : State) (b : Fin 16) (x : Box), boxAt b s = some x ∧ x.hold = none) ∧
     ∃ (s : State) (b : Fin 16) (x : Box) (d : Nat), boxAt b s = some x ∧ x.hold = some d ∧
       (∃ c : Fin 16, c ≠ b ∧ boxAt c s = none) ∧
       (∃ (c : Fin 16) (y : Box), c ≠ b ∧ boxAt c s = some y ∧ y.hold = none) ∧
       (∃ (c : Fin 16) (y : Box) (e : Nat), c ≠ b ∧ boxAt c s = some y ∧ y.hold = some e ∧ e < max s.book.now d) ∧
       ∃ (c : Fin 16) (y : Box) (e : Nat), c ≠ b ∧ boxAt c s = some y ∧ y.hold = some e ∧ max s.book.now d = e) :=
  ⟨⟨asked .submitJob (.station 1) submitBody threeBoxes, 1, ask .submitJob (.station 1) submitBody,
      some { args with modes := Vector.replicate 3 (.fixed (Vector.replicate 4 65534)) }, 14,
      by unfold lineRequest; decide +kernel⟩,
    ⟨⟨asked .holdBox (.station 1) (bytesBody [15]) threeBoxes, 1, ask .holdBox (.station 1) (bytesBody [15]), 15,
        queued .clearMap none, by unfold lineRequest; decide +kernel⟩,
      ⟨asked .editBox (.station 1) (bytesBody [0]) (setBox 0 (some heldBox) ready), 1,
        ask .editBox (.station 1) (bytesBody [0]), 0, heldBox, none, none, by unfold lineRequest; decide +kernel⟩,
      ⟨asked .releaseBox (.station 1) (bytesBody [0]) (setBox 0 (some heldBox) ready), 1,
        ask .releaseBox (.station 1) (bytesBody [0]), 0, heldBox, by unfold lineRequest; decide +kernel⟩,
      ⟨threeBoxes, 15, queued .clearMap none, by decide +kernel⟩,
      setBox 3 (some (queued .clearMap none)) threeHeld, 1, { heldBox with hold := some 50010 }, 50010, by decide +kernel,
      rfl, ⟨5, by decide +kernel⟩, ⟨3, queued .clearMap none, by decide +kernel⟩,
      ⟨0, { heldBox with hold := some 50000 }, 50000, by decide +kernel⟩,
      2, { heldBox with hold := some 50010 }, 50010, by decide +kernel⟩⟩

theorem witness_BoxesAreReadCancelledAndFreed :
    (∃ (s : State) (m : Master) (req : Request) (b : Fin 16), parseBoxOnly req.body = some b ∧
      waitingRequest .readBox m s = some req ∧ boxAt b s = none) ∧
    (∃ (s : State) (req : Request) (b : Fin 16) (i : Station) (x : Box), parseBoxOnly req.body = some b ∧
      boxAt b s = some x ∧ x.owner = i ∧ lineRequest .map .cancelJob i req s ∧ x.state = .queued) ∧
    (∃ (s : State) (req : Request) (b : Fin 16) (i : Station) (x : Box), parseBoxOnly req.body = some b ∧
      boxAt b s = some x ∧ x.owner = i ∧ lineRequest .map .cancelJob i req s ∧ x.state = .running ∧ x.kind ≠ .commitMap ∧
      s.tlc.job = some .waitFill) ∧
    (∀ p ∈ [OpPhase.presented, .waitWay, .resumed false],
      ∃ (s : State) (req : Request) (b : Fin 16) (i : Station) (x : Box), parseBoxOnly req.body = some b ∧
        boxAt b s = some x ∧ x.owner = i ∧ lineRequest .map .cancelJob i req s ∧ x.state = .running ∧ x.kind = .runPass ∧
        s.tlc.job = some p) ∧
    (∃ (s : State) (req : Request) (b : Fin 16) (i : Station) (x : Box), parseBoxOnly req.body = some b ∧
      boxAt b s = some x ∧ x.owner = i ∧ lineRequest .map .cancelJob i req s ∧ x.state = .running ∧ x.kind = .commitMap) ∧
    ∀ k ∈ [Kind.cancelJob, .freeBox],
      ∃ (s : State) (req : Request) (b : Fin 16) (i : Station) (x : Box), parseBoxOnly req.body = some b ∧
        boxAt b s = some x ∧ x.owner = i ∧ lineRequest .map k i req s ∧ boxEnded x.state = true :=
  ⟨⟨asked .readBox .panel (bytesBody [0]) threeBoxes, .panel, ask .readBox .panel (bytesBody [0]), 0, by decide +kernel⟩,
    ⟨asked .cancelJob (.station 1) (bytesBody [15]) threeBoxes, ask .cancelJob (.station 1) (bytesBody [15]), 15, 1,
      queued .clearMap none, by unfold lineRequest; decide +kernel⟩,
    ⟨asked .cancelJob (.station 1) (bytesBody [3])
        ((runs .clearMap none (.clear 0) ready).setTlc { Tlc.reset with job := some .waitFill }),
      ask .cancelJob (.station 1) (bytesBody [3]), 3, 1, running .clearMap none,
      by unfold lineRequest; decide +kernel⟩,
    fun p _ => ⟨asked .cancelJob (.station 1) (bytesBody [3])
        ((runs .runPass (some args) (.pass (passAt 251)) (ready.setCap (capture .locked))).setTlc
          { Tlc.reset with job := some p }),
      ask .cancelJob (.station 1) (bytesBody [3]), 3, 1, running .runPass (some args),
      by decide, rfl, rfl, ⟨rfl, rfl, rfl⟩, rfl, rfl, rfl⟩,
    ⟨asked .cancelJob (.station 1) (bytesBody [3]) (runs .commitMap none (.commit commitAtStart) ready),
      ask .cancelJob (.station 1) (bytesBody [3]), 3, 1, running .commitMap none,
      by unfold lineRequest; decide +kernel⟩,
    fun k _ =>
      ⟨asked k (.station 1) (bytesBody [0]) (setBox 0 (some { queued .clearMap none with state := .cancelled }) ready),
        ask k (.station 1) (bytesBody [0]), 0, 1, { queued .clearMap none with state := .cancelled },
        (by decide : parseBoxOnly (bytesBody [0]) = some 0), rfl, rfl, ⟨by simp [asked, waitingRequest, ask, State.setInbox, State.setFxl], rfl, rfl⟩, rfl⟩⟩

/-- One QUEUED box of each kind, in a part that is ready for it. -/
def startable7 (k : JobKind) (a : Option PassArgs) : State :=
  setBox 7 (some (queued k a)) (ready.setCap (capture .complete))

/-- A window of all 1344 nodes, and a window of one node. -/
def windowArgs : PassArgs :=
  { args with modes := Vector.replicate 3 .window, window := some { x0 := 0, x1 := 47, y0 := 0, y1 := 27 } }

def cornerArgs : PassArgs :=
  { args with modes := Vector.replicate 3 .window, window := some { x0 := 0, x1 := 0, y0 := 0, y1 := 0 } }

/-- The capture with node (0, 0) of green saturated at plane 0. -/
def cornerCapture (st : CapState) : Cap :=
  { capture st with
    rows := (capture st).rows.set 28 (some { dup := 0, values := (Vector.replicate 48 4000).set 0 65535 }) }

/-- The reference of one saturated node is lacking; that of all nodes is not. -/
theorem corner_lacks : referenceLacks cornerArgs greenPair (cornerCapture .complete) := by
  refine ⟨1, 0, { x0 := 0, x1 := 0, y0 := 0, y1 := 0 }, rfl, rfl, by decide, rfl, fun x y _ hx _ hy => ?_⟩
  obtain rfl : x = 0 := Nat.le_zero.mp hx
  obtain rfl : y = 0 := Nat.le_zero.mp hy
  decide +kernel

theorem window_suffices : ¬referenceLacks windowArgs greenPair (capture .complete) := by
  have key : ∀ c : Fin 3, greenPair.mask[c] = true → ∀ p < 2, measured (capture .complete) p c 0 0 ≠ 65535 := by
    decide +kernel
  rintro ⟨c, p, w, hc, -, hp, hw, h⟩
  cases hw
  exact key c hc p hp (h 0 0 (by decide) (by decide) (by decide) (by decide))

/-- A clear; a commit that starts, and one with each reason; a pass that starts, with a WINDOW channel and no plane codes yet,
and one with each reason. -/
theorem witness_JobsStart :
    (∀ k ∈ [JobKind.clearMap, .commitMap], ∃ (s : State) (b : Fin 16) (x : Box), engineFree s = true ∧
      oldestStartable s = some b ∧ boxAt b s = some x ∧ x.kind = k ∧ s.mfc.header.faulty = 0 ∧ s.mfc.wear = .normal) ∧
    (∃ (s : State) (b : Fin 16) (x : Box), engineFree s = true ∧ oldestStartable s = some b ∧ boxAt b s = some x ∧
      x.kind = .commitMap ∧ s.mfc.header.faulty ≠ 0) ∧
    (∃ (s : State) (b : Fin 16) (x : Box), engineFree s = true ∧ oldestStartable s = some b ∧ boxAt b s = some x ∧
      x.kind = .commitMap ∧ s.mfc.header.faulty = 0 ∧ s.mfc.wear = .worn) ∧
    (∃ (s : State) (b : Fin 16) (x : Box) (a : PassArgs), engineFree s = true ∧ oldestStartable s = some b ∧
      boxAt b s = some x ∧ x.kind = .runPass ∧ x.args = some a ∧ s.cap.state ≠ .complete) ∧
    (∃ (s : State) (b : Fin 16) (x : Box) (a : PassArgs) (sh : Shape), engineFree s = true ∧ oldestStartable s = some b ∧
      boxAt b s = some x ∧ x.kind = .runPass ∧ x.args = some a ∧ s.cap.state = .complete ∧ s.cap.shape = some sh ∧
      s.mfc.header.codes ≠ [] ∧ s.mfc.header.codes ≠ sh.codes) ∧
    (∃ (s : State) (b : Fin 16) (x : Box) (a : PassArgs) (sh : Shape), engineFree s = true ∧ oldestStartable s = some b ∧
      boxAt b s = some x ∧ x.kind = .runPass ∧ x.args = some a ∧ s.cap.state = .complete ∧ s.cap.shape = some sh ∧
      s.mfc.header.codes = [] ∧ referenceLacks a sh s.cap) ∧
    ∃ (s : State) (b : Fin 16) (x : Box) (a : PassArgs) (sh : Shape), engineFree s = true ∧ oldestStartable s = some b ∧
      boxAt b s = some x ∧ x.kind = .runPass ∧ x.args = some a ∧ s.cap.state = .complete ∧ s.cap.shape = some sh ∧
      s.mfc.header.codes = [] ∧ ¬referenceLacks a sh s.cap ∧ (∃ c : Fin 3, a.modes[c] = .window) ∧
      a.window.isSome = true := by
  refine ⟨?_,
    ⟨setHeader { Header.lost with faulty := 1 } (startable7 .commitMap none), 7, queued .commitMap none, by decide +kernel⟩,
    ⟨(startable7 .commitMap none).setMfc { Mfc.reset with wear := .worn }, 7, queued .commitMap none, by decide +kernel⟩,
    ⟨(startable7 .runPass (some args)).setCap (capture .consumed), 7, queued .runPass (some args), args, by decide +kernel⟩,
    ⟨setHeader { Header.lost with codes := [256, 513] } (startable7 .runPass (some args)), 7, queued .runPass (some args),
      args, greenPair, by decide +kernel⟩,
    ⟨(startable7 .runPass (some cornerArgs)).setCap (cornerCapture .complete), 7, queued .runPass (some cornerArgs),
      cornerArgs, greenPair, rfl, by decide +kernel, rfl, rfl, rfl, rfl, rfl, rfl, corner_lacks⟩,
    startable7 .runPass (some windowArgs), 7, queued .runPass (some windowArgs), windowArgs, greenPair, rfl,
    by decide +kernel, rfl, rfl, rfl, rfl, rfl, rfl, window_suffices, ⟨0, rfl⟩, rfl⟩
  simp only [List.mem_cons, List.not_mem_nil, or_false]
  rintro k (rfl | rfl)
  · exact ⟨startable7 .clearMap none, 7, queued .clearMap none, by decide +kernel⟩
  · exact ⟨startable7 .commitMap none, 7, queued .commitMap none, by decide +kernel⟩

/-- R52, R61, R64, R108: a clear has started; a commit that a FAULTY tile fails at its start has not. -/
theorem test_started :
    (∃ t, exec .jobStart (startable7 .clearMap none) = .next t ∧ (boxAt 7 t).map (·.started) = some true) ∧
    ∃ t, exec .jobStart (setHeader { Header.lost with faulty := 1 } (startable7 .commitMap none)) = .next t ∧
      (boxAt 7 t).map (fun x => (x.state, x.started)) = some (.failed .tileFault, false) :=
  ⟨⟨_, rfl, by decide +kernel⟩, _, rfl, by decide +kernel⟩

/-! ## Witnesses: the arithmetic -/

/-- A pass over the worked node: 4000 at plane 0 and 9000 at plane 1. -/
def input : PassInput :=
  { cap := capture .locked, shape := greenPair, targets := prepareTargets (capture .locked) greenPair args, args := args }

theorem witness_ResidualsRoundToNearest :
    (∃ (i : PassInput) (p c x y : Nat) (slope : Int),
      nonFlatSlope i.cap i.shape i.args.minSlope p c x y = some slope ∧ slope = 312) ∧
    (∃ (target m : Nat) (slope : Int), 1 ≤ slope ∧ 0 < ((target : Int) - m) * 64 ∧ slope = 1) ∧
    ∃ (target m : Nat) (slope : Int), 1 ≤ slope ∧ ((target : Int) - m) * 64 < 0 ∧
      2 * |rawResidual target m slope * slope - ((target : Int) - m) * 64| = slope :=
  ⟨⟨input, 0, 1, 47, 27, 312, by decide +kernel⟩, ⟨1, 0, 1, by decide⟩, 0, 3, 128, by decide +kernel⟩

theorem witness_ResidualsAreFormedExactly :
    (∃ (target m : Nat) (slope : Int) (limit : Nat), target ≤ 65534 ∧ m ≤ 65534 ∧ 1 ≤ slope ∧
      (limit : Int) < |rawResidual target m slope| ∧ rawResidual target m slope = -4194176) ∧
    ∃ (i : PassInput) (t : TileNo) (k : Fin 32) (r : Int),
      residualAt i (tilePlane t) (tileChannel t) (nodeX t k) (nodeY t k) = some r ∧ (i.args.stepLimit : Int) < r :=
  ⟨⟨0, 65534, 1, 511, by decide +kernel⟩, input, 168, 0, 1026, by decide +kernel⟩

theorem witness_TargetsAndSlopesArePrepared :
    (∃ (sh : Shape) (a : PassArgs) (c : Fin 3) (p : Fin 4) (ts : Vector Nat 4), sh.mask[c] = true ∧
      p.val < sh.codes.length ∧ a.modes[c] = .fixed ts) ∧
    (∃ (sh : Shape) (a : PassArgs) (c : Fin 3) (p : Fin 4) (w : Window), sh.mask[c] = true ∧
      p.val < sh.codes.length ∧ a.modes[c] = .window ∧ a.window = some w) ∧
    ∃ (cap : Cap) (sh : Shape), 2 ≤ sh.codes.length ∧ measured cap 1 1 47 27 ≠ 65535 ∧ measured cap 0 1 47 27 ≠ 65535 ∧
      nonFlatSlope cap sh 312 1 1 47 27 = some 312 ∧ nonFlatSlope cap sh 313 1 1 47 27 = none :=
  ⟨⟨greenPair, args, 1, 1, Vector.replicate 4 9000, rfl, by decide, rfl⟩,
    ⟨greenPair, windowArgs, 1, 1, { x0 := 0, x1 := 47, y0 := 0, y1 := 27 }, rfl, by decide, rfl, rfl⟩,
    capture .locked, greenPair, by decide +kernel⟩

/-- The worked node with one neighbour saturated; node (0, 0) of green, plane 0, is value index 0 of tile 168. -/
def saturatedCorner : PassInput :=
  { input with cap := cornerCapture .locked }

theorem witness_NodesAreComputedInStages :
    (∃ (i : PassInput) (t : TileNo) (k : Fin 32) (slope : Int),
      nonFlatSlope i.cap i.shape i.args.minSlope (tilePlane t) (tileChannel t) (nodeX t k) (nodeY t k) = some slope) ∧
    ∃ (i : PassInput) (t : TileNo) (k : Fin 32),
      nonFlatSlope i.cap i.shape i.args.minSlope (tilePlane t) (tileChannel t) (nodeX t k) (nodeY t k) = none ∧
      (tileResidual i t k).d = 64 :=
  ⟨⟨input, 168, 31, 312, by decide +kernel⟩, saturatedCorner, 168, 0, by decide +kernel⟩

theorem witness_PassCountsFollowTheNodes :
    ∃ (i : PassInput) (t : TileNo) (k j : Fin 32), (tileResidual i t k).flat = false ∧ (tileResidual i t j).flat = true :=
  ⟨saturatedCorner, 168, 1, 0, by decide +kernel⟩

/-! ## Witnesses: tile operations -/

/-- A code that does not agree with zeros. -/
def otherCode : CheckCode :=
  { tile := 5, values := top }

/-- A pass at tile 251, its last included one. -/
def passing (e : EntryState) : State :=
  cached 251 6 e (runs .runPass (some args) (.pass (passAt 251)) (ready.setCap (capture .locked)))

/-- A pass at tile 168, in a part. -/
def passing168 (s : State) : State :=
  runs .runPass (some args) (.pass (passAt 168)) (s.setCap (capture .locked))

/-- Tile 168, with 169 to come: held DIRTY; FAULTY; declared lost, its code not agreeing; and in the queue alone. -/
theorem witness_PassTilesAreWritten :
    ∀ c ∈ [(cached 168 6 (dirtyTile 168) ready, (6 : Fin 8), false), (cached 168 6 .faulty ready, 6, true),
        (cached 168 6 (.dirty top (codeOf 168 zeros)) ready, 6, true),
        (ready.setTlc { Tlc.reset with queue := [{ tile := 168, values := zeros, code := codeOf 168 zeros }] }, 0, false)],
      ∃ (s u : State) (b : Fin 16) (x : Box) (w : PassWork) (a : PassArgs) (sh : Shape) (way : Fin 8) (old : TileValues)
        (lost : Bool), nextGrant s = some .job ∧ s.jobs.running = some { box := b, work := .pass w } ∧ boxAt b s = some x ∧
        x.args = some a ∧ s.cap.shape = some sh ∧
        (readTileAt w.next (grantJob s) = (u, .values way old) ∧ lost = false ∨
          readTileAt w.next (grantJob s) = (u, .faulty way) ∧ old = Vector.replicate 32 0 ∧ lost = true) ∧
        s = passing168 c.1 ∧ way = c.2.1 ∧ lost = c.2.2 ∧ nextIncluded sh (w.next.val + 1) = some 169 ∧
        x.cancelNoted = false := by
  simp only [List.mem_cons, List.not_mem_nil, or_false]
  rintro c (rfl | rfl | rfl | rfl)
  · exact ⟨_, _, 3, running .runPass (some args), passAt 168, args, greenPair, 6, zeros, false, rfl, rfl, by decide +kernel,
      rfl, rfl, .inl ⟨Prod.ext rfl (by decide +kernel), rfl⟩, rfl, rfl, rfl, by decide +kernel, rfl⟩
  · exact ⟨_, _, 3, running .runPass (some args), passAt 168, args, greenPair, 6, zeros, true, rfl, rfl, by decide +kernel,
      rfl, rfl, .inr ⟨Prod.ext rfl (by decide +kernel), rfl, rfl⟩, rfl, rfl, rfl, by decide +kernel, rfl⟩
  · exact ⟨_, _, 3, running .runPass (some args), passAt 168, args, greenPair, 6, zeros, true, rfl, rfl, by decide +kernel,
      rfl, rfl, .inr ⟨Prod.ext rfl (by decide +kernel), rfl, rfl⟩, rfl, rfl, rfl, by decide +kernel, rfl⟩
  · exact ⟨_, _, 3, running .runPass (some args), passAt 168, args, greenPair, 0, zeros, false, rfl, rfl, by decide +kernel,
      rfl, rfl, .inl ⟨Prod.ext rfl (by decide +kernel), rfl⟩, rfl, rfl, rfl, by decide +kernel, rfl⟩

/-- The last included tile held CLEAN, and FAULTY with a cancel noted. -/
theorem witness_PassesComplete :
    ∀ noted : Bool,
      ∃ (s u : State) (b : Fin 16) (x : Box) (w : PassWork) (a : PassArgs) (sh : Shape) (way : Fin 8) (old : TileValues)
        (lost : Bool), nextGrant s = some .job ∧ s.jobs.running = some { box := b, work := .pass w } ∧ boxAt b s = some x ∧
        x.args = some a ∧ s.cap.shape = some sh ∧
        (readTileAt w.next (grantJob s) = (u, .values way old) ∧ lost = false ∨
          readTileAt w.next (grantJob s) = (u, .faulty way) ∧ old = Vector.replicate 32 0 ∧ lost = true) ∧
        nextIncluded sh (w.next.val + 1) = none ∧ lost = noted ∧ x.cancelNoted = noted
  | false => ⟨passing (cleanTile 251), _, 3, running .runPass (some args), passAt 251, args, greenPair, 6, zeros, false, rfl,
      rfl, by decide +kernel, rfl, rfl, .inl ⟨Prod.ext rfl (by decide +kernel), rfl⟩, by decide +kernel, rfl, rfl⟩
  | true => ⟨setBox 3 (some { running .runPass (some args) with cancelNoted := true }) (passing .faulty), _, 3,
      { running .runPass (some args) with cancelNoted := true }, passAt 251, args, greenPair, 6, zeros, true, rfl, rfl,
      by decide +kernel, rfl, rfl, .inr ⟨Prod.ext rfl (by decide +kernel), rfl, rfl⟩, by decide +kernel, rfl, rfl⟩

/-- A clear at a tile that stands in a way, and at one that the cache does not hold, with a cancel noted or not. -/
def clearing (u : TileNo) (e : EntryState) (noted : Bool) : State :=
  cached u 6 e (setBox 3 (some { running .clearMap none with cancelNoted := noted }) (runs .clearMap none (.clear u) ready))

def clearingMiss (u : TileNo) (noted : Bool) : State :=
  setBox 3 (some { running .clearMap none with cancelNoted := noted }) (runs .clearMap none (.clear u) ready)

/-- Tile 502 FAULTY, and missed; tile 503 DIRTY and missed, with a cancel noted and without. -/
theorem witness_ClearTilesAreWritten :
    (∃ (s : State) (b : Fin 16) (x : Box) (u : TileNo) (way : Fin 8), nextGrant s = some .job ∧
      s.jobs.running = some { box := b, work := .clear u } ∧ boxAt b s = some x ∧ wayToWrite u way s ∧
      (findWay u s).isSome = true ∧ u.val + 1 < 504 ∧ x.cancelNoted = false) ∧
    (∃ (s : State) (b : Fin 16) (x : Box) (u : TileNo) (way : Fin 8), nextGrant s = some .job ∧
      s.jobs.running = some { box := b, work := .clear u } ∧ boxAt b s = some x ∧ wayToWrite u way s ∧
      findWay u s = none ∧ u.val + 1 < 504 ∧ x.cancelNoted = false) ∧
    ∀ noted : Bool,
      (∃ (s : State) (b : Fin 16) (x : Box) (u : TileNo) (way : Fin 8), nextGrant s = some .job ∧
        s.jobs.running = some { box := b, work := .clear u } ∧ boxAt b s = some x ∧ wayToWrite u way s ∧
        (findWay u s).isSome = true ∧ u.val = 503 ∧ x.cancelNoted = noted) ∧
      ∃ (s : State) (b : Fin 16) (x : Box) (u : TileNo) (way : Fin 8), nextGrant s = some .job ∧
        s.jobs.running = some { box := b, work := .clear u } ∧ boxAt b s = some x ∧ wayToWrite u way s ∧
        findWay u s = none ∧ u.val = 503 ∧ x.cancelNoted = noted :=
  ⟨⟨clearing 502 .faulty false, 3, running .clearMap none, 502, 6, rfl, rfl, by decide +kernel,
      .inl ⟨{ tile := 502, state := .faulty }, by decide +kernel⟩, by decide +kernel⟩,
    ⟨clearingMiss 502 false, 3, running .clearMap none, 502, 0, rfl, rfl, by decide +kernel, .inr (by decide +kernel),
      by decide +kernel⟩,
    fun noted => ⟨⟨clearing 503 (dirtyTile 503) noted, 3, { running .clearMap none with cancelNoted := noted }, 503, 6, rfl,
        rfl, rfl, .inl ⟨{ tile := 503, state := dirtyTile 503 }, rfl, rfl, fun h => by cases h⟩, rfl, rfl, rfl⟩,
      clearingMiss 503 noted, 3, { running .clearMap none with cancelNoted := noted }, 503, 0, rfl, rfl, rfl, .inr ⟨rfl, rfl⟩,
      rfl, rfl, rfl⟩⟩

/-- A commit in a phase. -/
def commitAt (p : CommitPhase) : CommitWork :=
  { commitAtStart with phase := p }

/-- A commit whose sweep stands at a tile, three copies in the queue. -/
def sweeping (u : TileNo) : State :=
  let s := runs .commitMap none (.commit (commitAt (.sweep u))) ready
  s.setTlc { s.tlc with queue := [copy5, copy5, copy5] }

/-- The sweep stands at a DIRTY tile 503 with four copies in the queue. -/
def fullSweep (wear : Wear) : State :=
  let s := cached 503 6 (dirtyTile 503) (sweeping 503)
  (s.setTlc { s.tlc with queue := [copy5, copy5, copy5, copy5] }).setMfc { s.mfc with wear := wear }

theorem witness_CommitsCopyOut :
    (∃ (s : State) (b : Fin 16) (x : Box) (w : CommitWork) (u : TileNo) (way : Fin 8) (v : TileValues) (c : CheckCode),
      nextGrant s = some .job ∧ s.jobs.running = some { box := b, work := .commit w } ∧ w.phase = .sweep u ∧
      boxAt b s = some x ∧ findWay u s = some way ∧ entryAt (setOf u) way s = some { tile := u, state := .dirty v c } ∧
      s.tlc.queue.length < 4 ∧ u.val = 503) ∧
    (∀ wear : Wear, ∃ (s : State) (b : Fin 16) (x : Box) (w : CommitWork) (u : TileNo) (way : Fin 8) (v : TileValues)
      (c : CheckCode), nextGrant s = some .job ∧ s.jobs.running = some { box := b, work := .commit w } ∧
      w.phase = .sweep u ∧ boxAt b s = some x ∧ findWay u s = some way ∧
      entryAt (setOf u) way s = some { tile := u, state := .dirty v c } ∧ s.tlc.queue.length = 4 ∧ s.mfc.wear = wear) ∧
    (∃ (s : State) (b : Fin 16) (x : Box) (w : CommitWork) (u : TileNo), nextGrant s = some .job ∧
      s.jobs.running = some { box := b, work := .commit w } ∧ w.phase = .sweep u ∧ boxAt b s = some x ∧
      findWay u s = none ∧ u.val + 1 < 504) ∧
    ∃ (s : State) (b : Fin 16) (x : Box) (w : CommitWork) (u : TileNo) (way : Fin 8) (e : Entry), nextGrant s = some .job ∧
      s.jobs.running = some { box := b, work := .commit w } ∧ w.phase = .sweep u ∧ boxAt b s = some x ∧
      findWay u s = some way ∧ entryAt (setOf u) way s = some e ∧ e.state = .faulty ∧ u.val = 503 :=
  ⟨⟨cached 503 6 (dirtyTile 503) (sweeping 503), 3, running .commitMap none,
      commitAt (.sweep 503), 503, 6, zeros, codeOf 503 zeros, by decide +kernel⟩,
    fun wear => ⟨fullSweep wear, 3, running .commitMap none, commitAt (.sweep 503), 503, 6, zeros,
      codeOf 503 zeros, rfl, rfl, rfl, rfl, rfl, rfl, rfl, rfl⟩,
    ⟨sweeping 502, 3, running .commitMap none, commitAt (.sweep 502), 502, by decide +kernel⟩,
    cached 503 6 .faulty (sweeping 503), 3, running .commitMap none, commitAt (.sweep 503), 503, 6,
    { tile := 503, state := .faulty }, by decide +kernel⟩

/-- The body of a WRITE_TILE of tile 503 that carries -512 everywhere. -/
def writeBody : List Byte :=
  fieldBytes [(1, [0x01, 0xF7]), (2, packTile (Vector.replicate 32 (-512)))]

/-- Everything presented at the port arbiter, with a count of the JOB requester's waits: a fill, a snapshot, two ACCESS
operations of which the later one is presented again after a wait, and the JOB operation. -/
def crowd (n : Nat) : Tlc :=
  let o (ticket : Nat) (p : OpPhase) : AccessOp :=
    { req := { ask .readTile .system [] with ticket := ticket }, tile := 5, kind := .read, phase := p }
  { Tlc.reset with
    fills := [{ tile := 5, result := .erased }], panel := some { tile := 5, abandoned := false, phase := .presented },
    access := [o 0 .presented, o 1 (.resumed true)], job := some .presented, jobWait := n }

/-- R70, R71: the eighth grant that passes the JOB operation over is followed by its own; before it comes the fill, then the
snapshot, then the ACCESS operation presented again, then the other one. -/
theorem test_arbiter_order :
    nextGrant (ready.setTlc (crowd 8)) = some .job ∧
    (grantOther (ready.setTlc (crowd 7))).tlc.jobWait = 8 ∧
    nextGrant (ready.setTlc (crowd 7)) = some (.fill { tile := 5, result := .erased }) ∧
    nextGrant (ready.setTlc { crowd 7 with fills := [] }) =
      some (.panel { tile := 5, abandoned := false, phase := .presented }) ∧
    nextGrant (ready.setTlc { crowd 7 with fills := [], panel := none }) = (crowd 7).access[1]?.map .access ∧
    nextGrant (ready.setTlc { crowd 7 with fills := [], panel := none, access := (crowd 7).access.take 1 }) =
      (crowd 7).access[0]?.map .access ∧
    nextGrant (ready.setTlc { crowd 7 with fills := [], panel := none, access := [] }) = some .job := by
  decide +kernel

/-- Both requests; two ACCESS operations in the order taken; the JOB operation at its limit, and below it; the operations of
the other requesters, each with those before it absent; nothing presented. -/
theorem witness_TileRequestsArePresented :
    (∃ (s : State) (m : Master) (req : Request) (t : TileNo), waitingRequest .readTile m s = some req ∧ m ≠ .panel ∧
      parseTile req.body = some t) ∧
    (∃ (s : State) (m : Master) (req : Request) (t : TileNo) (v : TileValues), waitingRequest .writeTile m s = some req ∧
      mapOrSystem m s = true ∧ stageAdmits lineStage s = true ∧ parseTileWrite req.body = some (t, v)) ∧
    (∃ s : State, s.tlc.access.Pairwise (fun x y => x.req.ticket ≤ y.req.ticket) ∧ s.tlc.access.length = 2) ∧
    (∃ s : State, s.tlc.job = some .presented ∧ 8 ≤ s.tlc.jobWait) ∧
    (∃ (s : State) (f : Fill) (rest : List Fill), s.tlc.jobWait < 8 ∧ s.tlc.fills = f :: rest) ∧
    (∃ (s : State) (o : PanelOp), s.tlc.jobWait < 8 ∧ s.tlc.fills = [] ∧ s.tlc.panel = some o ∧ o.phase = .presented) ∧
    (∃ (s : State) (before after : List AccessOp) (o : AccessOp), s.tlc.jobWait < 8 ∧ s.tlc.fills = [] ∧
      s.tlc.panel = none ∧ s.tlc.access = before ++ o :: after ∧ o.phase = .resumed true ∧
      ∀ x ∈ before, x.phase = .presented) ∧
    (∃ (s : State) (o : AccessOp), s.tlc.jobWait < 8 ∧ s.tlc.fills = [] ∧ s.tlc.panel = none ∧ s.tlc.access = [] ++ [o] ∧
      o.phase = .presented) ∧
    ∀ job ∈ [some OpPhase.presented, none], ∃ s : State, s.tlc.jobWait < 8 ∧ s.tlc.fills = [] ∧ s.tlc.panel = none ∧
      s.tlc.access = [] ∧ s.tlc.job = job :=
  ⟨⟨asked .readTile .system (fieldBytes [(1, [0x01, 0xF7])]) ready, .system,
      ask .readTile .system (fieldBytes [(1, [0x01, 0xF7])]), 503, by decide +kernel⟩,
    ⟨asked .writeTile .system writeBody ready, .system, ask .writeTile .system writeBody, 503, Vector.replicate 32 (-512),
      by decide +kernel⟩,
    ⟨ready.setTlc (crowd 7), by decide +kernel⟩, ⟨ready.setTlc (crowd 8), by decide +kernel⟩,
    ⟨ready.setTlc (crowd 7), { tile := 5, result := .erased }, [], by decide +kernel⟩,
    ⟨ready.setTlc { crowd 7 with fills := [] }, { tile := 5, abandoned := false, phase := .presented }, by decide +kernel⟩,
    ⟨ready.setTlc { crowd 7 with fills := [], panel := none }, (crowd 7).access.take 1, [], _, by decide, rfl, rfl, rfl, rfl,
      by decide +kernel⟩,
    ⟨ready.setTlc { crowd 7 with fills := [], panel := none, access := (crowd 7).access.take 1 }, _, by decide, rfl, rfl, rfl,
      rfl⟩,
    fun job _ => ⟨ready.setTlc { crowd 7 with fills := [], panel := none, access := [], job := job }, (by decide : 7 < 8), rfl,
      rfl, rfl, rfl⟩⟩

/-- R90: a carried -512 is raised to -511, and counted. -/
theorem test_lowest_raised :
    ∃ t, exec (.writeTile .system) (asked .writeTile .system writeBody ready) = .next t ∧
      t.tlc.access.map (·.kind) = [.write (Vector.replicate 32 (-511)) 32] :=
  ⟨_, rfl, by decide +kernel⟩

/-- An ACCESS operation of SYSTEM on tile 5. -/
def access (k : AccessKind) : AccessOp :=
  { req := ask .readTile .system [], tile := 5, kind := k, phase := .presented }

/-- The operation stands at the TLC, tile 5 in way 0. -/
def accessing (k : AccessKind) (e : EntryState) (s : State) : State :=
  let s := cached 5 0 e s
  s.setTlc { s.tlc with access := [access k] }

/-- Set 5 with eight tiles, two ways locked, and a READ_TILE presented. -/
def set5 (ts : Vector TileNo 8) (dirty : Fin 8 → Bool) (tr : Vector Bool 7) (t : TileNo) : State :=
  { ready with
    tlc := { Tlc.reset with
      sets := Tlc.reset.sets.set 5
        { ways := Vector.ofFn fun w : Fin 8 =>
            some { tile := ts[w], state := if dirty w then dirtyTile ts[w] else cleanTile ts[w] },
          tree := tr },
      lock := 2, access := [{ access .read with tile := t }] } }

/-- Section 4.10, steps 3 and 8: READ_TILE 133 takes way 4 with two ways locked, and READ_TILE 197 takes the DIRTY way 2,
whose copy goes to the queue. -/
theorem test_worked_misses :
    (∃ t, exec .readTileAccess
        (set5 #v[5, 21, 37, 53, 69, 85, 101, 117] (fun w => w = 0) (tree true true false true false false false) 133) =
          .next t ∧
      entryAt 5 4 t = some { tile := 133, state := .filling } ∧ t.tlc.queue = [] ∧ t.mfc.reads = [.fill 133] ∧
      (t.tlc.sets[(5 : Fin 16)]).tree = tree false true true true false true false) ∧
    ∃ t, exec .readTileAccess
        (set5 #v[5, 21, 37, 165, 133, 181, 149, 117] (fun w => w = 0 || w = 2) (tree false false true true false false true)
          197) = .next t ∧
      entryAt 5 2 t = some { tile := 197, state := .filling } ∧ t.tlc.queue.map (·.tile) = [37] ∧
      (t.tlc.sets[(5 : Fin 16)]).tree = tree true false true true true false true :=
  ⟨⟨_, rfl, by decide +kernel⟩, _, rfl, by decide +kernel⟩

/-- Set 5 with eight tiles, FAULTY in the unlocked ways. -/
def faultySet : State :=
  let s := set5 #v[5, 21, 37, 53, 69, 85, 101, 117] (fun _ => false) (tree false false false false false false false) 133
  let ways := Vector.ofFn fun w : Fin 8 => some { tile := ⟨5 + 16 * w.val, by omega⟩, state := .faulty : Entry }
  s.setTlc { s.tlc with sets := s.tlc.sets.set 5 { ways := ways, tree := Vector.replicate 7 false } }

/-- The same with the copy of a DIRTY way 7 waiting for room in the queue. -/
def waitingSet : State :=
  setEntry 5 7 (some { tile := 117, state := dirtyTile 117 })
    (faultySet.setTlc { faultySet.tlc with queue := [copy5, copy5, copy5, copy5] })

/-- Set 5 with eight CLEAN tiles and two ways locked, whose walk ends at way 2; the same with way 2 DIRTY and the queue
full. -/
def cleanSet : State :=
  set5 #v[5, 21, 37, 53, 69, 85, 101, 117] (fun _ => false) (tree false false false false false false false) 133

def blockedSet : State :=
  let s := set5 #v[5, 21, 37, 53, 69, 85, 101, 117] (fun w => w = 2) (tree false false false false false false false) 133
  s.setTlc { s.tlc with queue := [copy5, copy5, copy5, copy5] }

/-- An invalid way 0; the walk's way CLEAN; the walk's way DIRTY with the queue full, way 3 CLEAN; every way FAULTY. -/
theorem witness_VictimsAreChosen :
    (∃ (s : State) (i : Fin 16), entryAt i 0 s = none) ∧
    (∃ (s : State) (i : Fin 16) (w : Fin 8), (∀ w : Fin 8, (entryAt i w s).isSome = true) ∧
      walkEndsAt (s.tlc.sets[i]).tree s.tlc.lock w ∧ replaceable i w s) ∧
    (∃ (s : State) (i : Fin 16) (w v : Fin 8), (∀ w : Fin 8, (entryAt i w s).isSome = true) ∧
      walkEndsAt (s.tlc.sets[i]).tree s.tlc.lock w ∧ ¬replaceable i w s ∧ replaceable i v s ∧
      ∀ x : Fin 8, x < v → ¬replaceable i x s) ∧
    ∃ (s : State) (i : Fin 16), (∀ w : Fin 8, (entryAt i w s).isSome = true) ∧ ∀ v : Fin 8, ¬replaceable i v s := by
  simp only [← eligible_iff]
  unfold walkEndsAt
  exact ⟨⟨ready, 15, by decide +kernel⟩, ⟨cleanSet, 5, 2, by decide +kernel⟩, ⟨blockedSet, 5, 2, 3, by decide +kernel⟩,
    faultySet, 5, by decide +kernel⟩

/-- Every case of an access: hits on each state, with and without an agreeing code; a miss with no copy queued, with a copy
that agrees and one that does not; and no victim, with a way to wait for, in a worn flash, and with every way FAULTY. -/
theorem witness_TileAccessesAreServed :
    (∃ (s : State) (t : TileNo) (w : Fin 8) (v : TileValues), holdsTile t w v s) ∧
    (∀ e ∈ [EntryState.faulty, .filling, .clean zeros otherCode, .dirty zeros otherCode],
      ∃ (s : State) (t : TileNo) (w : Fin 8), findWay t s = some w ∧ otherCode ≠ codeOf t zeros ∧
        entryAt (setOf t) w s = some { tile := t, state := e }) ∧
    (∃ (s : State) (t : TileNo) (w : Fin 8), findWay t s = none ∧ chooseVictim (setOf t) s = some w ∧
      ∀ c ∈ s.tlc.queue, c.tile ≠ t) ∧
    (∀ code ∈ [codeOf 5 zeros, otherCode], ∃ (s : State) (t : TileNo) (w : Fin 8) (before after : List TileCopy)
      (c : TileCopy), findWay t s = none ∧ chooseVictim (setOf t) s = some w ∧ s.tlc.queue = before ++ c :: after ∧
      c.tile = t ∧ (∀ d ∈ after, d.tile ≠ t) ∧ c.code = code) ∧
    (∃ (s : State) (t : TileNo), findWay t s = none ∧ chooseVictim (setOf t) s = none ∧ mustWait (setOf t) s) ∧
    (∃ (s : State) (t : TileNo), findWay t s = none ∧ chooseVictim (setOf t) s = none ∧ s.mfc.wear = .worn) ∧
    ∃ (s : State) (t : TileNo), findWay t s = none ∧ chooseVictim (setOf t) s = none ∧ s.mfc.wear = .normal ∧
      ¬mustWait (setOf t) s := by
  simp only [← mayWaitForWay_iff]
  exact ⟨⟨cached 5 0 (cleanTile 5) ready, 5, 0, zeros, by unfold holdsTile; decide +kernel⟩,
    fun e _ => ⟨cached 5 0 e ready, 5, 0, rfl, by decide +kernel, rfl⟩,
    ⟨cleanSet, 133, 2, by decide +kernel⟩,
    fun code _ => ⟨ready.setTlc { Tlc.reset with queue := [copy5, { copy5 with code := code }] }, 5, 0, [copy5], [],
      { copy5 with code := code }, rfl, rfl, rfl, rfl, fun _ h => by (cases h), rfl⟩,
    ⟨waitingSet, 133, by decide +kernel⟩, ⟨faultySet.setMfc { Mfc.reset with wear := .worn }, 133, by decide +kernel⟩,
    faultySet, 133, by decide +kernel⟩

/-- A hit and a FAULTY entry; then what the access comes to in the states above: values, a loss, waits, and both
refusals. -/
theorem witness_TilesAreRead :
    (∃ (s : State) (o : AccessOp) (w : Fin 8) (v : TileValues), nextGrant s = some (.access o) ∧ o.kind = .read ∧
      holdsTile o.tile w v s) ∧
    (∃ (s : State) (o : AccessOp) (w : Fin 8), nextGrant s = some (.access o) ∧ o.kind = .read ∧
      findWay o.tile s = some w ∧ entryAt (setOf o.tile) w s = some { tile := o.tile, state := .faulty }) ∧
    ∀ r ∈ [ReadOutcome.values 0 zeros, .faulty 0, .waits .waitFill, .waits .waitRepair, .waits .waitWay, .refused true,
        .refused false],
      ∃ (s u : State) (o : AccessOp), nextGrant s = some (.access o) ∧ o.kind = .read ∧
        readTileAt o.tile (grantOther s) = (u, r) := by
  refine ⟨⟨accessing .read (cleanTile 5) ready, access .read, 0, zeros, by unfold holdsTile; decide +kernel⟩,
    ⟨accessing .read .faulty ready, access .read, 0, by decide +kernel⟩, ?_⟩
  simp only [List.mem_cons, List.not_mem_nil, or_false]
  rintro r (rfl | rfl | rfl | rfl | rfl | rfl | rfl)
  · exact ⟨accessing .read (cleanTile 5) ready, _, access .read, by decide +kernel, rfl, Prod.ext rfl (by decide +kernel)⟩
  · exact ⟨accessing .read (.dirty zeros otherCode) ready, _, access .read, by decide +kernel, rfl,
      Prod.ext rfl (by decide +kernel)⟩
  · exact ⟨cleanSet, _, { access .read with tile := 133 }, by decide +kernel, rfl, Prod.ext rfl (by decide +kernel)⟩
  · exact ⟨accessing .read (.clean zeros otherCode) ready, _, access .read, by decide +kernel, rfl,
      Prod.ext rfl (by decide +kernel)⟩
  · exact ⟨waitingSet, _, { access .read with tile := 133 }, by decide +kernel, rfl, Prod.ext rfl (by decide +kernel)⟩
  · exact ⟨faultySet.setMfc { Mfc.reset with wear := .worn }, _, { access .read with tile := 133 }, by decide +kernel, rfl,
      Prod.ext rfl (by decide +kernel)⟩
  · exact ⟨faultySet, _, { access .read with tile := 133 }, by decide +kernel, rfl, Prod.ext rfl (by decide +kernel)⟩

/-- The READ_TILE of tile 133 made a WRITE_TILE. -/
def write133 (s : State) : State :=
  s.setTlc { s.tlc with access := [{ access (.write top 0) with tile := 133 }] }

/-- A hit with and without a pass RUNNING, and a miss; a clear RUNNING; then a write that is carried out on a miss, waits, and is
refused. -/
theorem witness_TilesAreWritten :
    (∃ (s : State) (o : AccessOp) (v : TileValues) (n : Nat) (way : Fin 8), nextGrant s = some (.access o) ∧
      o.kind = .write v n ∧ mapJobRunning s = false ∧ wayToWrite o.tile way s ∧ (findWay o.tile s).isSome = true ∧
      s.jobs.running = none) ∧
    (∃ (s : State) (o : AccessOp) (v : TileValues) (n : Nat) (way : Fin 8) (b : Fin 16) (p : PassWork),
      nextGrant s = some (.access o) ∧ o.kind = .write v n ∧ mapJobRunning s = false ∧ wayToWrite o.tile way s ∧
      (findWay o.tile s).isSome = true ∧ s.jobs.running = some { box := b, work := .pass p }) ∧
    (∃ (s : State) (o : AccessOp) (v : TileValues) (n : Nat) (way : Fin 8), nextGrant s = some (.access o) ∧
      o.kind = .write v n ∧ mapJobRunning s = false ∧ wayToWrite o.tile way s ∧ findWay o.tile s = none) ∧
    (∃ (s : State) (o : AccessOp) (v : TileValues) (n : Nat), nextGrant s = some (.access o) ∧ o.kind = .write v n ∧
      mapJobRunning s = true) ∧
    ∀ r ∈ [WriteOutcome.written, .waits .waitFill, .waits .waitWay, .refused true, .refused false],
      ∃ (s u : State) (o : AccessOp) (v : TileValues) (n : Nat), nextGrant s = some (.access o) ∧ o.kind = .write v n ∧
        mapJobRunning s = false ∧ writeTileAt o.tile v (grantOther s) = (u, r) := by
  refine ⟨⟨accessing (.write top 0) (cleanTile 5) ready, access (.write top 0), top, 0, 0, by decide +kernel, rfl, rfl,
      .inl ⟨{ tile := 5, state := cleanTile 5 }, by decide +kernel⟩, by decide +kernel⟩,
    ⟨accessing (.write top 0) .faulty (passing (cleanTile 251)), access (.write top 0), top, 0, 0, 3, passAt 251,
      by decide +kernel, rfl, rfl, .inl ⟨{ tile := 5, state := .faulty }, by decide +kernel⟩, by decide +kernel, rfl⟩,
    ⟨write133 cleanSet, { access (.write top 0) with tile := 133 }, top, 0, 2, by decide +kernel, rfl, rfl,
      .inr (by decide +kernel), by decide +kernel⟩,
    ⟨accessing (.write top 0) .faulty (runs .clearMap none (.clear 0) ready), access (.write top 0), top, 0,
      by decide +kernel⟩, ?_⟩
  simp only [List.mem_cons, List.not_mem_nil, or_false]
  rintro r (rfl | rfl | rfl | rfl | rfl)
  · exact ⟨write133 cleanSet, _, { access (.write top 0) with tile := 133 }, top, 0, by decide +kernel, rfl, rfl,
      Prod.ext rfl (by decide +kernel)⟩
  · exact ⟨accessing (.write top 0) .filling ready, _, access (.write top 0), top, 0, by decide +kernel, rfl, rfl,
      Prod.ext rfl (by decide +kernel)⟩
  · exact ⟨write133 waitingSet, _, { access (.write top 0) with tile := 133 }, top, 0, by decide +kernel, rfl, rfl,
      Prod.ext rfl (by decide +kernel)⟩
  · exact ⟨write133 (faultySet.setMfc { Mfc.reset with wear := .worn }), _, { access (.write top 0) with tile := 133 }, top, 0,
      by decide +kernel, rfl, rfl, Prod.ext rfl (by decide +kernel)⟩
  · exact ⟨write133 faultySet, _, { access (.write top 0) with tile := 133 }, top, 0, by decide +kernel, rfl, rfl,
      Prod.ext rfl (by decide +kernel)⟩

/-- A pass or a clear stands at a tile as the only operation, with a cancel noted or not. -/
def jobAlone (k : JobKind) (a : Option PassArgs) (w : Work) (noted : Bool) (s : State) : State :=
  let s := (runs k a w s).setTlc { s.tlc with job := some .presented, access := [] }
  setBox 3 (some { running k a with cancelNoted := noted }) (s.setCap (capture .locked))

/-- Waits and refusals of a pass and a clear at tile 133, with a cancel noted and without; and the safe points after tiles
168 and 502. -/
theorem witness_JobsWaitAndEndEarly :
    (∀ noted : Bool, ∀ r ∈ [ReadOutcome.waits .waitWay, .waits .waitFill, .refused true, .refused false],
      ∃ (s u : State) (b : Fin 16) (x : Box) (w : PassWork) (a : PassArgs) (sh : Shape), nextGrant s = some .job ∧
        boxAt b s = some x ∧ s.jobs.running = some { box := b, work := .pass w } ∧ x.args = some a ∧ s.cap.shape = some sh ∧
        x.cancelNoted = noted ∧ readTileAt w.next (grantJob s) = (u, r)) ∧
    (∀ r ∈ [ReadOutcome.values 6 zeros, .faulty 6], ∃ (s u : State) (b : Fin 16) (x : Box) (w : PassWork) (a : PassArgs)
      (sh : Shape) (next : TileNo), nextGrant s = some .job ∧ boxAt b s = some x ∧
      s.jobs.running = some { box := b, work := .pass w } ∧ x.args = some a ∧ s.cap.shape = some sh ∧
      readTileAt w.next (grantJob s) = (u, r) ∧ x.cancelNoted = true ∧ nextIncluded sh (w.next.val + 1) = some next) ∧
    (∀ noted : Bool, ∀ r ∈ [WriteOutcome.waits .waitWay, .waits .waitFill, .refused true, .refused false],
      ∃ (s u : State) (b : Fin 16) (x : Box) (v : TileNo), nextGrant s = some .job ∧ boxAt b s = some x ∧
        s.jobs.running = some { box := b, work := .clear v } ∧ x.cancelNoted = noted ∧
        writeTileAt v (Vector.replicate 32 0) (grantJob s) = (u, r)) ∧
    ∀ hit : Bool, ∃ (s : State) (b : Fin 16) (x : Box) (v : TileNo) (way : Fin 8), nextGrant s = some .job ∧
      boxAt b s = some x ∧ s.jobs.running = some { box := b, work := .clear v } ∧ wayToWrite v way s ∧
      (findWay v s).isSome = hit ∧ x.cancelNoted = true ∧ v.val + 1 < 504 := by
  have pass (noted : Bool) (s u : State) (r : ReadOutcome)
      (h : readTileAt 133 (grantJob (jobAlone .runPass (some args) (.pass (passAt 133)) noted s)) = (u, r))
      (hg : nextGrant (jobAlone .runPass (some args) (.pass (passAt 133)) noted s) = some .job)
      (hb : boxAt 3 (jobAlone .runPass (some args) (.pass (passAt 133)) noted s) =
        some { running .runPass (some args) with cancelNoted := noted }) :
      ∃ (s u : State) (b : Fin 16) (x : Box) (w : PassWork) (a : PassArgs) (sh : Shape), nextGrant s = some .job ∧
        boxAt b s = some x ∧ s.jobs.running = some { box := b, work := .pass w } ∧ x.args = some a ∧ s.cap.shape = some sh ∧
        x.cancelNoted = noted ∧ readTileAt w.next (grantJob s) = (u, r) :=
    ⟨_, u, 3, _, passAt 133, args, greenPair, hg, hb, rfl, rfl, rfl, rfl, h⟩
  have clear (noted : Bool) (s u : State) (r : WriteOutcome)
      (h : writeTileAt 133 (Vector.replicate 32 0) (grantJob (jobAlone .clearMap none (.clear 133) noted s)) = (u, r))
      (hg : nextGrant (jobAlone .clearMap none (.clear 133) noted s) = some .job)
      (hb : boxAt 3 (jobAlone .clearMap none (.clear 133) noted s) =
        some { running .clearMap none with cancelNoted := noted }) :
      ∃ (s u : State) (b : Fin 16) (x : Box) (v : TileNo), nextGrant s = some .job ∧ boxAt b s = some x ∧
        s.jobs.running = some { box := b, work := .clear v } ∧ x.cancelNoted = noted ∧
        writeTileAt v (Vector.replicate 32 0) (grantJob s) = (u, r) :=
    ⟨_, u, 3, _, 133, hg, hb, rfl, rfl, h⟩
  refine ⟨fun noted => ?_,
    ?_, fun noted => ?_, fun hit => ?_⟩
  · simp only [List.mem_cons, List.not_mem_nil, or_false]
    rintro r (rfl | rfl | rfl | rfl)
    · exact pass noted waitingSet _ _ (Prod.ext rfl (by cases noted <;> decide +kernel)) rfl rfl
    · exact pass noted cleanSet _ _ (Prod.ext rfl (by cases noted <;> decide +kernel)) rfl rfl
    · exact pass noted (faultySet.setMfc { Mfc.reset with wear := .worn }) _ _
        (Prod.ext rfl (by cases noted <;> decide +kernel)) rfl rfl
    · exact pass noted faultySet _ _ (Prod.ext rfl (by cases noted <;> decide +kernel)) rfl rfl
  · simp only [List.mem_cons, List.not_mem_nil, or_false]
    rintro r (rfl | rfl)
    · exact ⟨cached 168 6 (cleanTile 168) (jobAlone .runPass (some args) (.pass (passAt 168)) true ready), _, 3,
        { running .runPass (some args) with cancelNoted := true }, passAt 168, args, greenPair, 169, rfl, rfl, rfl, rfl, rfl,
        Prod.ext rfl (by decide +kernel), rfl, by decide +kernel⟩
    · exact ⟨cached 168 6 .faulty (jobAlone .runPass (some args) (.pass (passAt 168)) true ready), _, 3,
        { running .runPass (some args) with cancelNoted := true }, passAt 168, args, greenPair, 169, rfl, rfl, rfl, rfl, rfl,
        Prod.ext rfl (by decide +kernel), rfl, by decide +kernel⟩
  · simp only [List.mem_cons, List.not_mem_nil, or_false]
    rintro r (rfl | rfl | rfl | rfl)
    · exact clear noted waitingSet _ _ (Prod.ext rfl (by cases noted <;> decide +kernel)) rfl rfl
    · exact clear noted (cached 133 0 .filling ready) _ _ (Prod.ext rfl (by cases noted <;> decide +kernel)) rfl rfl
    · exact clear noted (faultySet.setMfc { Mfc.reset with wear := .worn }) _ _
        (Prod.ext rfl (by cases noted <;> decide +kernel)) rfl rfl
    · exact clear noted faultySet _ _ (Prod.ext rfl (by cases noted <;> decide +kernel)) rfl rfl
  · match hit with
    | true => exact ⟨clearing 502 (cleanTile 502) true, 3, { running .clearMap none with cancelNoted := true }, 502, 6, rfl,
        rfl, rfl, .inl ⟨{ tile := 502, state := cleanTile 502 }, by decide +kernel⟩, by decide +kernel⟩
    | false => exact ⟨clearingMiss 502 true, 3, { running .clearMap none with cancelNoted := true }, 502, 0, rfl, rfl, rfl,
        .inr (by decide +kernel), by decide +kernel⟩

/-- A snapshot of tile 5, presented at the TLC. -/
def panelOp (gone : Bool) : PanelOp :=
  { tile := 5, abandoned := gone, phase := .presented }

/-- A run with the tiles still to come. -/
def panelRun (todo : List TileNo) : PanelRun :=
  { req := ask .fetchRun .panel [], first := 5, count := 2, todo := todo, done := [] }

/-- The snapshot stands at the TLC with tile 5 cached, its entry WAITING. -/
def snapping (gone : Bool) (run : Option PanelRun) : State :=
  let s := cached 5 0 (cleanTile 5) ready
  (setDir 5 .waiting (s.setTlc { s.tlc with panel := some (panelOp gone) })).setPnp { s.pnp with run := run }

/-- The snapshot of tile 133, WAITING, stands at the TLC. -/
def snap133 (rest : List TileNo) (s : State) : State :=
  (setDir 133 .waiting (s.setTlc { s.tlc with panel := some { panelOp false with tile := 133 } })).setPnp
    { s.pnp with run := some (panelRun (133 :: rest)) }

/-- The copy of tile 133 alone in the queue. -/
def queued133 : State :=
  ready.setTlc { Tlc.reset with queue := [{ tile := 133, values := zeros, code := codeOf 133 zeros }] }

/-- Snapshots of abandoned runs; then one served by a hit, one served from a queued copy, one whose tile is found lost, one
that waits, and one that is refused, with tiles to come and without. -/
theorem witness_SnapshotsAreTaken :
    (∃ (s u : State) (o : PanelOp) (w : Fin 8) (v : TileValues), nextGrant s = some (.panel o) ∧
      readTileAt o.tile (grantOther s) = (u, .values w v) ∧ o.abandoned = true ∧ s.pnp.run = none) ∧
    (∃ (s u : State) (o : PanelOp) (w : Fin 8) (v : TileValues) (run : PanelRun) (x : TileNo) (more : List TileNo),
      nextGrant s = some (.panel o) ∧ readTileAt o.tile (grantOther s) = (u, .values w v) ∧ o.abandoned = true ∧
      s.pnp.run = some run ∧ run.todo = x :: more) ∧
    ∀ rest ∈ [[], [(0 : TileNo)]],
      ∀ c ∈ [(cached 133 0 (cleanTile 133) ready, ReadOutcome.values 0 zeros), (queued133, .values 0 zeros),
          (cached 133 0 .faulty ready, .faulty 0), (waitingSet, .waits .waitWay), (faultySet, .refused false)],
        ∃ (s u : State) (o : PanelOp) (run : PanelRun), nextGrant s = some (.panel o) ∧
          readTileAt o.tile (grantOther s) = (u, c.2) ∧ o.abandoned = false ∧ s.pnp.run = some run ∧
          run.todo = o.tile :: rest ∧ dirOf o.tile s = .waiting ∧ s = snap133 rest c.1 := by
  have snap (rest : List TileNo) (s : State) (r : ReadOutcome)
      (h : (readTileAt 133 (grantOther (snap133 rest s))).2 = r) (hf : s.tlc.fills = []) (hj : jobPresented s = false) :
      ∃ (t u : State) (o : PanelOp) (run : PanelRun), nextGrant t = some (.panel o) ∧
        readTileAt o.tile (grantOther t) = (u, r) ∧ o.abandoned = false ∧ t.pnp.run = some run ∧
        run.todo = o.tile :: rest ∧ dirOf o.tile t = .waiting ∧ t = snap133 rest s := by
    refine ⟨_, _, { panelOp false with tile := 133 }, panelRun (133 :: rest), ?_, Prod.ext rfl h, rfl, rfl, rfl, ?_, rfl⟩
    · have hj' : jobPresented (snap133 rest s) = false := hj
      have hf' : (snap133 rest s).tlc.fills = [] := hf
      simp only [nextGrant, hj', hf']
      rfl
    · simp [snap133, dirOf, setDir, State.setPcd, State.setPnp, State.setTlc]
  refine ⟨⟨snapping true none, _, panelOp true, 0, zeros, rfl, Prod.ext rfl (by decide +kernel), rfl, rfl⟩,
    ⟨snapping true (some (panelRun [0])), _, panelOp true, 0, zeros, panelRun [0], 0, [], rfl,
      Prod.ext rfl (by decide +kernel), rfl, rfl, rfl⟩, fun rest hrest c hc => ?_⟩
  simp only [List.mem_cons, List.not_mem_nil, or_false] at hrest hc
  rcases hrest with rfl | rfl <;> rcases hc with rfl | rfl | rfl | rfl | rfl <;>
    exact snap _ _ _ (by decide +kernel) rfl rfl

/-- A fill result at the head of the FIFO, its way FILLING. -/
def fillingTile (r : FillResult) : State :=
  let s := cached 5 0 .filling ready
  s.setTlc { s.tlc with fills := [{ tile := 5, result := r }] }

/-- A fill read of tile 9 at its own home. -/
def readingFill9 (h : Home TileRecord) : State :=
  flashing (.readingFill 9 .own) (ready.setHomes { Homes.new with tile := Vector.replicate 504 h })

theorem witness_FillsAreReadAndInstalled :
    (∃ (s : State) (t : TileNo) (home : TileHome), s.mfc.flash = .readingFill t home ∧ tileHomeContent t home s = .erased) ∧
    (∃ (s : State) (t : TileNo) (home : TileHome), s.mfc.flash = .readingFill t home ∧ tileHomeContent t home s = .failing) ∧
    (∃ (s : State) (t : TileNo) (home : TileHome) (x : TileRecord), s.mfc.flash = .readingFill t home ∧
      tileHomeContent t home s = .holds x ∧ x.tile = t ∧ x.code = { tile := t, values := x.values }) ∧
    (∃ (s : State) (t : TileNo) (home : TileHome) (x : TileRecord), s.mfc.flash = .readingFill t home ∧
      tileHomeContent t home s = .holds x ∧ x.tile ≠ t) ∧
    ∀ r : FillResult, r ∈ [.values top, .erased, .failed] →
      ∃ (s : State) (f : Fill) (w : Fin 8), nextGrant s = some (.fill f) ∧ fillingWay f.tile s = some w ∧ f.result = r :=
  ⟨⟨readingFill9 .erased, 9, .own, rfl, by decide +kernel⟩, ⟨readingFill9 .failing, 9, .own, rfl, by decide +kernel⟩,
    ⟨readingFill9 (.holds (claim 1)), 9, .own, claim 1, rfl, by decide +kernel⟩,
    ⟨readingFill9 (.holds { claim 1 with tile := 8 }), 9, .own, { claim 1 with tile := 8 }, rfl, by decide +kernel⟩,
    fun r _ => ⟨fillingTile r, { tile := 5, result := r }, 0, rfl, rfl, rfl⟩⟩

theorem witness_LocksDrainsAndFaults :
    (∃ (s : State) (i : Station) (req : Request) (l : Fin 8), lineRequest .map .lockWays i req s ∧
      parseLock req.body = some l ∧ l < s.tlc.lock) ∧
    (∃ (s : State) (i : Station) (req : Request) (l : Fin 8), lineRequest .map .lockWays i req s ∧
      parseLock req.body = some l ∧ s.tlc.lock ≤ l) ∧
    (∃ (s : State) (m : Master) (req : Request), waitingRequest .drain m s = some req ∧ mapOrSystem m s = true ∧
      req.body = []) ∧
    (∃ (s : State) (req : Request) (st : Status) (before after : List (Request × Option Status)),
      s.tlc.drains = before ++ (req, some st) :: after ∧ ∀ d ∈ before, d.2 = none) ∧
    (∃ (s : State) (i : Fin 16) (w : Fin 8) (t : TileNo) (v : TileValues) (c : CheckCode),
      entryAt i w s = some { tile := t, state := .clean v c }) ∧
    (∃ (s : State) (i : Fin 16) (w : Fin 8) (t : TileNo) (v : TileValues) (c : CheckCode),
      entryAt i w s = some { tile := t, state := .dirty v c }) ∧
    ∃ (s : State) (n : Fin 4) (before after : List TileCopy) (x : TileCopy),
      s.tlc.queue = before ++ x :: after ∧ before.length = n.val :=
  ⟨⟨asked .lockWays (.station 1) (bytesBody [6]) (ready.setTlc { Tlc.reset with lock := 7 }), 1,
      ask .lockWays (.station 1) (bytesBody [6]), 6, by unfold lineRequest; decide +kernel⟩,
    ⟨asked .lockWays (.station 1) (bytesBody [6]) ready, 1, ask .lockWays (.station 1) (bytesBody [6]), 6,
      by unfold lineRequest; decide +kernel⟩,
    ⟨asked .drain .system [] ready, .system, ask .drain .system [], by decide +kernel⟩,
    ⟨ready.setTlc { Tlc.reset with drains := [(ask .drain .system [], none), (ask .drain (.station 1) [], some .ok)] },
      ask .drain (.station 1) [], .ok, [(ask .drain .system [], none)], [], rfl, by decide⟩,
    ⟨cached 5 0 (cleanTile 5) ready, 5, 0, 5, zeros, codeOf 5 zeros, by decide +kernel⟩,
    ⟨cached 5 0 (dirtyTile 5) ready, 5, 0, 5, zeros, codeOf 5 zeros, by decide +kernel⟩,
    ready.setTlc { Tlc.reset with queue := [copy5, copy5, copy5, copy5] }, 3, [copy5, copy5, copy5], [], copy5, rfl, rfl⟩

/-! ## Witnesses: the flash -/

theorem witness_FlashGrantsFollowTheClasses :
    (∃ (s : State) (t : TileNo) (rest : List FlashRead), s.mfc.flash = .idle ∧ s.mfc.reads = .fill t :: rest) ∧
    (∃ (s : State) (rest : List FlashRead), s.mfc.flash = .idle ∧ s.mfc.reads = .header :: rest) ∧
    (∃ (s : State) (p : RecordProgram) (rest : List RecordProgram), s.mfc.flash = .idle ∧ s.mfc.reads = [] ∧
      s.mfc.programs = p :: rest ∧ p ≠ .header) ∧
    (∃ (s : State) (p : RecordProgram) (rest : List RecordProgram), s.mfc.flash = .idle ∧ s.mfc.reads = [] ∧
      s.mfc.programs = p :: rest ∧ p = .header ∧ s.mfc.header.generation.toNat = 65535) ∧
    ∀ marker : Bool, ∃ (s : State) (c : TileCopy) (rest : List TileCopy), s.mfc.flash = .idle ∧ s.mfc.reads = [] ∧
      s.mfc.programs = [] ∧ s.mfc.wear = .normal ∧ s.tlc.queue = c :: rest ∧ s.mfc.marker = marker :=
  ⟨⟨ready.setMfc { Mfc.reset with reads := [.fill 503, .header] }, 503, [.header], rfl, rfl⟩,
    ⟨ready.setMfc { Mfc.reset with reads := [.header] }, [], rfl, rfl⟩,
    ⟨ready.setMfc { Mfc.reset with programs := [.keyErase (ask .eraseKey (.station 1) []) 11] },
      .keyErase (ask .eraseKey (.station 1) []) 11, [], by decide +kernel⟩,
    ⟨ready.setMfc { Mfc.reset with programs := [.header], header := { Header.lost with generation := 65535 } }, .header, [],
      by decide +kernel⟩,
    fun marker => ⟨{ ready with tlc := { Tlc.reset with queue := [copy5] }, mfc := { Mfc.reset with marker := marker } },
      copy5, [], rfl, rfl, rfl, rfl, rfl, rfl⟩⟩

/-- R112: the generation after 65535 is 1. -/
theorem test_generation_wraps :
    ∃ t, exec .flashGrant
        (ready.setMfc { Mfc.reset with programs := [.header], header := { Header.lost with generation := 65535 } }) =
          .next t ∧
      (match t.mfc.flash with
       | .programming (.header h) _ => h.generation
       | _ => 0) = 1 :=
  ⟨_, rfl, by decide +kernel⟩

/-- A tile program at its own home with spare 0 DEAD and the rest UNUSED; at spare 22 with spare 23 UNUSED; and with no
spare left and a commit in its drain. -/
def programs5 (home : TileHome) (spares : Vector SpareState 24) : State :=
  { ready with
    tlc := { Tlc.reset with queue := [copy5] },
    mfc := { Mfc.reset with flash := .programming (.tile copy5 home) 7, spares := spares } }

/-- A commit in its drain. -/
def draining (s : State) : State :=
  setBox 3 (some (running .commitMap none)) (setRunning (some { box := 3, work := .commit (commitAt (.drain false)) }) s)

/-- R111, R112: the last tile program of a commit's drain verifies, and the drain finds its moment with one tile program
counted; with a copy left it does not; and a spare taken is counted. -/
theorem test_drain_moment :
    (∃ t, exec (.tileProgramComplete true) (draining (programs5 .own (Vector.replicate 24 .unused))) = .next t ∧
      t.jobs.running = some { box := 3, work := .commit { commitAt (.drain true) with programmed := 1 } }) ∧
    (∃ t, exec (.tileProgramComplete true)
        (let s := draining (programs5 .own (Vector.replicate 24 .unused))
         s.setTlc { s.tlc with queue := [copy5, copy5] }) = .next t ∧
      t.jobs.running = some { box := 3, work := .commit { commitAt (.drain false) with programmed := 1 } }) ∧
    ∃ t, exec (.tileProgramComplete false) (draining (programs5 .own (Vector.replicate 24 .unused))) = .next t ∧
      t.jobs.running = some { box := 3, work := .commit { commitAt (.drain false) with sparesUsed := 1 } } :=
  ⟨⟨_, rfl, by decide +kernel⟩, ⟨_, rfl, by decide +kernel⟩, _, rfl, by decide +kernel⟩

/-- R103, R111: a commit that awaits its header program fails too when the flash enters WORN; its header program is taken
back, and the other record program stays. -/
theorem test_worn_awaiting_header :
    ∃ t, exec (.tileProgramComplete false)
        (let s := setRunning (some { box := 3, work := .commit (commitAt .header) })
          (draining (programs5 .own (Vector.replicate 24 .dead)))
         s.setMfc { s.mfc with programs := [.header, .keyErase (ask .eraseKey (.station 1) []) 11] }) = .next t ∧
      (boxAt 3 t).map (·.state) = some (.failed .flashWorn) ∧ t.jobs.running = none ∧
      t.mfc.programs = [.keyErase (ask .eraseKey (.station 1) []) 11] :=
  ⟨_, rfl, by decide +kernel⟩

theorem witness_TileProgramsComplete :
    (∀ spare : SpareState, ∃ (s : State) (c : TileCopy) (home : TileHome) (q : BitVec 32) (b : Fin 16) (w : CommitWork),
      s.mfc.flash = .programming (.tile c home) q ∧ s.mfc.spares = Vector.replicate 24 spare ∧
      s.jobs.running = some { box := b, work := .commit w } ∧ w.phase = .drain false ∧ s.tlc.queue.tail = []) ∧
    (∃ (s : State) (c : TileCopy) (home : TileHome) (q : BitVec 32) (k : Fin 24),
      s.mfc.flash = .programming (.tile c home) q ∧ s.mfc.spares[k] = .unused ∧
      (∀ j : Fin 24, j < k → s.mfc.spares[j] ≠ .unused) ∧ home = .own) ∧
    (∃ (s : State) (c : TileCopy) (home : TileHome) (q : BitVec 32) (j k : Fin 24),
      s.mfc.flash = .programming (.tile c home) q ∧ s.mfc.spares[k] = .unused ∧
      (∀ j : Fin 24, j < k → s.mfc.spares[j] ≠ .unused) ∧ home = .spare j ∧ j ≠ k) ∧
    (∀ p ∈ [CommitPhase.drain false, .header], ∃ (s : State) (c : TileCopy) (home : TileHome) (q : BitVec 32) (b : Fin 16)
      (x : Box) (w : CommitWork), s.mfc.flash = .programming (.tile c home) q ∧ (∀ k : Fin 24, s.mfc.spares[k] ≠ .unused) ∧
      s.jobs.running = some { box := b, work := .commit w } ∧ w.phase = p ∧ boxAt b s = some x) ∧
    ∃ (s : State) (c : TileCopy) (home : TileHome) (q : BitVec 32),
      s.mfc.flash = .programming (.tile c home) q ∧ (∀ k : Fin 24, s.mfc.spares[k] ≠ .unused) ∧ s.jobs.running = none :=
  ⟨fun spare => ⟨draining (programs5 .own (Vector.replicate 24 spare)), copy5, .own, 7, 3, commitAt (.drain false), rfl, rfl,
      rfl, rfl, rfl⟩,
    ⟨programs5 .own ((Vector.replicate 24 .unused).set 0 .dead), copy5, .own, 7, 1, by decide +kernel⟩,
    ⟨programs5 (.spare 22) ((Vector.replicate 24 .dead).set 22 (.mapped 5) |>.set 23 .unused), copy5, .spare 22, 7, 22, 23,
      by decide +kernel⟩,
    fun p _ => ⟨setRunning (some { box := 3, work := .commit (commitAt p) })
        (draining (programs5 .own (Vector.replicate 24 .dead))), copy5, .own, 7, 3, running .commitMap none, commitAt p, rfl,
      by intro k; simp [draining, programs5, setRunning, setBox, State.setJobs], rfl, rfl, rfl⟩,
    programs5 .own (Vector.replicate 24 .dead), copy5, .own, 7, by decide +kernel⟩

/-- A commit runs in a phase, with the flash at work and one faulty count. -/
def committing (p : CommitPhase) (f : FlashState) (faulty : Nat) : State :=
  flashing f (setHeader { Header.lost with faulty := faulty }
    (setBox 3 (some (running .commitMap none))
      (setRunning (some { box := 3, work := .commit (commitAt p) })
        (ready.setHomes { Homes.new with header := .holds committedHome }))))

theorem witness_UncommitsAndHeaderChecksComplete :
    (∃ (s : State) (h : HeaderRecord) (q : BitVec 32), s.mfc.flash = .programming (.uncommit h) q) ∧
    (∀ queue ∈ [[], [copy5]], ∃ (s : State) (h : HeaderRecord) (q : BitVec 32) (b : Fin 16) (w : CommitWork),
      s.mfc.flash = .programming (.uncommit h) q ∧ s.jobs.running = some { box := b, work := .commit w } ∧
      w.phase = .drain false ∧ s.tlc.queue = queue) ∧
    (∃ (s : State) (b : Fin 16) (w : CommitWork) (h : HeaderRecord), s.mfc.flash = .readingHeader ∧
      s.jobs.running = some { box := b, work := .commit w } ∧ w.phase = .headerRead ∧ s.homes.header = .holds h) ∧
    (∃ (s : State) (b : Fin 16) (w : CommitWork), s.mfc.flash = .readingHeader ∧
      s.jobs.running = some { box := b, work := .commit w } ∧ w.phase = .headerRead ∧ s.homes.header = .erased) ∧
    ∃ (s : State) (b : Fin 16) (w : CommitWork), s.mfc.flash = .readingHeader ∧
      s.jobs.running = some { box := b, work := .commit w } ∧ w.phase = .headerRead ∧ s.homes.header = .failing :=
  ⟨⟨uncommitting, { committedHome with committed := false }, 10, rfl⟩,
    fun queue _ => ⟨(committing (.drain false) (.programming (.uncommit committedHome) 10) 0).setTlc
        { Tlc.reset with queue := queue }, committedHome, 10, 3, commitAt (.drain false), rfl, rfl, rfl, rfl⟩,
    ⟨committing .headerRead .readingHeader 0, 3, commitAt .headerRead, committedHome, rfl, rfl, rfl, rfl⟩,
    ⟨(committing .headerRead .readingHeader 0).setHomes Homes.new, 3, commitAt .headerRead, rfl, rfl, rfl, rfl⟩,
    (committing .headerRead .readingHeader 0).setHomes { Homes.new with header := .failing }, 3, commitAt .headerRead,
    rfl, rfl, rfl, rfl⟩

theorem witness_CommitsEnd :
    (∃ (s : State) (b : Fin 16) (x : Box) (w : CommitWork), s.jobs.running = some { box := b, work := .commit w } ∧
      boxAt b s = some x ∧ w.phase = .drain true ∧ s.mfc.header.faulty = 0) ∧
    (∃ (s : State) (b : Fin 16) (x : Box) (w : CommitWork), s.jobs.running = some { box := b, work := .commit w } ∧
      boxAt b s = some x ∧ w.phase = .drain true ∧ s.mfc.header.faulty ≠ 0) ∧
    ∃ (s : State) (b : Fin 16) (x : Box) (w : CommitWork) (h : HeaderRecord) (q : BitVec 32),
      s.jobs.running = some { box := b, work := .commit w } ∧ boxAt b s = some x ∧
      s.mfc.flash = .programming (.header h) q :=
  ⟨⟨committing (.drain true) .idle 0, 3, running .commitMap none, commitAt (.drain true),
      by decide +kernel⟩,
    ⟨committing (.drain true) .idle 1, 3, running .commitMap none, commitAt (.drain true),
      by decide +kernel⟩,
    committing .header (.programming (.header committedHome) 8) 0, 3, running .commitMap none,
    commitAt .header, committedHome, 8, rfl, by decide +kernel, rfl⟩

/-! ## Witnesses: the panel side -/

/-- The body of a FETCH_RUN. -/
def runBody (t n : Nat) : List Byte :=
  fieldBytes [(1, bytesOfNat 2 t), (2, bytesOfNat 1 n)]

/-- Tile 504, a count of 0, and tile 503 with counts of 1 and 255, the TLC free and at work. -/
theorem witness_RunsStayInTheirRowGroup :
    (∃ (s : State) (req : Request) (t n : Nat), waitingRequest .fetchRun .panel s = some req ∧ t < 65536 ∧ n < 256 ∧
      req.body = fieldBytes [(1, bytesOfNat 2 t), (2, bytesOfNat 1 n)] ∧ t = 504 ∧ n = 1) ∧
    (∃ (s : State) (req : Request) (t n : Nat), waitingRequest .fetchRun .panel s = some req ∧ t < 65536 ∧ n < 256 ∧
      req.body = fieldBytes [(1, bytesOfNat 2 t), (2, bytesOfNat 1 n)] ∧ t = 503 ∧ n = 0) ∧
    (∃ (s : State) (req : Request) (t n : Nat), waitingRequest .fetchRun .panel s = some req ∧ t < 65536 ∧ n < 256 ∧
      req.body = fieldBytes [(1, bytesOfNat 2 t), (2, bytesOfNat 1 n)] ∧ t = 503 ∧ n = 1 ∧ s.tlc.panel = none) ∧
    ∃ (s : State) (req : Request) (t n : Nat) (o : PanelOp), waitingRequest .fetchRun .panel s = some req ∧ t < 65536 ∧
      n < 256 ∧ req.body = fieldBytes [(1, bytesOfNat 2 t), (2, bytesOfNat 1 n)] ∧ t = 503 ∧ n = 255 ∧
      s.tlc.panel = some o :=
  ⟨⟨asked .fetchRun .panel (runBody 504 1) ready, ask .fetchRun .panel (runBody 504 1), 504, 1, by decide +kernel⟩,
    ⟨asked .fetchRun .panel (runBody 503 0) ready, ask .fetchRun .panel (runBody 503 0), 503, 0, by decide +kernel⟩,
    ⟨asked .fetchRun .panel (runBody 503 1) ready, ask .fetchRun .panel (runBody 503 1), 503, 1, by decide +kernel⟩,
    asked .fetchRun .panel (runBody 503 255) (snapping true none), ask .fetchRun .panel (runBody 503 255), 503, 255,
    panelOp true, by decide +kernel⟩

/-- R124: a run of four from tile 274 wraps within its row group, whose base is 270. -/
theorem test_run_wraps :
    ∃ t, exec (.fetchRun .panel) (asked .fetchRun .panel (runBody 274 4) ready) = .next t ∧
      t.pnp.run.map (·.todo) = some [274, 275, 270, 271] :=
  ⟨_, rfl, by decide +kernel⟩

/-- A STALE tile at the pointer, one below it, and none. -/
theorem witness_NextStaleScansTheDirectory :
    (∃ (s : State) (req : Request) (t : TileNo), waitingRequest .nextStale .panel s = some req ∧ req.body = [] ∧
      dirOf t s = .stale ∧ s.pcd.scan ≤ t ∧ ∀ u : TileNo, s.pcd.scan ≤ u → u < t → dirOf u s ≠ .stale) ∧
    (∃ (s : State) (req : Request) (t : TileNo), waitingRequest .nextStale .panel s = some req ∧ req.body = [] ∧
      dirOf t s = .stale ∧ t < s.pcd.scan ∧ (∀ u : TileNo, s.pcd.scan ≤ u → dirOf u s ≠ .stale) ∧
      ∀ u : TileNo, u < t → dirOf u s ≠ .stale) ∧
    ∃ (s : State) (req : Request), waitingRequest .nextStale .panel s = some req ∧ req.body = [] ∧
      ∀ t : TileNo, dirOf t s ≠ .stale :=
  ⟨⟨asked .nextStale .panel [] (ready.setPcd { Pcd.reset with dir := Pcd.reset.dir.set 503 .stale, scan := 503 }),
      ask .nextStale .panel [], 503, by decide +kernel⟩,
    ⟨asked .nextStale .panel [] (ready.setPcd { Pcd.reset with dir := Pcd.reset.dir.set 0 .stale, scan := 503 }),
      ask .nextStale .panel [], 0, by decide +kernel⟩,
    asked .nextStale .panel [] ready, ask .nextStale .panel [], by decide +kernel⟩

/-- 31 and 32 tile numbers queued, and the flag set, with tile 503 CURRENT. -/
def current503 (notices : List TileNo) (overflow : Bool) : State :=
  setDir 503 .current (ready.setPcd { Pcd.reset with notices := notices, overflow := overflow })

theorem witness_NoticesAreKeptAndHelloResetsThePanel :
    (∃ (s : State) (t : TileNo), dirOf t s = .current ∧ t ∉ s.pcd.notices ∧ s.pcd.overflow = false ∧
      s.pcd.notices.length = 31) ∧
    (∃ (s : State) (t : TileNo), dirOf t s = .current ∧ t ∉ s.pcd.notices ∧ s.pcd.overflow = false ∧
      s.pcd.notices.length = 32) ∧
    (∃ (s : State) (t : TileNo), dirOf t s = .current ∧ t ∉ s.pcd.notices ∧ s.pcd.overflow = true) ∧
    (∃ (s : State) (req : Request), req.body = [] ∧ waitingRequest .readNotices .panel s = some req ∧
      s.pcd.overflow = false) ∧
    (∃ (s : State) (req : Request), req.body = [] ∧ waitingRequest .readNotices .panel s = some req ∧
      s.pcd.overflow = true) ∧
    ∃ (s : State) (req : Request), req.body = [] ∧ waitingRequest .panelHello .panel s = some req :=
  ⟨⟨current503 ((List.finRange 504).take 31) false, 503, by decide +kernel⟩,
    ⟨current503 ((List.finRange 504).take 32) false, 503, by decide +kernel⟩,
    ⟨current503 [] true, 503, by decide +kernel⟩,
    ⟨asked .readNotices .panel [] (ready.setPcd { Pcd.reset with notices := (List.finRange 504).take 9 }),
      ask .readNotices .panel [], by decide +kernel⟩,
    ⟨asked .readNotices .panel [] (ready.setPcd { Pcd.reset with overflow := true }), ask .readNotices .panel [],
      by decide +kernel⟩,
    asked .panelHello .panel [] ready, ask .panelHello .panel [], by decide +kernel⟩

/-! ## Witnesses: keys, records and the stage -/

/-- The body of a LOAD_KEY of slot 11, class CONTENT, 16 zero bytes. -/
def loadBody : List Byte :=
  fieldBytes [(1, [11]), (2, [1]), (3, [0, 16]), (4, List.replicate 16 0)]

theorem witness_KeysAreLoadedFixedErasedAndReleased :
    (∃ (s : State) (k : Fin 12) (i : Station) (req : Request) (cls : KeyClass) (material : List Byte),
      (slotAt k s).pending = false ∧ lineRequest .keys .loadKey i req s ∧ parseLoadSlot req.body = some k ∧
      parseKey req.body = some (cls, material) ∧ (slotAt k s).state = .empty) ∧
    (∃ (s : State) (k : Fin 12) (key : Key) (i : Station) (req : Request) (cls : KeyClass) (material : List Byte),
      (slotAt k s).pending = false ∧ lineRequest .keys .loadKey i req s ∧ parseLoadSlot req.body = some k ∧
      parseKey req.body = some (cls, material) ∧ (slotAt k s).state = .loaded key ∧ key.loader = i) ∧
    (∃ (s : State) (k : Fin 12) (key : Key) (i : Station) (req : Request), (slotAt k s).pending = false ∧
      lineRequest .keys .fixKey i req s ∧ parseSlotOnly req.body = some k ∧ (slotAt k s).state = .loaded key ∧
      key.loader = i) ∧
    (∃ (s : State) (k : Fin 12) (key : Key) (i : Station) (req : Request), (slotAt k s).pending = false ∧
      lineRequest .keys .eraseKey i req s ∧ parseSlotOnly req.body = some k ∧ (slotAt k s).state = .loaded key ∧
      key.loader = i) ∧
    (∃ (s : State) (k : Fin 12) (key : Key) (i : Station) (req : Request), (slotAt k s).pending = false ∧
      lineRequest .keys .eraseKey i req s ∧ parseSlotOnly req.body = some k ∧ (slotAt k s).state = .fixed key ∧
      s.srb.stage.stage = .rework) ∧
    (∃ (s : State) (k : Fin 12) (key : Key) (req : Request) (q : BitVec 32),
      s.mfc.flash = .programming (.record (.keyFix req k key)) q) ∧
    (∃ (s : State) (k : Fin 12) (req : Request) (q : BitVec 32), s.mfc.flash = .programming (.record (.keyErase req k)) q) ∧
    ∃ (s : State) (k : Fin 12) (key : Key) (req : Request), waitingRequest .releaseKey .system s = some req ∧
      parseSlotOnly req.body = some k ∧ s.srb.stage.stage = .closed ∧ s.srb.stage.program ≠ .reopening ∧
      (slotAt k s).state = .fixed key ∧ key.cls = .content :=
  ⟨⟨asked .loadKey (.station 1) loadBody ready, 11, 1, ask .loadKey (.station 1) loadBody, .content, List.replicate 16 0,
      by unfold lineRequest; decide +kernel⟩,
    ⟨asked .loadKey (.station 1) loadBody (slotted 11 (.loaded key) ready), 11, key, 1, ask .loadKey (.station 1) loadBody,
      .content, List.replicate 16 0, by unfold lineRequest; decide +kernel⟩,
    ⟨asked .fixKey (.station 1) (bytesBody [11]) (slotted 11 (.loaded key) ready), 11, key, 1,
      ask .fixKey (.station 1) (bytesBody [11]), by unfold lineRequest; decide +kernel⟩,
    ⟨asked .eraseKey (.station 1) (bytesBody [0]) (slotted 0 (.loaded key) ready), 0, key, 1,
      ask .eraseKey (.station 1) (bytesBody [0]), by unfold lineRequest; decide +kernel⟩,
    ⟨asked .eraseKey (.station 1) (bytesBody [0]) (staged .rework .none (slotted 0 (.fixed key) ready)), 0, key, 1,
      ask .eraseKey (.station 1) (bytesBody [0]), by unfold lineRequest; decide +kernel⟩,
    ⟨flashing (.programming (.record (.keyFix (ask .fixKey (.station 1) []) 0 key)) 3) ready, 0, key, _, 3, rfl⟩,
    ⟨flashing (.programming (.record (.keyErase (ask .eraseKey (.station 1) []) 0)) 3) ready, 0, _, 3, rfl⟩,
    asked .releaseKey .system (bytesBody [11]) (staged .closed .none (slotted 11 (.fixed key) ready)), 11, key,
    ask .releaseKey .system (bytesBody [11]), by decide +kernel⟩

/-- The body of a WRITE_REGION, and of a WRITE_LABEL. -/
def regionBody : List Byte :=
  fieldBytes [(1, [63]), (2, [0xFF]), (3, [69, 78, 71]), (4, [60]), (5, [15])]

def labelBody : List Byte :=
  fieldBytes [(1, [65, 45, 49]), (2, [0x63, 0x40]), (3, [0x08, 0x30, 2, 29])]

/-- SYSTEM's reservation names a record. -/
def reserved (x : Target × BitVec 16) (s : State) : State :=
  setReservation .system (some x) s

theorem witness_RecordsAreReadAndWritten :
    (∃ (s : State) (m : Master) (req : Request), parseReserve req.body = some true ∧
      waitingRequest .readRegion m s = some req) ∧
    (∃ (s : State) (m : Master) (req : Request), parseReserve req.body = some false ∧
      waitingRequest .readLabel m s = some req) ∧
    (∃ (s : State) (m : Master) (req : Request) (c : RegionFields), waitingRequest .writeRegion m s = some req ∧
      recordsOrSystem m s = true ∧ m = .system ∧ parseRegion req.body = some c ∧
      reservationOf m s = some (.region, s.srb.region.version) ∧ s.srb.region.pending = false) ∧
    (∃ (s : State) (m : Master) (req : Request) (c : RegionFields), waitingRequest .writeRegion m s = some req ∧
      recordsOrSystem m s = true ∧ m = .system ∧ parseRegion req.body = some c ∧
      reservationOf m s ≠ some (.region, s.srb.region.version)) ∧
    (∃ (s : State) (m : Master) (req : Request) (c : LabelFields), waitingRequest .writeLabel m s = some req ∧
      recordsOrSystem m s = true ∧ stageAdmits lineStage s = true ∧ parseLabel req.body = some c ∧
      reservationOf m s = some (.label, s.srb.label.version) ∧ s.srb.label.pending = false) ∧
    (∃ (s : State) (m : Master) (req : Request) (c : LabelFields), waitingRequest .writeLabel m s = some req ∧
      recordsOrSystem m s = true ∧ stageAdmits lineStage s = true ∧ parseLabel req.body = some c ∧
      reservationOf m s ≠ some (.label, s.srb.label.version)) ∧
    (∃ (s : State) (req : Request) (c : RegionFields) (v : BitVec 16) (q : BitVec 32),
      s.mfc.flash = .programming (.record (.region req c v)) q) ∧
    ∃ (s : State) (req : Request) (c : LabelFields) (v : BitVec 16) (q : BitVec 32),
      s.mfc.flash = .programming (.record (.label req c v)) q :=
  ⟨⟨asked .readRegion .system (bytesBody [1]) ready, .system, ask .readRegion .system (bytesBody [1]), by decide +kernel⟩,
    ⟨asked .readLabel .panel [] ready, .panel, ask .readLabel .panel [], by decide +kernel⟩,
    ⟨asked .writeRegion .system regionBody (reserved (.region, 0) ready), .system, ask .writeRegion .system regionBody,
      region, by decide +kernel⟩,
    ⟨asked .writeRegion .system regionBody (reserved (.region, 1) ready), .system, ask .writeRegion .system regionBody,
      region, by decide +kernel⟩,
    ⟨asked .writeLabel .system labelBody (reserved (.label, 0) ready), .system, ask .writeLabel .system labelBody, label,
      by decide +kernel⟩,
    ⟨asked .writeLabel .system labelBody (reserved (.region, 0) ready), .system, ask .writeLabel .system labelBody, label,
      by decide +kernel⟩,
    ⟨flashing (.programming (.record (.region (ask .writeRegion .system []) region 1)) 3) ready, _, region, 1, 3, rfl⟩,
    flashing (.programming (.record (.label (ask .writeLabel .system []) label 1)) 3) ready, _, label, 1, 3, rfl⟩

theorem witness_SetsAreClosedAndReopened :
    (∃ (s : State) (req : Request) (i : Station), s.config.roles[i].stage = true ∧ req.body = [] ∧
      s.srb.stage.program = .none ∧ waitingRequest .closeSet (.station i) s = some req ∧ s.srb.stage.stage ≠ .closed ∧
      s.jobs.running = none ∧ writeTaken (withoutRequest req s) = false ∧ missingItems s = []) ∧
    (∃ (s : State) (req : Request) (i : Station), s.config.roles[i].stage = true ∧ req.body = [] ∧
      s.srb.stage.program = .none ∧ waitingRequest .closeSet (.station i) s = some req ∧ s.srb.stage.stage ≠ .closed ∧
      s.jobs.running = none ∧ writeTaken (withoutRequest req s) = false ∧ missingItems s ≠ []) ∧
    (∃ (s : State) (req : Request) (i : Station), s.config.roles[i].stage = true ∧ req.body = [] ∧
      s.srb.stage.program = .none ∧ waitingRequest .reopenSet (.station i) s = some req ∧ s.srb.stage.stage = .closed ∧
      s.srb.stage.reopenCount < s.config.reopenLimit) ∧
    (∃ (s : State) (req : Request) (i : Station), s.config.roles[i].stage = true ∧ req.body = [] ∧
      s.srb.stage.program = .none ∧ waitingRequest .reopenSet (.station i) s = some req ∧ s.srb.stage.stage = .closed ∧
      s.config.reopenLimit ≤ s.srb.stage.reopenCount) ∧
    (∃ (s : State) (req : Request) (c r : Nat) (q : BitVec 32), s.mfc.flash = .programming (.record (.close req c r)) q) ∧
    ∃ (s : State) (req : Request) (c r : Nat) (q : BitVec 32), s.mfc.flash = .programming (.record (.reopen req c r)) q :=
  ⟨⟨asked .closeSet (.station 0) [] (whole ready), ask .closeSet (.station 0) [], 0, by decide +kernel⟩,
    ⟨asked .closeSet (.station 0) [] ready, ask .closeSet (.station 0) [], 0, by decide +kernel⟩,
    ⟨asked .reopenSet (.station 0) [] (setStage { StageRec.reset with stage := .closed, reopenCount := 2 } ready),
      ask .reopenSet (.station 0) [], 0, by decide +kernel⟩,
    ⟨asked .reopenSet (.station 0) [] (setStage { StageRec.reset with stage := .closed, reopenCount := 3 } ready),
      ask .reopenSet (.station 0) [], 0, by decide +kernel⟩,
    ⟨flashing (.programming (.record (.close (ask .closeSet (.station 0) []) 1 0)) 3) ready, _, 1, 0, 3, rfl⟩,
    flashing (.programming (.record (.reopen (ask .reopenSet (.station 0) []) 1 1)) 3) ready, _, 1, 1, 3, rfl⟩

/-! ## Witnesses: the system side and refusals -/

/-- The body of a WRITE_CONFIG: no roles, no required slot, limit 15. -/
def configBody : List Byte :=
  fieldBytes [(1, [0, 0, 0, 0]), (2, [0, 0]), (3, [15])]

theorem witness_TheSystemSideIsServed :
    (∃ (s : State) (req : Request), waitingRequest .linkResume .system s = some req ∧ req.body = [] ∧
      s.fxl.link = .silent) ∧
    (∃ (s : State) (req : Request) (bits : BitVec 13), parseEventBits req.body = some bits ∧
      waitingRequest .ackEvents .system s = some req) ∧
    (∃ (s : State) (req : Request) (bits : BitVec 13), parseEventBits req.body = some bits ∧
      waitingRequest .setEventMask .system s = some req) ∧
    (∃ (s : State) (req : Request) (i : Fin 6), waitingRequest .clearCounters .system s = some req ∧
      parseSelect req.body = some (.master i)) ∧
    (∃ (s : State) (req : Request) (i : Fin 24), waitingRequest .clearCounters .system s = some req ∧
      parseSelect req.body = some (.counter i)) ∧
    (∃ (s : State) (req : Request) (c : Machine.Config), waitingRequest .writeConfig .system s = some req ∧
      s.srb.stage.stage = .opened ∧ s.srb.stage.program = .none ∧ parseConfig req.body = some c) ∧
    ∃ (s : State) (req : Request) (c : Machine.Config) (q : BitVec 32),
      s.mfc.flash = .programming (.record (.config req c)) q :=
  ⟨⟨asked .linkResume .system [] silentLink, ask .linkResume .system [], by decide +kernel⟩,
    ⟨asked .ackEvents .system (fieldBytes [(1, [0x1F, 0xFF])]) ready,
      ask .ackEvents .system (fieldBytes [(1, [0x1F, 0xFF])]), 0x1FFF, by decide +kernel⟩,
    ⟨asked .setEventMask .system (fieldBytes [(1, [0, 0])]) ready, ask .setEventMask .system (fieldBytes [(1, [0, 0])]), 0,
      by decide +kernel⟩,
    ⟨asked .clearCounters .system (bytesBody [0, 5]) ready, ask .clearCounters .system (bytesBody [0, 5]), 5,
      by decide +kernel⟩,
    ⟨asked .clearCounters .system (bytesBody [1, 23]) ready, ask .clearCounters .system (bytesBody [1, 23]), 23,
      by decide +kernel⟩,
    ⟨asked .writeConfig .system configBody ready, ask .writeConfig .system configBody,
      { roles := Vector.replicate 4 { capture := false, map := false, keys := false, records := false, stage := false },
        required := 0, reopenLimit := 15 }, by decide +kernel⟩,
    flashing (.programming (.record (.config (ask .writeConfig .system []) Config.defaults)) 3) ready, _, Config.defaults, 3,
    rfl⟩

/-- PANEL may not open a capture; a station may not in CLOSED; SYSTEM's RELEASE_KEY is refused in OPEN. -/
theorem witness_RequestsAreRefusedByOriginAndStage :
    (∃ (s : State) (k : Kind) (m : Master) (req : Request), waitingRequest k m s = some req ∧ mayAsk k m s = false) ∧
    (∃ (s : State) (k : Kind) (m : Master) (req : Request), waitingRequest k m s = some req ∧ mayAsk k m s = true ∧
      stageOpenTo k m s = false ∧ k ≠ .releaseKey) ∧
    (∃ (s : State) (m : Master) (req : Request), waitingRequest .releaseKey m s = some req ∧ mayAsk .releaseKey m s = true ∧
      stageOpenTo .releaseKey m s = false ∧ (parseSlotOnly req.body).isSome = true) ∧
    ∃ (s : State) (i : Station) (req : Request) (slot : Fin 12) (key : Key), lineRequest .keys .eraseKey i req s ∧
      parseSlotOnly req.body = some slot ∧ (slotAt slot s).state = .fixed key ∧ (slotAt slot s).pending = false ∧
      s.srb.stage.stage ≠ .rework :=
  ⟨⟨asked .openCapture .panel openBody ready, .openCapture, .panel, ask .openCapture .panel openBody, by decide +kernel⟩,
    ⟨asked .openCapture (.station 1) openBody (staged .closed .none ready), .openCapture, .station 1,
      ask .openCapture (.station 1) openBody, by decide +kernel⟩,
    ⟨asked .releaseKey .system (bytesBody [11]) ready, .system, ask .releaseKey .system (bytesBody [11]),
      by decide +kernel⟩,
    asked .eraseKey (.station 1) (bytesBody [11]) (slotted 11 (.fixed key) ready), 1, ask .eraseKey (.station 1) (bytesBody [11]),
    11, key, by unfold lineRequest; decide +kernel⟩

/-- A box stands, with the request of STATION1 for box 0. -/
def boxAsked (k : Kind) (x : Box) : State :=
  asked k (.station 1) (bytesBody [0]) (setBox 0 (some x) ready)

/-- A box of STATION2. -/
def othersBox : Box :=
  { queued .clearMap none with owner := 2 }

/-- The capture LOCKED and CONSUMED; four boxes of STATION1, and none free; a FREE box, another station's, a RUNNING, a held
and an ended one of STATION1's own. -/
theorem witness_ObjectsRefuseByTheirState_capturesAndBoxes :
    (∃ (s : State) (i : Station) (req : Request), lineRequest .capture .openCapture i req s ∧ s.cap.state = .locked) ∧
    (∀ st ∈ [CapState.locked, .consumed], ∃ (s : State) (i : Station) (req : Request),
      lineRequest .capture .putRow i req s ∧ s.cap.owner = some i ∧ s.cap.state = st) ∧
    (∃ (s : State) (i : Station) (req : Request), lineRequest .capture .discardCapture i req s ∧ s.cap.owner = some i ∧
      s.cap.state = .locked) ∧
    (∃ (s : State) (i : Station) (req : Request), lineRequest .map .submitJob i req s ∧
      (parseSubmit req.body).isSome = true ∧ ownedBoxes i s = 4 ∧ ∃ b : Fin 16, boxAt b s = none) ∧
    (∃ (s : State) (i : Station) (req : Request), lineRequest .map .submitJob i req s ∧
      (parseSubmit req.body).isSome = true ∧ ∀ b : Fin 16, (boxAt b s).isSome = true) ∧
    (∀ k ∈ [Kind.holdBox, .cancelJob, .freeBox],
      (∃ (s : State) (i : Station) (req : Request) (b : Fin 16), lineRequest .map k i req s ∧
        parseBoxOnly req.body = some b ∧ boxAt b s = none) ∧
      ∃ (s : State) (i : Station) (req : Request) (b : Fin 16) (x : Box), lineRequest .map k i req s ∧
        parseBoxOnly req.body = some b ∧ boxAt b s = some x ∧ x.owner ≠ i) ∧
    (∃ (s : State) (i : Station) (req : Request) (b : Fin 16) (x : Box), lineRequest .map .holdBox i req s ∧
      parseBoxOnly req.body = some b ∧ boxAt b s = some x ∧ x.owner = i ∧ x.state = .running) ∧
    (∃ (s : State) (i : Station) (req : Request) (b : Fin 16) (x : Box), lineRequest .map .holdBox i req s ∧
      parseBoxOnly req.body = some b ∧ boxAt b s = some x ∧ x.owner = i ∧ x.state = .queued ∧ x.hold.isSome = true) ∧
    (∃ (s : State) (i : Station) (req : Request) (b : Fin 16) (x : Box), lineRequest .map .cancelJob i req s ∧
      parseBoxOnly req.body = some b ∧ boxAt b s = some x ∧ x.owner = i ∧ boxEnded x.state = true) ∧
    (∃ (s : State) (i : Station) (req : Request) (b : Fin 16) (x : Box), lineRequest .map .freeBox i req s ∧
      parseBoxOnly req.body = some b ∧ boxAt b s = some x ∧ x.owner = i ∧ x.state = .running) ∧
    (∃ (s : State) (i : Station) (req : Request) (b : Fin 16), lineRequest .map .releaseBox i req s ∧
      parseBoxOnly req.body = some b ∧ notHolding i b s) ∧
    ∃ (s : State) (i : Station) (req : Request) (b : Fin 16) (bytes : Option (List Byte)), lineRequest .map .editBox i req s ∧
      parseEdit req.body = some (b, bytes) ∧ notHolding i b s := by
  have unheld (k : Kind) : notHolding 1 0 (boxAsked k (queued .clearMap none)) := fun x h => .inl (by cases h; rfl)
  unfold lineRequest
  refine ⟨⟨asked .openCapture (.station 1) openBody (ready.setCap (capture .locked)), 1, ask .openCapture (.station 1) openBody,
      by decide +kernel⟩,
    fun st _ => ⟨asked .putRow (.station 1) (rowBody 27) (ready.setCap (capture st)), 1, ask .putRow (.station 1) (rowBody 27),
      ⟨rfl, rfl, rfl⟩, rfl, rfl⟩,
    ⟨asked .discardCapture (.station 1) [] (ready.setCap (capture .locked)), 1, ask .discardCapture (.station 1) [],
      by decide +kernel⟩,
    ⟨asked .submitJob (.station 1) submitBody (setBox 0 (some (queued .clearMap none)) threeBoxes), 1,
      ask .submitJob (.station 1) submitBody, by decide +kernel⟩,
    ⟨asked .submitJob (.station 1) submitBody
        (ready.setJobs { Jobs.reset with boxes := Vector.replicate 16 (some othersBox) }), 1,
      ask .submitJob (.station 1) submitBody, by decide +kernel⟩,
    fun k _ => ⟨⟨asked k (.station 1) (bytesBody [0]) ready, 1, ask k (.station 1) (bytesBody [0]), 0, ?_, box0, rfl⟩,
      boxAsked k othersBox, 1, ask k (.station 1) (bytesBody [0]), 0, othersBox, ?_, box0, rfl, by decide⟩,
    ⟨boxAsked .holdBox (running .clearMap none), 1, ask .holdBox (.station 1) (bytesBody [0]), 0, running .clearMap none,
      by decide +kernel⟩,
    ⟨boxAsked .holdBox heldBox, 1, ask .holdBox (.station 1) (bytesBody [0]), 0, heldBox, by decide +kernel⟩,
    ⟨boxAsked .cancelJob { queued .clearMap none with state := .done }, 1, ask .cancelJob (.station 1) (bytesBody [0]), 0,
      { queued .clearMap none with state := .done }, by decide +kernel⟩,
    ⟨boxAsked .freeBox (running .clearMap none), 1, ask .freeBox (.station 1) (bytesBody [0]), 0, running .clearMap none,
      by decide +kernel⟩,
    ⟨boxAsked .releaseBox (queued .clearMap none), 1, ask .releaseBox (.station 1) (bytesBody [0]), 0, by decide +kernel,
      by decide, unheld .releaseBox⟩,
    boxAsked .editBox (queued .clearMap none), 1, ask .editBox (.station 1) (bytesBody [0]), 0, none, by decide +kernel,
    by decide, unheld .editBox⟩
  · exact ⟨by simp [asked, waitingRequest, ask, State.setInbox, State.setFxl], rfl, rfl⟩
  · exact ⟨by simp [boxAsked, asked, waitingRequest, ask, State.setInbox, State.setFxl], rfl, rfl⟩

/-- A slot whose program is pending. -/
def pendingSlot : KeySlot :=
  { state := .loaded key, pending := true, homeFault := false }

/-- A slot with a program pending, EMPTY, FIXED and another station's; a released key of class SERVICE and of none; a record
with a program pending; a stage program in flight, a job RUNNING and a WRITE_TILE taken. -/
theorem witness_ObjectsRefuseByTheirState :
    (∀ x ∈ [pendingSlot, { pendingSlot with state := .fixed key, pending := false },
        { pendingSlot with state := .loaded { key with loader := 2 }, pending := false }],
      (∃ (s : State) (i : Station) (req : Request) (k : Fin 12), lineRequest .keys .loadKey i req s ∧
        parseLoadSlot req.body = some k ∧ slotAt k s = x) ∧
      ∃ (s : State) (i : Station) (req : Request) (k : Fin 12), lineRequest .keys .fixKey i req s ∧
        parseSlotOnly req.body = some k ∧ slotAt k s = x) ∧
    (∀ x ∈ [pendingSlot, { pendingSlot with state := .empty, pending := false },
        { pendingSlot with state := .loaded { key with loader := 2 }, pending := false }],
      ∃ (s : State) (i : Station) (req : Request) (k : Fin 12), lineRequest .keys .eraseKey i req s ∧
        parseSlotOnly req.body = some k ∧ slotAt k s = x) ∧
    (∃ (s : State) (req : Request) (k : Fin 12), waitingRequest .releaseKey .system s = some req ∧
      parseSlotOnly req.body = some k ∧ s.srb.stage.stage = .closed ∧ s.srb.stage.program ≠ .reopening ∧
      (slotAt k s).state = .fixed { key with cls := .service }) ∧
    (∃ (s : State) (req : Request) (k : Fin 12), waitingRequest .releaseKey .system s = some req ∧
      parseSlotOnly req.body = some k ∧ s.srb.stage.stage = .closed ∧ s.srb.stage.program ≠ .reopening ∧
      (slotAt k s).state = .empty) ∧
    (∃ (s : State) (m : Master) (req : Request) (c : RegionFields), waitingRequest .writeRegion m s = some req ∧
      recordsOrSystem m s = true ∧ m = .system ∧ parseRegion req.body = some c ∧
      reservationOf m s = some (.region, s.srb.region.version) ∧ s.srb.region.pending = true) ∧
    (∃ (s : State) (m : Master) (req : Request) (c : LabelFields), waitingRequest .writeLabel m s = some req ∧
      recordsOrSystem m s = true ∧ stageAdmits lineStage s = true ∧ parseLabel req.body = some c ∧
      reservationOf m s = some (.label, s.srb.label.version) ∧ s.srb.label.pending = true) ∧
    (∀ n : Fin 3, ∃ (s : State) (i : Station) (req : Request), s.config.roles[i].stage = true ∧ req.body = [] ∧
      waitingRequest .closeSet (.station i) s = some req ∧ s.srb.stage.stage ≠ .closed ∧
      (n = 0 ∧ s.srb.stage.program ≠ .none ∨ n = 1 ∧ s.jobs.running.isSome = true ∨
        n = 2 ∧ writeTaken (withoutRequest req s) = true)) ∧
    ∃ (s : State) (i : Station) (req : Request), s.config.roles[i].stage = true ∧ req.body = [] ∧
      waitingRequest .reopenSet (.station i) s = some req ∧ s.srb.stage.stage = .closed ∧ s.srb.stage.program ≠ .none := by
  unfold lineRequest
  refine ⟨fun x _ => ⟨⟨asked .loadKey (.station 1) loadBody (setSlot 11 x ready), 1, ask .loadKey (.station 1) loadBody, 11,
        ⟨rfl, rfl, rfl⟩, by decide, rfl⟩,
      asked .fixKey (.station 1) (bytesBody [11]) (setSlot 11 x ready), 1, ask .fixKey (.station 1) (bytesBody [11]), 11,
      ⟨rfl, rfl, rfl⟩, slot11, rfl⟩,
    fun x _ => ⟨asked .eraseKey (.station 1) (bytesBody [11]) (setSlot 11 x ready), 1,
      ask .eraseKey (.station 1) (bytesBody [11]), 11, ⟨rfl, rfl, rfl⟩, slot11, rfl⟩,
    ⟨asked .releaseKey .system (bytesBody [11]) (staged .closed .none (slotted 11 (.fixed { key with cls := .service }) ready)),
      ask .releaseKey .system (bytesBody [11]), 11, by decide +kernel⟩,
    ⟨asked .releaseKey .system (bytesBody [11]) (staged .closed .none ready), ask .releaseKey .system (bytesBody [11]), 11,
      by decide +kernel⟩,
    ⟨asked .writeRegion .system regionBody
        (setRegion { SetRecord.blank RegionFields with pending := true } (reserved (.region, 0) ready)), .system,
      ask .writeRegion .system regionBody, region, by decide +kernel⟩,
    ⟨asked .writeLabel .system labelBody
        (setLabel { SetRecord.blank LabelFields with pending := true } (reserved (.label, 0) ready)), .system,
      ask .writeLabel .system labelBody, label, by decide +kernel⟩, fun n => ?_,
    asked .reopenSet (.station 0) [] (staged .closed .reopening ready), 0, ask .reopenSet (.station 0) [], by decide +kernel⟩
  match n with
  | 0 => exact ⟨asked .closeSet (.station 0) [] (staged .opened .closing ready), 0, ask .closeSet (.station 0) [],
      by decide +kernel⟩
  | 1 => exact ⟨asked .closeSet (.station 0) [] (runs .clearMap none (.clear 0) ready), 0, ask .closeSet (.station 0) [],
      by decide +kernel⟩
  | 2 => exact ⟨asked .closeSet (.station 0) [] (accessing (.write top 0) (cleanTile 5) ready), 0,
      ask .closeSet (.station 0) [], by decide +kernel⟩

end Sys2Proof.Tests
end

section
/-! The raw residual of a non-flat node: rounding to nearest (R14) and exact formation (R15). The rounding is described
once, for a numerator that is not negative, and carried to a negative one by exchanging target and measured value. -/

namespace Sys2Proof.Proofs.CorrectionArithmetic

open Sys2Proof Sys2Proof.Machine

/-! ## Rounding to nearest, a tie going away from zero -/

/-- `r` is the quotient of `n` by `s` to nearest, a tie going away from zero, with the sign of `n`. -/
structure RoundsAway (n s r : Int) : Prop where
  nearest : 2 * |r * s - n| ≤ s
  tie_away : 2 * |r * s - n| = s → |n| < |r * s|
  nonneg_of_pos : 0 < n → 0 ≤ r
  nonpos_of_neg : n < 0 → r ≤ 0
  eq_zero : n = 0 → r = 0

/-- The mirror image of a rounded quotient rounds the mirrored numerator. -/
theorem RoundsAway.neg {n s r : Int} (h : RoundsAway n s r) : RoundsAway (-n) s (-r) := by
  have mirrored : |-r * s - -n| = |r * s - n| := by
    rw [← abs_neg]; congr 1; ring
  constructor
  · rw [mirrored]; exact h.nearest
  · rw [mirrored, abs_neg, neg_mul, abs_neg]; exact h.tie_away
  · intro hn; have := h.nonpos_of_neg (by omega); omega
  · intro hn; have := h.nonneg_of_pos (by omega); omega
  · intro hn; have := h.eq_zero (by omega); omega

/-- A quotient in the half-open band of width `s` above `n - s / 2` is rounded away from zero when `n` is not negative. -/
theorem RoundsAway.of_band {n s r : Int} (hn : 0 ≤ n) (hs : 1 ≤ s) (hr : 0 ≤ r) (above : 2 * (r * s) ≤ 2 * n + s)
    (below : 2 * n < 2 * (r * s) + s) : RoundsAway n s r where
  nearest := by
    rcases abs_cases (r * s - n) with h | h <;> omega
  tie_away := by
    intro tie
    rw [abs_of_nonneg hn, abs_of_nonneg (by positivity)]
    rcases abs_cases (r * s - n) with h | h <;> omega
  nonneg_of_pos _ := hr
  nonpos_of_neg := by omega
  eq_zero := by
    rintro rfl
    by_contra hne
    have : s ≤ r * s := le_mul_of_one_le_left (by omega) (by omega)
    omega

/-- Division by a whole slope and rounding do not raise the magnitude. -/
theorem RoundsAway.abs_le {n s r : Int} (h : RoundsAway n s r) (hs : 1 ≤ s) : |r| ≤ |n| := by
  have product : |r| * s ≤ |n| + |r * s - n| := by
    calc |r| * s = |n + (r * s - n)| := by rw [add_sub_cancel, abs_mul, abs_of_pos (by omega : 0 < s)]
      _ ≤ |n| + |r * s - n| := abs_add_le _ _
  have nearest := h.nearest
  by_contra! hlt
  have raised : (|n| + 1) * s ≤ |r| * s := by gcongr; omega
  have scaled : |n| ≤ |n| * s := le_mul_of_one_le_right (abs_nonneg n) hs
  linarith

/-! ## The raw residual -/

/-- With a numerator that is not negative the residual is the quotient of the magnitudes, raised by one from a remainder
of half the slope on. -/
theorem rawResidual_of_le {target m : Nat} (hm : m ≤ target) (slope : Nat) :
    rawResidual target m slope =
      (((target - m) * 64 / slope + if slope ≤ 2 * ((target - m) * 64 % slope) then 1 else 0 : Nat) : Int) := by
  have numerator : ((target : Int) - m) * 64 = (((target - m) * 64 : Nat) : Int) := by omega
  unfold rawResidual
  rw [numerator]
  simp only [Int.natAbs_natCast, if_neg (Int.not_lt.mpr (Int.natCast_nonneg _))]
  split <;> rfl

/-- Target and measured value exchanged, the residual has the other sign. -/
theorem rawResidual_swap (target m : Nat) {slope : Int} (hs : 1 ≤ slope) :
    rawResidual target m slope = -rawResidual m target slope := by
  have magnitude : (((target : Int) - m) * 64).natAbs = (((m : Int) - target) * 64).natAbs := by omega
  simp only [rawResidual, magnitude]
  rcases lt_trichotomy target m with hlt | rfl | hgt
  · have negative : ((target : Int) - m) * 64 < 0 := by omega
    have positive : ¬ ((m : Int) - target) * 64 < 0 := by omega
    rw [if_pos negative, if_neg positive]
  · have nonzero : slope ≠ 0 := by omega
    simp [nonzero]
  · have positive : ¬ ((target : Int) - m) * 64 < 0 := by omega
    have negative : ((m : Int) - target) * 64 < 0 := by omega
    rw [if_neg positive, if_pos negative, neg_neg]

/-- R14 for a measured value that does not exceed the target. -/
theorem rawResidual_roundsAway_of_le {target m : Nat} (hm : m ≤ target) {slope : Int} (hs : 1 ≤ slope) :
    RoundsAway (((target : Int) - m) * 64) slope (rawResidual target m slope) := by
  lift slope to Nat using by omega
  have division : slope * ((target - m) * 64 / slope) + (target - m) * 64 % slope = (target - m) * 64 :=
    Nat.div_add_mod _ _
  have remainder : (target - m) * 64 % slope < slope := Nat.mod_lt _ (by omega)
  have numerator : ((target : Int) - m) * 64 = (((target - m) * 64 : Nat) : Int) := by omega
  rw [rawResidual_of_le hm, numerator]
  generalize (target - m) * 64 = n at *
  generalize n / slope = q at *
  generalize n % slope = e at *
  apply RoundsAway.of_band (by omega) hs (by omega)
  all_goals
    norm_cast
    split
    all_goals
      ring_nf at division ⊢
      omega

/-- R14: the raw residual is the rounded quotient of (T - M) x 64 by the slope. -/
theorem rawResidual_roundsAway (target m : Nat) {slope : Int} (hs : 1 ≤ slope) :
    RoundsAway (((target : Int) - m) * 64) slope (rawResidual target m slope) := by
  rcases le_total m target with hle | hle
  · exact rawResidual_roundsAway_of_le hle hs
  · have mirrored := (rawResidual_roundsAway_of_le hle hs).neg
    rwa [← rawResidual_swap target m hs, ← neg_mul, neg_sub] at mirrored

/-- A slope that makes a node non-flat is at least the pass's least slope (R12). -/
theorem minSlope_le_of_nonFlatSlope {cap : Cap} {sh : Shape} {minSlope p c x y : Nat} {slope : Int}
    (h : nonFlatSlope cap sh minSlope p c x y = some slope) : (minSlope : Int) ≤ slope := by
  simp only [nonFlatSlope] at h
  split at h
  case isTrue => cases h
  case isFalse =>
    split at h
    case isTrue => cases h
    case isFalse notBelow =>
      cases h
      exact Int.not_lt.mp notBelow

/-- The residual of a non-flat node is formed from its target, its measured value and its slope (R14). -/
theorem residualAt_of_nonFlatSlope {i : PassInput} {p c x y : Nat} {slope : Int}
    (h : nonFlatSlope i.cap i.shape i.args.minSlope p c x y = some slope) :
    residualAt i p c x y = some (rawResidual (targetAt i p c) (measured i.cap p c x y) slope) := by
  rw [residualAt, h, Option.map_some]

/-- Settles O30: the quotient of the magnitudes rounds half up, and the sign is carried over by exchanging target and
measured value. -/
theorem residualsRoundToNearest : Obligations.ResidualsRoundToNearest := by
  refine ⟨fun i p c x y slope h => ⟨residualAt_of_nonFlatSlope h, minSlope_le_of_nonFlatSlope h⟩, ?_⟩
  intro target m slope hs
  obtain ⟨nearest, tie_away, nonneg_of_pos, nonpos_of_neg, eq_zero⟩ := rawResidual_roundsAway target m hs
  exact ⟨nearest, tie_away, nonneg_of_pos, nonpos_of_neg, eq_zero⟩

/-! ## The step limit -/

theorem isOutside_iff (limit : Nat) (v : Int) : isOutside limit v = true ↔ (limit : Int) < |v| := by
  rw [lt_abs, isOutside, Bool.or_eq_true, decide_eq_true_iff, decide_eq_true_iff, lt_neg]

/-- A value beyond the limit becomes the limit with the value's own sign (R16). -/
theorem limitTo_of_lt_abs {limit : Nat} {v : Int} (h : (limit : Int) < |v|) : limitTo limit v = v.sign * limit := by
  unfold limitTo
  rcases lt_abs.mp h with above | below
  · rw [if_pos above, Int.sign_eq_one_of_pos (by omega), one_mul]
  · rw [if_neg (by omega), if_pos (by omega), Int.sign_eq_neg_one_of_neg (by omega), neg_one_mul]

/-- Stage 5 takes the raw residual of a non-flat node as it is (R15, R16). -/
theorem tileResidual_d_of_residualAt {i : PassInput} {t : TileNo} {k : Fin 32} {r : Int}
    (h : residualAt i (tilePlane t) (tileChannel t) (nodeX t k) (nodeY t k) = some r) :
    (tileResidual i t k).d = limitTo i.args.stepLimit r := by
  rw [tileResidual, nodeResidual, h]

/-- Settles O31: the bound on the residual is the numerator's, which rounding by a slope of at least 1 keeps. -/
theorem residualsAreFormedExactly : Obligations.ResidualsAreFormedExactly := by
  refine ⟨?_, fun i t k r h => tileResidual_d_of_residualAt h⟩
  intro target m slope htarget hm hs
  have rounded := rawResidual_roundsAway target m hs
  have difference : |(target : Int) - m| ≤ 65534 := abs_le.mpr (by omega)
  have numerator : |((target : Int) - m) * 64| ≤ 4194176 := abs_le.mpr (by omega)
  exact ⟨difference, numerator, (rounded.abs_le hs).trans numerator, rounded.nearest,
    fun limit => ⟨isOutside_iff limit _, limitTo_of_lt_abs⟩⟩

end Sys2Proof.Proofs.CorrectionArithmetic
end

section
/-! The stale scan of the panel copy directory (R131): what the search finds in each case, and what NEXT_STALE makes of
it. -/

namespace Sys2Proof.Proofs.StaleScan

open Sys2Proof Sys2Proof.Machine

/-! ## The search -/

/-- A search through the tiles in ascending order finds the lowest-numbered one that passes the test. -/
theorem find?_finRange_eq_some_iff {n : Nat} {p : Fin n → Bool} {t : Fin n} :
    (List.finRange n).find? p = some t ↔ p t = true ∧ ∀ u < t, p u = false := by
  rw [← Fin.find?_eq_find?_finRange, Fin.find?_eq_some_iff]

/-- The scan's first half ends at the lowest-numbered STALE tile at or after the pointer. -/
theorem findStale_of_ge {s : State} {t : TileNo} (stale : dirOf t s = .stale) (ge : s.pcd.scan ≤ t)
    (lowest : ∀ u : TileNo, s.pcd.scan ≤ u → u < t → dirOf u s ≠ .stale) : findStale s = some t := by
  refine Option.or_eq_some_iff.mpr (.inl (find?_finRange_eq_some_iff.mpr ⟨?_, fun u before => ?_⟩))
  · simpa [stale] using ge
  · simpa using fun after => lowest u after before

/-- With no STALE tile at or after the pointer the scan wraps, and ends at the lowest-numbered STALE tile. -/
theorem findStale_of_wrap {s : State} {t : TileNo} (stale : dirOf t s = .stale)
    (noneAfter : ∀ u : TileNo, s.pcd.scan ≤ u → dirOf u s ≠ .stale)
    (lowest : ∀ u : TileNo, u < t → dirOf u s ≠ .stale) : findStale s = some t := by
  refine Option.or_eq_some_iff.mpr
    (.inr ⟨List.find?_eq_none.mpr fun u _ => ?_, find?_finRange_eq_some_iff.mpr ⟨?_, fun u before => ?_⟩⟩)
  · simpa using noneAfter u
  · simpa using stale
  · simpa using lowest u before

/-- The scan finds nothing when no entry is STALE. -/
theorem findStale_eq_none {s : State} (h : ∀ t : TileNo, dirOf t s ≠ .stale) : findStale s = none := by
  simp [findStale, h]

/-- The search reads the directory and the pointer alone, so the inbox makes no difference to it. -/
@[simp] theorem findStale_withoutRequest (req : Request) (s : State) :
    findStale (withoutRequest req s) = findStale s := rfl

/-- The tile after 503 is 0, and the tile after any other is the next. -/
theorem tileAfter_val (t : TileNo) : (tileAfter t).val = if t.val = 503 then 0 else t.val + 1 := by
  have bound := t.isLt
  simp only [tileAfter]
  split <;> omega

/-! ## The request -/

/-- A NEXT_STALE of the panel without arguments gets the answer to what the scan finds. -/
theorem exec_nextStale {s : State} {req : Request} (waiting : waitingRequest .nextStale .panel s = some req)
    (body : req.body = []) :
    exec (.nextStale .panel) s = .next (answerStale req (findStale s) (withoutRequest req s)) := by
  have master : req.master = .panel := (waitingRequest_spec waiting).2.2
  have served : serve .nextStale .panel nextStale s = nextStale req (withoutRequest req s) := serve_some waiting
  calc exec (.nextStale .panel) s
      = .next (serve .nextStale .panel nextStale s) := rfl
    _ = .next (answerStale req (findStale s) (withoutRequest req s)) := by
      rw [served]
      simp [nextStale, master, noArguments, body]

/-- Settles O53: the tile that the statement describes is the one that the scan finds, before the pointer's wrap or after
it, and the answer follows from what is found. -/
theorem nextStaleScansTheDirectory : Obligations.NextStaleScansTheDirectory := by
  intro s req waiting body
  rw [exec_nextStale waiting body]
  constructor
  · intro t stale position
    have found : findStale s = some t := by
      rcases position with ⟨ge, lowest⟩ | ⟨_, noneAfter, lowest⟩
      · exact findStale_of_ge stale ge lowest
      · exact findStale_of_wrap stale noneAfter lowest
    refine ⟨tileAfter t, tileAfter_val t, ?_⟩
    rw [found]
    rfl
  · intro noStale
    rw [findStale_eq_none noStale]
    rfl

end Sys2Proof.Proofs.StaleScan
end

section
/-! The frame of every command and of every shared operation, part by part: `f_frame` gives the parts of the state that `f`
leaves, and the fields that it leaves of a part that it changes; `f_rest` gives the latter alone, where the former stand
above. -/

namespace Sys2Proof.Proofs.Frames

open Sys2Proof Sys2Proof.Machine

/-! ## Ports and records -/

@[simp] theorem setHeader_rest (h : Header) (s : State) :
    (setHeader h s).mfc.marker = s.mfc.marker ∧ (setHeader h s).mfc.spares = s.mfc.spares ∧
    (setHeader h s).mfc.seq = s.mfc.seq ∧ (setHeader h s).mfc.flash = s.mfc.flash ∧
    (setHeader h s).mfc.wear = s.mfc.wear ∧ (setHeader h s).mfc.reads = s.mfc.reads ∧
    (setHeader h s).mfc.programs = s.mfc.programs := by
  simp [setHeader]

/-! ## The tile cache -/

@[simp] theorem setEntry_rest (i : Fin 16) (w : Fin 8) (e : Option Entry) (s : State) :
    (setEntry i w e s).tlc.lock = s.tlc.lock ∧ (setEntry i w e s).tlc.queue = s.tlc.queue ∧
    (setEntry i w e s).tlc.fills = s.tlc.fills ∧ (setEntry i w e s).tlc.panel = s.tlc.panel ∧
    (setEntry i w e s).tlc.access = s.tlc.access ∧ (setEntry i w e s).tlc.job = s.tlc.job ∧
    (setEntry i w e s).tlc.jobWait = s.tlc.jobWait ∧ (setEntry i w e s).tlc.drains = s.tlc.drains := by
  simp [setEntry]

@[simp] theorem touch_rest (i : Fin 16) (w : Fin 8) (s : State) :
    (touch i w s).tlc.lock = s.tlc.lock ∧ (touch i w s).tlc.queue = s.tlc.queue ∧
    (touch i w s).tlc.fills = s.tlc.fills ∧ (touch i w s).tlc.panel = s.tlc.panel ∧
    (touch i w s).tlc.access = s.tlc.access ∧ (touch i w s).tlc.job = s.tlc.job ∧
    (touch i w s).tlc.jobWait = s.tlc.jobWait ∧ (touch i w s).tlc.drains = s.tlc.drains := by
  simp [touch]

@[simp] theorem requestFill_rest (t : TileNo) (s : State) :
    (requestFill t s).tlc.sets = s.tlc.sets ∧ (requestFill t s).tlc.lock = s.tlc.lock ∧
    (requestFill t s).tlc.queue = s.tlc.queue ∧ (requestFill t s).tlc.panel = s.tlc.panel ∧
    (requestFill t s).tlc.access = s.tlc.access ∧ (requestFill t s).tlc.job = s.tlc.job ∧
    (requestFill t s).tlc.jobWait = s.tlc.jobWait ∧ (requestFill t s).tlc.drains = s.tlc.drains ∧
    (requestFill t s).mfc.header = s.mfc.header ∧ (requestFill t s).mfc.marker = s.mfc.marker ∧
    (requestFill t s).mfc.spares = s.mfc.spares ∧ (requestFill t s).mfc.seq = s.mfc.seq ∧
    (requestFill t s).mfc.flash = s.mfc.flash ∧ (requestFill t s).mfc.wear = s.mfc.wear ∧
    (requestFill t s).mfc.programs = s.mfc.programs := by
  unfold requestFill
  (repeat' split) <;> simp_all

@[simp] theorem copyVictim_rest (i : Fin 16) (w : Fin 8) (s : State) :
    (copyVictim i w s).tlc.sets = s.tlc.sets ∧ (copyVictim i w s).tlc.lock = s.tlc.lock ∧
    (copyVictim i w s).tlc.fills = s.tlc.fills ∧ (copyVictim i w s).tlc.panel = s.tlc.panel ∧
    (copyVictim i w s).tlc.access = s.tlc.access ∧ (copyVictim i w s).tlc.job = s.tlc.job ∧
    (copyVictim i w s).tlc.jobWait = s.tlc.jobWait ∧ (copyVictim i w s).tlc.drains = s.tlc.drains := by
  unfold copyVictim
  (repeat' split) <;> simp_all

@[simp] theorem giveWay_rest (i : Fin 16) (w : Fin 8) (t : TileNo) (st : EntryState) (s : State) :
    (giveWay i w t st s).tlc.lock = s.tlc.lock ∧ (giveWay i w t st s).tlc.fills = s.tlc.fills ∧
    (giveWay i w t st s).tlc.panel = s.tlc.panel ∧ (giveWay i w t st s).tlc.access = s.tlc.access ∧
    (giveWay i w t st s).tlc.job = s.tlc.job ∧ (giveWay i w t st s).tlc.jobWait = s.tlc.jobWait ∧
    (giveWay i w t st s).tlc.drains = s.tlc.drains := by
  simp [giveWay]

@[simp] theorem loseTile_rest (t : TileNo) (w : Fin 8) (s : State) :
    (loseTile t w s).tlc.lock = s.tlc.lock ∧ (loseTile t w s).tlc.queue = s.tlc.queue ∧
    (loseTile t w s).tlc.fills = s.tlc.fills ∧ (loseTile t w s).tlc.panel = s.tlc.panel ∧
    (loseTile t w s).tlc.access = s.tlc.access ∧ (loseTile t w s).tlc.job = s.tlc.job ∧
    (loseTile t w s).tlc.jobWait = s.tlc.jobWait ∧ (loseTile t w s).tlc.drains = s.tlc.drains ∧
    (loseTile t w s).mfc.marker = s.mfc.marker ∧ (loseTile t w s).mfc.spares = s.mfc.spares ∧
    (loseTile t w s).mfc.seq = s.mfc.seq ∧ (loseTile t w s).mfc.flash = s.mfc.flash ∧
    (loseTile t w s).mfc.wear = s.mfc.wear ∧ (loseTile t w s).mfc.reads = s.mfc.reads ∧
    (loseTile t w s).mfc.programs = s.mfc.programs := by
  simp [loseTile]

@[simp] theorem repairTile_rest (t : TileNo) (w : Fin 8) (s : State) :
    (repairTile t w s).tlc.lock = s.tlc.lock ∧ (repairTile t w s).tlc.queue = s.tlc.queue ∧
    (repairTile t w s).tlc.panel = s.tlc.panel ∧ (repairTile t w s).tlc.access = s.tlc.access ∧
    (repairTile t w s).tlc.job = s.tlc.job ∧ (repairTile t w s).tlc.jobWait = s.tlc.jobWait ∧
    (repairTile t w s).tlc.drains = s.tlc.drains ∧ (repairTile t w s).mfc.header = s.mfc.header ∧
    (repairTile t w s).mfc.marker = s.mfc.marker ∧ (repairTile t w s).mfc.spares = s.mfc.spares ∧
    (repairTile t w s).mfc.seq = s.mfc.seq ∧ (repairTile t w s).mfc.flash = s.mfc.flash ∧
    (repairTile t w s).mfc.wear = s.mfc.wear ∧ (repairTile t w s).mfc.programs = s.mfc.programs := by
  simp [repairTile]

@[simp] theorem readEntry_rest (t : TileNo) (w : Fin 8) (s : State) :
    (readEntry t w s).1.tlc.lock = s.tlc.lock ∧ (readEntry t w s).1.tlc.queue = s.tlc.queue ∧
    (readEntry t w s).1.tlc.panel = s.tlc.panel ∧ (readEntry t w s).1.tlc.access = s.tlc.access ∧
    (readEntry t w s).1.tlc.job = s.tlc.job ∧ (readEntry t w s).1.tlc.jobWait = s.tlc.jobWait ∧
    (readEntry t w s).1.tlc.drains = s.tlc.drains ∧ (readEntry t w s).1.mfc.marker = s.mfc.marker ∧
    (readEntry t w s).1.mfc.spares = s.mfc.spares ∧ (readEntry t w s).1.mfc.seq = s.mfc.seq ∧
    (readEntry t w s).1.mfc.flash = s.mfc.flash ∧ (readEntry t w s).1.mfc.wear = s.mfc.wear ∧
    (readEntry t w s).1.mfc.programs = s.mfc.programs := by
  unfold readEntry
  (repeat' split) <;> simp_all

@[simp] theorem readTileAt_rest (t : TileNo) (s : State) :
    (readTileAt t s).1.tlc.lock = s.tlc.lock ∧ (readTileAt t s).1.tlc.panel = s.tlc.panel ∧
    (readTileAt t s).1.tlc.access = s.tlc.access ∧ (readTileAt t s).1.tlc.job = s.tlc.job ∧
    (readTileAt t s).1.tlc.jobWait = s.tlc.jobWait ∧ (readTileAt t s).1.tlc.drains = s.tlc.drains ∧
    (readTileAt t s).1.mfc.marker = s.mfc.marker ∧ (readTileAt t s).1.mfc.spares = s.mfc.spares ∧
    (readTileAt t s).1.mfc.seq = s.mfc.seq ∧ (readTileAt t s).1.mfc.flash = s.mfc.flash ∧
    (readTileAt t s).1.mfc.wear = s.mfc.wear ∧ (readTileAt t s).1.mfc.programs = s.mfc.programs := by
  unfold readTileAt
  (repeat' split) <;> simp_all

@[simp] theorem storeWhole_rest (t : TileNo) (w : Fin 8) (v : TileValues) (s : State) :
    (storeWhole t w v s).tlc.lock = s.tlc.lock ∧ (storeWhole t w v s).tlc.queue = s.tlc.queue ∧
    (storeWhole t w v s).tlc.fills = s.tlc.fills ∧ (storeWhole t w v s).tlc.panel = s.tlc.panel ∧
    (storeWhole t w v s).tlc.access = s.tlc.access ∧ (storeWhole t w v s).tlc.job = s.tlc.job ∧
    (storeWhole t w v s).tlc.jobWait = s.tlc.jobWait ∧ (storeWhole t w v s).tlc.drains = s.tlc.drains ∧
    (storeWhole t w v s).mfc.marker = s.mfc.marker ∧ (storeWhole t w v s).mfc.spares = s.mfc.spares ∧
    (storeWhole t w v s).mfc.seq = s.mfc.seq ∧ (storeWhole t w v s).mfc.flash = s.mfc.flash ∧
    (storeWhole t w v s).mfc.wear = s.mfc.wear ∧ (storeWhole t w v s).mfc.reads = s.mfc.reads ∧
    (storeWhole t w v s).mfc.programs = s.mfc.programs := by
  unfold storeWhole
  dsimp only
  (repeat' split) <;> simp_all

@[simp] theorem writeTileAt_rest (t : TileNo) (v : TileValues) (s : State) :
    (writeTileAt t v s).1.tlc.lock = s.tlc.lock ∧ (writeTileAt t v s).1.tlc.fills = s.tlc.fills ∧
    (writeTileAt t v s).1.tlc.panel = s.tlc.panel ∧ (writeTileAt t v s).1.tlc.access = s.tlc.access ∧
    (writeTileAt t v s).1.tlc.job = s.tlc.job ∧ (writeTileAt t v s).1.tlc.jobWait = s.tlc.jobWait ∧
    (writeTileAt t v s).1.tlc.drains = s.tlc.drains ∧ (writeTileAt t v s).1.mfc.marker = s.mfc.marker ∧
    (writeTileAt t v s).1.mfc.spares = s.mfc.spares ∧ (writeTileAt t v s).1.mfc.seq = s.mfc.seq ∧
    (writeTileAt t v s).1.mfc.flash = s.mfc.flash ∧ (writeTileAt t v s).1.mfc.wear = s.mfc.wear ∧
    (writeTileAt t v s).1.mfc.reads = s.mfc.reads ∧ (writeTileAt t v s).1.mfc.programs = s.mfc.programs := by
  unfold writeTileAt
  (repeat' split) <;> simp_all

@[simp] theorem wake_rest (on : TileNo → Bool) (f : OpPhase → OpPhase) (s : State) :
    (wake on f s).tlc.sets = s.tlc.sets ∧ (wake on f s).tlc.lock = s.tlc.lock ∧
    (wake on f s).tlc.queue = s.tlc.queue ∧ (wake on f s).tlc.fills = s.tlc.fills ∧
    (wake on f s).tlc.jobWait = s.tlc.jobWait ∧ (wake on f s).tlc.drains = s.tlc.drains := by
  unfold wake
  (repeat' split) <;> simp_all

@[simp] theorem wakeWays_rest (s : State) :
    (wakeWays s).tlc.sets = s.tlc.sets ∧ (wakeWays s).tlc.lock = s.tlc.lock ∧ (wakeWays s).tlc.queue = s.tlc.queue ∧
    (wakeWays s).tlc.fills = s.tlc.fills ∧ (wakeWays s).tlc.jobWait = s.tlc.jobWait ∧
    (wakeWays s).tlc.drains = s.tlc.drains := by
  simp [wakeWays]

@[simp] theorem wakeQueue_rest (s : State) :
    (wakeQueue s).tlc.sets = s.tlc.sets ∧ (wakeQueue s).tlc.lock = s.tlc.lock ∧
    (wakeQueue s).tlc.queue = s.tlc.queue ∧ (wakeQueue s).tlc.fills = s.tlc.fills ∧
    (wakeQueue s).tlc.jobWait = s.tlc.jobWait ∧ (wakeQueue s).tlc.drains = s.tlc.drains := by
  simp [wakeQueue]

@[simp] theorem wakeInstall_rest (t : TileNo) (s : State) :
    (wakeInstall t s).tlc.sets = s.tlc.sets ∧ (wakeInstall t s).tlc.lock = s.tlc.lock ∧
    (wakeInstall t s).tlc.queue = s.tlc.queue ∧ (wakeInstall t s).tlc.fills = s.tlc.fills ∧
    (wakeInstall t s).tlc.jobWait = s.tlc.jobWait ∧ (wakeInstall t s).tlc.drains = s.tlc.drains := by
  simp [wakeInstall]

@[simp] theorem grantOther_rest (s : State) :
    (grantOther s).tlc.sets = s.tlc.sets ∧ (grantOther s).tlc.lock = s.tlc.lock ∧
    (grantOther s).tlc.queue = s.tlc.queue ∧ (grantOther s).tlc.fills = s.tlc.fills ∧
    (grantOther s).tlc.panel = s.tlc.panel ∧ (grantOther s).tlc.access = s.tlc.access ∧
    (grantOther s).tlc.job = s.tlc.job ∧ (grantOther s).tlc.drains = s.tlc.drains := by
  unfold grantOther
  (repeat' split) <;> simp_all

@[simp] theorem grantJob_rest (s : State) :
    (grantJob s).tlc.sets = s.tlc.sets ∧ (grantJob s).tlc.lock = s.tlc.lock ∧ (grantJob s).tlc.queue = s.tlc.queue ∧
    (grantJob s).tlc.fills = s.tlc.fills ∧ (grantJob s).tlc.panel = s.tlc.panel ∧
    (grantJob s).tlc.access = s.tlc.access ∧ (grantJob s).tlc.job = s.tlc.job ∧
    (grantJob s).tlc.drains = s.tlc.drains := by
  simp [grantJob]

@[simp] theorem setJobOp_rest (p : Option OpPhase) (s : State) :
    (setJobOp p s).tlc.sets = s.tlc.sets ∧ (setJobOp p s).tlc.lock = s.tlc.lock ∧
    (setJobOp p s).tlc.queue = s.tlc.queue ∧ (setJobOp p s).tlc.fills = s.tlc.fills ∧
    (setJobOp p s).tlc.panel = s.tlc.panel ∧ (setJobOp p s).tlc.access = s.tlc.access ∧
    (setJobOp p s).tlc.drains = s.tlc.drains := by
  simp [setJobOp]

@[simp] theorem setAccessPhase_rest (o : AccessOp) (p : OpPhase) (s : State) :
    (setAccessPhase o p s).tlc.sets = s.tlc.sets ∧ (setAccessPhase o p s).tlc.lock = s.tlc.lock ∧
    (setAccessPhase o p s).tlc.queue = s.tlc.queue ∧ (setAccessPhase o p s).tlc.fills = s.tlc.fills ∧
    (setAccessPhase o p s).tlc.panel = s.tlc.panel ∧ (setAccessPhase o p s).tlc.job = s.tlc.job ∧
    (setAccessPhase o p s).tlc.jobWait = s.tlc.jobWait ∧ (setAccessPhase o p s).tlc.drains = s.tlc.drains := by
  simp [setAccessPhase]

@[simp] theorem dropAccess_rest (o : AccessOp) (s : State) :
    (dropAccess o s).tlc.sets = s.tlc.sets ∧ (dropAccess o s).tlc.lock = s.tlc.lock ∧
    (dropAccess o s).tlc.queue = s.tlc.queue ∧ (dropAccess o s).tlc.fills = s.tlc.fills ∧
    (dropAccess o s).tlc.panel = s.tlc.panel ∧ (dropAccess o s).tlc.job = s.tlc.job ∧
    (dropAccess o s).tlc.jobWait = s.tlc.jobWait ∧ (dropAccess o s).tlc.drains = s.tlc.drains := by
  simp [dropAccess]

@[simp] theorem presentAccess_rest (req : Request) (t : TileNo) (k : AccessKind) (s : State) :
    (presentAccess req t k s).tlc.sets = s.tlc.sets ∧ (presentAccess req t k s).tlc.lock = s.tlc.lock ∧
    (presentAccess req t k s).tlc.queue = s.tlc.queue ∧ (presentAccess req t k s).tlc.fills = s.tlc.fills ∧
    (presentAccess req t k s).tlc.panel = s.tlc.panel ∧ (presentAccess req t k s).tlc.job = s.tlc.job ∧
    (presentAccess req t k s).tlc.jobWait = s.tlc.jobWait ∧ (presentAccess req t k s).tlc.drains = s.tlc.drains := by
  simp [presentAccess]

/-! ## The job engine and the flash -/

@[simp] theorem setBox_rest (b : Fin 16) (x : Option Box) (s : State) :
    (setBox b x s).jobs.seq = s.jobs.seq ∧ (setBox b x s).jobs.running = s.jobs.running := by
  simp [setBox]

@[simp] theorem setRunning_rest (r : Option Running) (s : State) :
    (setRunning r s).jobs.boxes = s.jobs.boxes ∧ (setRunning r s).jobs.seq = s.jobs.seq := by
  simp [setRunning]

@[simp] theorem endBox_rest (b : Fin 16) (st : BoxState) (r : JobResult) (s : State) :
    (endBox b st r s).jobs.seq = s.jobs.seq ∧ (endBox b st r s).jobs.running = s.jobs.running := by
  unfold endBox
  (repeat' split) <;> simp_all

@[simp] theorem endRunning_rest (b : Fin 16) (st : BoxState) (r : JobResult) (s : State) :
    (endRunning b st r s).jobs.seq = s.jobs.seq ∧ (endRunning b st r s).tlc.sets = s.tlc.sets ∧
    (endRunning b st r s).tlc.lock = s.tlc.lock ∧ (endRunning b st r s).tlc.queue = s.tlc.queue ∧
    (endRunning b st r s).tlc.fills = s.tlc.fills ∧ (endRunning b st r s).tlc.panel = s.tlc.panel ∧
    (endRunning b st r s).tlc.access = s.tlc.access ∧ (endRunning b st r s).tlc.drains = s.tlc.drains := by
  simp [endRunning]

@[simp] theorem endPassEarly_rest (b : Fin 16) (st : BoxState) (tiles : Nat) (s : State) :
    (endPassEarly b st tiles s).jobs.seq = s.jobs.seq ∧ (endPassEarly b st tiles s).tlc.sets = s.tlc.sets ∧
    (endPassEarly b st tiles s).tlc.lock = s.tlc.lock ∧ (endPassEarly b st tiles s).tlc.queue = s.tlc.queue ∧
    (endPassEarly b st tiles s).tlc.fills = s.tlc.fills ∧ (endPassEarly b st tiles s).tlc.panel = s.tlc.panel ∧
    (endPassEarly b st tiles s).tlc.access = s.tlc.access ∧
    (endPassEarly b st tiles s).tlc.drains = s.tlc.drains := by
  simp [endPassEarly]

@[simp] theorem endClearEarly_rest (b : Fin 16) (st : BoxState) (tiles : Nat) (s : State) :
    (endClearEarly b st tiles s).jobs.seq = s.jobs.seq ∧ (endClearEarly b st tiles s).tlc.sets = s.tlc.sets ∧
    (endClearEarly b st tiles s).tlc.lock = s.tlc.lock ∧ (endClearEarly b st tiles s).tlc.queue = s.tlc.queue ∧
    (endClearEarly b st tiles s).tlc.fills = s.tlc.fills ∧ (endClearEarly b st tiles s).tlc.panel = s.tlc.panel ∧
    (endClearEarly b st tiles s).tlc.access = s.tlc.access ∧
    (endClearEarly b st tiles s).tlc.drains = s.tlc.drains := by
  simp [endClearEarly]

@[simp] theorem failCommit_rest (b : Fin 16) (w : CommitWork) (reason : Reason) (converged : Option Bool) (s : State) :
    (failCommit b w reason converged s).jobs.seq = s.jobs.seq ∧
    (failCommit b w reason converged s).tlc.sets = s.tlc.sets ∧
    (failCommit b w reason converged s).tlc.lock = s.tlc.lock ∧
    (failCommit b w reason converged s).tlc.queue = s.tlc.queue ∧
    (failCommit b w reason converged s).tlc.fills = s.tlc.fills ∧
    (failCommit b w reason converged s).tlc.panel = s.tlc.panel ∧
    (failCommit b w reason converged s).tlc.access = s.tlc.access ∧
    (failCommit b w reason converged s).tlc.drains = s.tlc.drains ∧
    (failCommit b w reason converged s).mfc.marker = s.mfc.marker ∧
    (failCommit b w reason converged s).mfc.spares = s.mfc.spares ∧
    (failCommit b w reason converged s).mfc.seq = s.mfc.seq ∧
    (failCommit b w reason converged s).mfc.flash = s.mfc.flash ∧
    (failCommit b w reason converged s).mfc.wear = s.mfc.wear ∧
    (failCommit b w reason converged s).mfc.reads = s.mfc.reads ∧
    (failCommit b w reason converged s).mfc.programs = s.mfc.programs := by
  simp [failCommit]

@[simp] theorem setCommit_rest (b : Fin 16) (w : CommitWork) (s : State) :
    (setCommit b w s).jobs.boxes = s.jobs.boxes ∧ (setCommit b w s).jobs.seq = s.jobs.seq := by
  simp [setCommit]

@[simp] theorem countForCommit_rest (programmed spares : Nat) (s : State) :
    (countForCommit programmed spares s).jobs.boxes = s.jobs.boxes ∧
    (countForCommit programmed spares s).jobs.seq = s.jobs.seq := by
  unfold countForCommit
  (repeat' split) <;> simp_all

@[simp] theorem dueDrains_rest (st : Status) (s : State) :
    (dueDrains st s).tlc.sets = s.tlc.sets ∧ (dueDrains st s).tlc.lock = s.tlc.lock ∧
    (dueDrains st s).tlc.queue = s.tlc.queue ∧ (dueDrains st s).tlc.fills = s.tlc.fills ∧
    (dueDrains st s).tlc.panel = s.tlc.panel ∧ (dueDrains st s).tlc.access = s.tlc.access ∧
    (dueDrains st s).tlc.job = s.tlc.job ∧ (dueDrains st s).tlc.jobWait = s.tlc.jobWait := by
  simp [dueDrains]

@[simp] theorem commitMoment_rest (s : State) :
    (commitMoment s).jobs.boxes = s.jobs.boxes ∧ (commitMoment s).jobs.seq = s.jobs.seq := by
  unfold commitMoment
  (repeat' split) <;> simp_all

@[simp] theorem testDrains_rest (s : State) :
    (testDrains s).jobs.boxes = s.jobs.boxes ∧ (testDrains s).jobs.seq = s.jobs.seq ∧
    (testDrains s).tlc.sets = s.tlc.sets ∧ (testDrains s).tlc.lock = s.tlc.lock ∧
    (testDrains s).tlc.queue = s.tlc.queue ∧ (testDrains s).tlc.fills = s.tlc.fills ∧
    (testDrains s).tlc.panel = s.tlc.panel ∧ (testDrains s).tlc.access = s.tlc.access ∧
    (testDrains s).tlc.job = s.tlc.job ∧ (testDrains s).tlc.jobWait = s.tlc.jobWait := by
  unfold testDrains
  (repeat' split) <;> simp_all

@[simp] theorem setFlash_rest (f : FlashState) (s : State) :
    (setFlash f s).mfc.header = s.mfc.header ∧ (setFlash f s).mfc.marker = s.mfc.marker ∧
    (setFlash f s).mfc.spares = s.mfc.spares ∧ (setFlash f s).mfc.seq = s.mfc.seq ∧
    (setFlash f s).mfc.wear = s.mfc.wear ∧ (setFlash f s).mfc.reads = s.mfc.reads ∧
    (setFlash f s).mfc.programs = s.mfc.programs := by
  simp [setFlash]

@[simp] theorem startProgram_rest (j : FlashJob) (s : State) :
    (startProgram j s).mfc.header = s.mfc.header ∧ (startProgram j s).mfc.marker = s.mfc.marker ∧
    (startProgram j s).mfc.spares = s.mfc.spares ∧ (startProgram j s).mfc.wear = s.mfc.wear ∧
    (startProgram j s).mfc.reads = s.mfc.reads ∧ (startProgram j s).mfc.programs = s.mfc.programs := by
  simp [startProgram]

@[simp] theorem programDone_rest (s : State) :
    (programDone s).jobs.boxes = s.jobs.boxes ∧ (programDone s).jobs.seq = s.jobs.seq ∧
    (programDone s).tlc.sets = s.tlc.sets ∧ (programDone s).tlc.lock = s.tlc.lock ∧
    (programDone s).tlc.queue = s.tlc.queue ∧ (programDone s).tlc.fills = s.tlc.fills ∧
    (programDone s).tlc.panel = s.tlc.panel ∧ (programDone s).tlc.access = s.tlc.access ∧
    (programDone s).tlc.job = s.tlc.job ∧ (programDone s).tlc.jobWait = s.tlc.jobWait ∧
    (programDone s).mfc.header = s.mfc.header ∧ (programDone s).mfc.marker = s.mfc.marker ∧
    (programDone s).mfc.spares = s.mfc.spares ∧ (programDone s).mfc.seq = s.mfc.seq ∧
    (programDone s).mfc.wear = s.mfc.wear ∧ (programDone s).mfc.reads = s.mfc.reads ∧
    (programDone s).mfc.programs = s.mfc.programs := by
  simp [programDone]

@[simp] theorem presentProgram_rest (p : RecordProgram) (s : State) :
    (presentProgram p s).mfc.header = s.mfc.header ∧ (presentProgram p s).mfc.marker = s.mfc.marker ∧
    (presentProgram p s).mfc.spares = s.mfc.spares ∧ (presentProgram p s).mfc.seq = s.mfc.seq ∧
    (presentProgram p s).mfc.flash = s.mfc.flash ∧ (presentProgram p s).mfc.wear = s.mfc.wear ∧
    (presentProgram p s).mfc.reads = s.mfc.reads := by
  simp [presentProgram]

@[simp] theorem setHeaderHome_rest (h : Home HeaderRecord) (s : State) :
    (setHeaderHome h s).homes.tile = s.homes.tile ∧ (setHeaderHome h s).homes.spare = s.homes.spare ∧
    (setHeaderHome h s).homes.config = s.homes.config ∧ (setHeaderHome h s).homes.key = s.homes.key ∧
    (setHeaderHome h s).homes.region = s.homes.region ∧ (setHeaderHome h s).homes.label = s.homes.label ∧
    (setHeaderHome h s).homes.stage = s.homes.stage := by
  simp [setHeaderHome]

@[simp] theorem setTileHome_rest (t : TileNo) (where_ : TileHome) (h : Home TileRecord) (s : State) :
    (setTileHome t where_ h s).homes.header = s.homes.header ∧
    (setTileHome t where_ h s).homes.config = s.homes.config ∧ (setTileHome t where_ h s).homes.key = s.homes.key ∧
    (setTileHome t where_ h s).homes.region = s.homes.region ∧
    (setTileHome t where_ h s).homes.label = s.homes.label ∧
    (setTileHome t where_ h s).homes.stage = s.homes.stage := by
  unfold setTileHome
  (repeat' split) <;> simp_all

@[simp] theorem setSpare_rest (k : Fin 24) (x : SpareState) (s : State) :
    (setSpare k x s).mfc.header = s.mfc.header ∧ (setSpare k x s).mfc.marker = s.mfc.marker ∧
    (setSpare k x s).mfc.seq = s.mfc.seq ∧ (setSpare k x s).mfc.flash = s.mfc.flash ∧
    (setSpare k x s).mfc.wear = s.mfc.wear ∧ (setSpare k x s).mfc.reads = s.mfc.reads ∧
    (setSpare k x s).mfc.programs = s.mfc.programs := by
  simp [setSpare]

@[simp] theorem withdrawHeader_rest (s : State) :
    (withdrawHeader s).mfc.header = s.mfc.header ∧ (withdrawHeader s).mfc.marker = s.mfc.marker ∧
    (withdrawHeader s).mfc.spares = s.mfc.spares ∧ (withdrawHeader s).mfc.seq = s.mfc.seq ∧
    (withdrawHeader s).mfc.flash = s.mfc.flash ∧ (withdrawHeader s).mfc.wear = s.mfc.wear ∧
    (withdrawHeader s).mfc.reads = s.mfc.reads := by
  simp [withdrawHeader]

@[simp] theorem wornCommit_rest (s : State) :
    (wornCommit s).jobs.seq = s.jobs.seq ∧ (wornCommit s).tlc.sets = s.tlc.sets ∧
    (wornCommit s).tlc.lock = s.tlc.lock ∧ (wornCommit s).tlc.queue = s.tlc.queue ∧
    (wornCommit s).tlc.fills = s.tlc.fills ∧ (wornCommit s).tlc.panel = s.tlc.panel ∧
    (wornCommit s).tlc.access = s.tlc.access ∧ (wornCommit s).tlc.drains = s.tlc.drains ∧
    (wornCommit s).mfc.marker = s.mfc.marker ∧ (wornCommit s).mfc.spares = s.mfc.spares ∧
    (wornCommit s).mfc.seq = s.mfc.seq ∧ (wornCommit s).mfc.flash = s.mfc.flash ∧
    (wornCommit s).mfc.wear = s.mfc.wear ∧ (wornCommit s).mfc.reads = s.mfc.reads := by
  unfold wornCommit
  (repeat' split) <;> simp_all

@[simp] theorem enterWorn_rest (s : State) :
    (enterWorn s).jobs.seq = s.jobs.seq ∧ (enterWorn s).tlc.sets = s.tlc.sets ∧ (enterWorn s).tlc.lock = s.tlc.lock ∧
    (enterWorn s).tlc.queue = s.tlc.queue ∧ (enterWorn s).tlc.fills = s.tlc.fills ∧
    (enterWorn s).mfc.marker = s.mfc.marker ∧ (enterWorn s).mfc.spares = s.mfc.spares ∧
    (enterWorn s).mfc.seq = s.mfc.seq ∧ (enterWorn s).mfc.reads = s.mfc.reads := by
  simp [enterWorn]

/-! ## Key slots -/

@[simp] theorem setSlot_rest (k : Fin 12) (x : KeySlot) (s : State) :
    (setSlot k x s).srb.region = s.srb.region ∧ (setSlot k x s).srb.label = s.srb.label ∧
    (setSlot k x s).srb.reserve = s.srb.reserve ∧ (setSlot k x s).srb.stage = s.srb.stage := by
  simp [setSlot]

@[simp] theorem setKeyHome_rest (k : Fin 12) (h : Home KeyRecord) (s : State) :
    (setKeyHome k h s).homes.tile = s.homes.tile ∧ (setKeyHome k h s).homes.spare = s.homes.spare ∧
    (setKeyHome k h s).homes.header = s.homes.header ∧ (setKeyHome k h s).homes.config = s.homes.config ∧
    (setKeyHome k h s).homes.region = s.homes.region ∧ (setKeyHome k h s).homes.label = s.homes.label ∧
    (setKeyHome k h s).homes.stage = s.homes.stage := by
  simp [setKeyHome]

@[simp] theorem loadSlot_frame (req : Request) (k : Fin 12) (cls : KeyClass) (material : List Byte) (st : Station) (s : State) :
    (loadSlot req k cls material st s).boot = s.boot ∧ (loadSlot req k cls material st s).cap = s.cap ∧
    (loadSlot req k cls material st s).jobs = s.jobs ∧ (loadSlot req k cls material st s).tlc = s.tlc ∧
    (loadSlot req k cls material st s).mfc = s.mfc ∧ (loadSlot req k cls material st s).homes = s.homes ∧
    (loadSlot req k cls material st s).pcd = s.pcd ∧ (loadSlot req k cls material st s).config = s.config ∧
    (loadSlot req k cls material st s).inbox = s.inbox ∧ (loadSlot req k cls material st s).book = s.book ∧
    (loadSlot req k cls material st s).pending = s.pending ∧
    (loadSlot req k cls material st s).srb.region = s.srb.region ∧
    (loadSlot req k cls material st s).srb.label = s.srb.label ∧
    (loadSlot req k cls material st s).srb.reserve = s.srb.reserve ∧
    (loadSlot req k cls material st s).srb.stage = s.srb.stage := by
  simp [loadSlot]

@[simp] theorem loadKey_frame (req : Request) (s : State) :
    (loadKey req s).boot = s.boot ∧ (loadKey req s).cap = s.cap ∧ (loadKey req s).jobs = s.jobs ∧
    (loadKey req s).tlc = s.tlc ∧ (loadKey req s).mfc = s.mfc ∧ (loadKey req s).homes = s.homes ∧
    (loadKey req s).pcd = s.pcd ∧ (loadKey req s).config = s.config ∧ (loadKey req s).inbox = s.inbox ∧
    (loadKey req s).book = s.book ∧ (loadKey req s).pending = s.pending ∧ (loadKey req s).srb.region = s.srb.region ∧
    (loadKey req s).srb.label = s.srb.label ∧ (loadKey req s).srb.reserve = s.srb.reserve ∧
    (loadKey req s).srb.stage = s.srb.stage := by
  unfold loadKey
  (repeat' split) <;> simp_all

@[simp] theorem fixKey_frame (req : Request) (s : State) :
    (fixKey req s).boot = s.boot ∧ (fixKey req s).cap = s.cap ∧ (fixKey req s).jobs = s.jobs ∧
    (fixKey req s).tlc = s.tlc ∧ (fixKey req s).homes = s.homes ∧ (fixKey req s).pcd = s.pcd ∧
    (fixKey req s).config = s.config ∧ (fixKey req s).inbox = s.inbox ∧ (fixKey req s).book = s.book ∧
    (fixKey req s).pending = s.pending ∧ (fixKey req s).mfc.header = s.mfc.header ∧
    (fixKey req s).mfc.marker = s.mfc.marker ∧ (fixKey req s).mfc.spares = s.mfc.spares ∧
    (fixKey req s).mfc.seq = s.mfc.seq ∧ (fixKey req s).mfc.flash = s.mfc.flash ∧
    (fixKey req s).mfc.wear = s.mfc.wear ∧ (fixKey req s).mfc.reads = s.mfc.reads ∧
    (fixKey req s).srb.region = s.srb.region ∧ (fixKey req s).srb.label = s.srb.label ∧
    (fixKey req s).srb.reserve = s.srb.reserve ∧ (fixKey req s).srb.stage = s.srb.stage := by
  unfold fixKey
  (repeat' split) <;> simp_all

@[simp] theorem fixVerified_frame (req : Request) (k : Fin 12) (key : Key) (seq : BitVec 32) (s : State) :
    (fixVerified req k key seq s).boot = s.boot ∧ (fixVerified req k key seq s).cap = s.cap ∧
    (fixVerified req k key seq s).pcd = s.pcd ∧ (fixVerified req k key seq s).config = s.config ∧
    (fixVerified req k key seq s).inbox = s.inbox ∧ (fixVerified req k key seq s).book = s.book ∧
    (fixVerified req k key seq s).pending = s.pending ∧ (fixVerified req k key seq s).jobs.boxes = s.jobs.boxes ∧
    (fixVerified req k key seq s).jobs.seq = s.jobs.seq ∧ (fixVerified req k key seq s).tlc.sets = s.tlc.sets ∧
    (fixVerified req k key seq s).tlc.lock = s.tlc.lock ∧ (fixVerified req k key seq s).tlc.queue = s.tlc.queue ∧
    (fixVerified req k key seq s).tlc.fills = s.tlc.fills ∧ (fixVerified req k key seq s).tlc.panel = s.tlc.panel ∧
    (fixVerified req k key seq s).tlc.access = s.tlc.access ∧ (fixVerified req k key seq s).tlc.job = s.tlc.job ∧
    (fixVerified req k key seq s).tlc.jobWait = s.tlc.jobWait ∧
    (fixVerified req k key seq s).mfc.header = s.mfc.header ∧
    (fixVerified req k key seq s).mfc.marker = s.mfc.marker ∧
    (fixVerified req k key seq s).mfc.spares = s.mfc.spares ∧ (fixVerified req k key seq s).mfc.seq = s.mfc.seq ∧
    (fixVerified req k key seq s).mfc.wear = s.mfc.wear ∧ (fixVerified req k key seq s).mfc.reads = s.mfc.reads ∧
    (fixVerified req k key seq s).mfc.programs = s.mfc.programs ∧
    (fixVerified req k key seq s).homes.tile = s.homes.tile ∧
    (fixVerified req k key seq s).homes.spare = s.homes.spare ∧
    (fixVerified req k key seq s).homes.header = s.homes.header ∧
    (fixVerified req k key seq s).homes.config = s.homes.config ∧
    (fixVerified req k key seq s).homes.region = s.homes.region ∧
    (fixVerified req k key seq s).homes.label = s.homes.label ∧
    (fixVerified req k key seq s).homes.stage = s.homes.stage ∧
    (fixVerified req k key seq s).srb.region = s.srb.region ∧ (fixVerified req k key seq s).srb.label = s.srb.label ∧
    (fixVerified req k key seq s).srb.reserve = s.srb.reserve ∧
    (fixVerified req k key seq s).srb.stage = s.srb.stage := by
  simp [fixVerified]

@[simp] theorem fixFailed_frame (req : Request) (k : Fin 12) (s : State) :
    (fixFailed req k s).boot = s.boot ∧ (fixFailed req k s).cap = s.cap ∧ (fixFailed req k s).pcd = s.pcd ∧
    (fixFailed req k s).config = s.config ∧ (fixFailed req k s).inbox = s.inbox ∧ (fixFailed req k s).book = s.book ∧
    (fixFailed req k s).pending = s.pending ∧ (fixFailed req k s).jobs.boxes = s.jobs.boxes ∧
    (fixFailed req k s).jobs.seq = s.jobs.seq ∧ (fixFailed req k s).tlc.sets = s.tlc.sets ∧
    (fixFailed req k s).tlc.lock = s.tlc.lock ∧ (fixFailed req k s).tlc.queue = s.tlc.queue ∧
    (fixFailed req k s).tlc.fills = s.tlc.fills ∧ (fixFailed req k s).tlc.panel = s.tlc.panel ∧
    (fixFailed req k s).tlc.access = s.tlc.access ∧ (fixFailed req k s).tlc.job = s.tlc.job ∧
    (fixFailed req k s).tlc.jobWait = s.tlc.jobWait ∧ (fixFailed req k s).mfc.header = s.mfc.header ∧
    (fixFailed req k s).mfc.marker = s.mfc.marker ∧ (fixFailed req k s).mfc.spares = s.mfc.spares ∧
    (fixFailed req k s).mfc.seq = s.mfc.seq ∧ (fixFailed req k s).mfc.wear = s.mfc.wear ∧
    (fixFailed req k s).mfc.reads = s.mfc.reads ∧ (fixFailed req k s).mfc.programs = s.mfc.programs ∧
    (fixFailed req k s).homes.tile = s.homes.tile ∧ (fixFailed req k s).homes.spare = s.homes.spare ∧
    (fixFailed req k s).homes.header = s.homes.header ∧ (fixFailed req k s).homes.config = s.homes.config ∧
    (fixFailed req k s).homes.region = s.homes.region ∧ (fixFailed req k s).homes.label = s.homes.label ∧
    (fixFailed req k s).homes.stage = s.homes.stage ∧ (fixFailed req k s).srb.region = s.srb.region ∧
    (fixFailed req k s).srb.label = s.srb.label ∧ (fixFailed req k s).srb.reserve = s.srb.reserve ∧
    (fixFailed req k s).srb.stage = s.srb.stage := by
  simp [fixFailed]

@[simp] theorem keyFixComplete_frame (verified : Bool) (s : State) :
    (keyFixComplete verified s).boot = s.boot ∧ (keyFixComplete verified s).cap = s.cap ∧
    (keyFixComplete verified s).pcd = s.pcd ∧ (keyFixComplete verified s).config = s.config ∧
    (keyFixComplete verified s).inbox = s.inbox ∧ (keyFixComplete verified s).book = s.book ∧
    (keyFixComplete verified s).pending = s.pending ∧ (keyFixComplete verified s).jobs.boxes = s.jobs.boxes ∧
    (keyFixComplete verified s).jobs.seq = s.jobs.seq ∧ (keyFixComplete verified s).tlc.sets = s.tlc.sets ∧
    (keyFixComplete verified s).tlc.lock = s.tlc.lock ∧ (keyFixComplete verified s).tlc.queue = s.tlc.queue ∧
    (keyFixComplete verified s).tlc.fills = s.tlc.fills ∧ (keyFixComplete verified s).tlc.panel = s.tlc.panel ∧
    (keyFixComplete verified s).tlc.access = s.tlc.access ∧ (keyFixComplete verified s).tlc.job = s.tlc.job ∧
    (keyFixComplete verified s).tlc.jobWait = s.tlc.jobWait ∧ (keyFixComplete verified s).mfc.header = s.mfc.header ∧
    (keyFixComplete verified s).mfc.marker = s.mfc.marker ∧ (keyFixComplete verified s).mfc.spares = s.mfc.spares ∧
    (keyFixComplete verified s).mfc.seq = s.mfc.seq ∧ (keyFixComplete verified s).mfc.wear = s.mfc.wear ∧
    (keyFixComplete verified s).mfc.reads = s.mfc.reads ∧ (keyFixComplete verified s).mfc.programs = s.mfc.programs ∧
    (keyFixComplete verified s).homes.tile = s.homes.tile ∧ (keyFixComplete verified s).homes.spare = s.homes.spare ∧
    (keyFixComplete verified s).homes.header = s.homes.header ∧
    (keyFixComplete verified s).homes.config = s.homes.config ∧
    (keyFixComplete verified s).homes.region = s.homes.region ∧
    (keyFixComplete verified s).homes.label = s.homes.label ∧
    (keyFixComplete verified s).homes.stage = s.homes.stage ∧ (keyFixComplete verified s).srb.region = s.srb.region ∧
    (keyFixComplete verified s).srb.label = s.srb.label ∧ (keyFixComplete verified s).srb.reserve = s.srb.reserve ∧
    (keyFixComplete verified s).srb.stage = s.srb.stage := by
  unfold keyFixComplete
  (repeat' split) <;> simp_all

@[simp] theorem eraseKey_frame (req : Request) (s : State) :
    (eraseKey req s).boot = s.boot ∧ (eraseKey req s).cap = s.cap ∧ (eraseKey req s).jobs = s.jobs ∧
    (eraseKey req s).tlc = s.tlc ∧ (eraseKey req s).homes = s.homes ∧ (eraseKey req s).pcd = s.pcd ∧
    (eraseKey req s).config = s.config ∧ (eraseKey req s).inbox = s.inbox ∧ (eraseKey req s).book = s.book ∧
    (eraseKey req s).pending = s.pending ∧ (eraseKey req s).mfc.header = s.mfc.header ∧
    (eraseKey req s).mfc.marker = s.mfc.marker ∧ (eraseKey req s).mfc.spares = s.mfc.spares ∧
    (eraseKey req s).mfc.seq = s.mfc.seq ∧ (eraseKey req s).mfc.flash = s.mfc.flash ∧
    (eraseKey req s).mfc.wear = s.mfc.wear ∧ (eraseKey req s).mfc.reads = s.mfc.reads ∧
    (eraseKey req s).srb.region = s.srb.region ∧ (eraseKey req s).srb.label = s.srb.label ∧
    (eraseKey req s).srb.reserve = s.srb.reserve ∧ (eraseKey req s).srb.stage = s.srb.stage := by
  unfold eraseKey
  (repeat' split) <;> simp_all

@[simp] theorem eraseDone_frame (req : Request) (k : Fin 12) (verified : Bool) (seq : BitVec 32) (s : State) :
    (eraseDone req k verified seq s).boot = s.boot ∧ (eraseDone req k verified seq s).cap = s.cap ∧
    (eraseDone req k verified seq s).pcd = s.pcd ∧ (eraseDone req k verified seq s).config = s.config ∧
    (eraseDone req k verified seq s).inbox = s.inbox ∧ (eraseDone req k verified seq s).book = s.book ∧
    (eraseDone req k verified seq s).pending = s.pending ∧
    (eraseDone req k verified seq s).jobs.boxes = s.jobs.boxes ∧
    (eraseDone req k verified seq s).jobs.seq = s.jobs.seq ∧ (eraseDone req k verified seq s).tlc.sets = s.tlc.sets ∧
    (eraseDone req k verified seq s).tlc.lock = s.tlc.lock ∧
    (eraseDone req k verified seq s).tlc.queue = s.tlc.queue ∧
    (eraseDone req k verified seq s).tlc.fills = s.tlc.fills ∧
    (eraseDone req k verified seq s).tlc.panel = s.tlc.panel ∧
    (eraseDone req k verified seq s).tlc.access = s.tlc.access ∧
    (eraseDone req k verified seq s).tlc.job = s.tlc.job ∧
    (eraseDone req k verified seq s).tlc.jobWait = s.tlc.jobWait ∧
    (eraseDone req k verified seq s).mfc.header = s.mfc.header ∧
    (eraseDone req k verified seq s).mfc.marker = s.mfc.marker ∧
    (eraseDone req k verified seq s).mfc.spares = s.mfc.spares ∧
    (eraseDone req k verified seq s).mfc.seq = s.mfc.seq ∧ (eraseDone req k verified seq s).mfc.wear = s.mfc.wear ∧
    (eraseDone req k verified seq s).mfc.reads = s.mfc.reads ∧
    (eraseDone req k verified seq s).mfc.programs = s.mfc.programs ∧
    (eraseDone req k verified seq s).homes.tile = s.homes.tile ∧
    (eraseDone req k verified seq s).homes.spare = s.homes.spare ∧
    (eraseDone req k verified seq s).homes.header = s.homes.header ∧
    (eraseDone req k verified seq s).homes.config = s.homes.config ∧
    (eraseDone req k verified seq s).homes.region = s.homes.region ∧
    (eraseDone req k verified seq s).homes.label = s.homes.label ∧
    (eraseDone req k verified seq s).homes.stage = s.homes.stage ∧
    (eraseDone req k verified seq s).srb.region = s.srb.region ∧
    (eraseDone req k verified seq s).srb.label = s.srb.label ∧
    (eraseDone req k verified seq s).srb.reserve = s.srb.reserve ∧
    (eraseDone req k verified seq s).srb.stage = s.srb.stage := by
  unfold eraseDone
  dsimp only
  (repeat' split) <;> simp_all

@[simp] theorem keyEraseComplete_frame (verified : Bool) (s : State) :
    (keyEraseComplete verified s).boot = s.boot ∧ (keyEraseComplete verified s).cap = s.cap ∧
    (keyEraseComplete verified s).pcd = s.pcd ∧ (keyEraseComplete verified s).config = s.config ∧
    (keyEraseComplete verified s).inbox = s.inbox ∧ (keyEraseComplete verified s).book = s.book ∧
    (keyEraseComplete verified s).pending = s.pending ∧ (keyEraseComplete verified s).jobs.boxes = s.jobs.boxes ∧
    (keyEraseComplete verified s).jobs.seq = s.jobs.seq ∧ (keyEraseComplete verified s).tlc.sets = s.tlc.sets ∧
    (keyEraseComplete verified s).tlc.lock = s.tlc.lock ∧ (keyEraseComplete verified s).tlc.queue = s.tlc.queue ∧
    (keyEraseComplete verified s).tlc.fills = s.tlc.fills ∧ (keyEraseComplete verified s).tlc.panel = s.tlc.panel ∧
    (keyEraseComplete verified s).tlc.access = s.tlc.access ∧ (keyEraseComplete verified s).tlc.job = s.tlc.job ∧
    (keyEraseComplete verified s).tlc.jobWait = s.tlc.jobWait ∧
    (keyEraseComplete verified s).mfc.header = s.mfc.header ∧
    (keyEraseComplete verified s).mfc.marker = s.mfc.marker ∧
    (keyEraseComplete verified s).mfc.spares = s.mfc.spares ∧ (keyEraseComplete verified s).mfc.seq = s.mfc.seq ∧
    (keyEraseComplete verified s).mfc.wear = s.mfc.wear ∧ (keyEraseComplete verified s).mfc.reads = s.mfc.reads ∧
    (keyEraseComplete verified s).mfc.programs = s.mfc.programs ∧
    (keyEraseComplete verified s).homes.tile = s.homes.tile ∧
    (keyEraseComplete verified s).homes.spare = s.homes.spare ∧
    (keyEraseComplete verified s).homes.header = s.homes.header ∧
    (keyEraseComplete verified s).homes.config = s.homes.config ∧
    (keyEraseComplete verified s).homes.region = s.homes.region ∧
    (keyEraseComplete verified s).homes.label = s.homes.label ∧
    (keyEraseComplete verified s).homes.stage = s.homes.stage ∧
    (keyEraseComplete verified s).srb.region = s.srb.region ∧ (keyEraseComplete verified s).srb.label = s.srb.label ∧
    (keyEraseComplete verified s).srb.reserve = s.srb.reserve ∧
    (keyEraseComplete verified s).srb.stage = s.srb.stage := by
  unfold keyEraseComplete
  (repeat' split) <;> simp_all

@[simp] theorem checkKey_frame (req : Request) (s : State) :
    (checkKey req s).boot = s.boot ∧ (checkKey req s).cap = s.cap ∧ (checkKey req s).jobs = s.jobs ∧
    (checkKey req s).tlc = s.tlc ∧ (checkKey req s).mfc = s.mfc ∧ (checkKey req s).homes = s.homes ∧
    (checkKey req s).pcd = s.pcd ∧ (checkKey req s).srb = s.srb ∧ (checkKey req s).config = s.config ∧
    (checkKey req s).inbox = s.inbox ∧ (checkKey req s).book = s.book ∧ (checkKey req s).pending = s.pending := by
  unfold checkKey
  (repeat' split) <;> simp_all

@[simp] theorem releaseKey_frame (req : Request) (s : State) :
    (releaseKey req s).boot = s.boot ∧ (releaseKey req s).cap = s.cap ∧ (releaseKey req s).jobs = s.jobs ∧
    (releaseKey req s).tlc = s.tlc ∧ (releaseKey req s).mfc = s.mfc ∧ (releaseKey req s).homes = s.homes ∧
    (releaseKey req s).pcd = s.pcd ∧ (releaseKey req s).srb = s.srb ∧ (releaseKey req s).config = s.config ∧
    (releaseKey req s).inbox = s.inbox ∧ (releaseKey req s).book = s.book ∧
    (releaseKey req s).pending = s.pending := by
  unfold releaseKey
  (repeat' split) <;> simp_all

/-! ## The region and label records -/

@[simp] theorem setReservation_rest (m : Master) (r : Option (Target × BitVec 16)) (s : State) :
    (setReservation m r s).srb.keys = s.srb.keys ∧ (setReservation m r s).srb.region = s.srb.region ∧
    (setReservation m r s).srb.label = s.srb.label ∧ (setReservation m r s).srb.stage = s.srb.stage := by
  unfold setReservation
  (repeat' split) <;> simp_all

@[simp] theorem clearTarget_rest (t : Target) (s : State) :
    (clearTarget t s).srb.keys = s.srb.keys ∧ (clearTarget t s).srb.region = s.srb.region ∧
    (clearTarget t s).srb.label = s.srb.label ∧ (clearTarget t s).srb.stage = s.srb.stage := by
  simp [clearTarget]

@[simp] theorem setRegion_rest (r : SetRecord RegionFields) (s : State) :
    (setRegion r s).srb.keys = s.srb.keys ∧ (setRegion r s).srb.label = s.srb.label ∧
    (setRegion r s).srb.reserve = s.srb.reserve ∧ (setRegion r s).srb.stage = s.srb.stage := by
  simp [setRegion]

@[simp] theorem setLabel_rest (r : SetRecord LabelFields) (s : State) :
    (setLabel r s).srb.keys = s.srb.keys ∧ (setLabel r s).srb.region = s.srb.region ∧
    (setLabel r s).srb.reserve = s.srb.reserve ∧ (setLabel r s).srb.stage = s.srb.stage := by
  simp [setLabel]

@[simp] theorem reserveIf_rest (flag : Bool) (m : Master) (t : Target) (v : BitVec 16) (s : State) :
    (reserveIf flag m t v s).srb.keys = s.srb.keys ∧ (reserveIf flag m t v s).srb.region = s.srb.region ∧
    (reserveIf flag m t v s).srb.label = s.srb.label ∧ (reserveIf flag m t v s).srb.stage = s.srb.stage := by
  unfold reserveIf
  (repeat' split) <;> simp_all

@[simp] theorem readRegion_frame (req : Request) (s : State) :
    (readRegion req s).boot = s.boot ∧ (readRegion req s).cap = s.cap ∧ (readRegion req s).jobs = s.jobs ∧
    (readRegion req s).tlc = s.tlc ∧ (readRegion req s).mfc = s.mfc ∧ (readRegion req s).homes = s.homes ∧
    (readRegion req s).pcd = s.pcd ∧ (readRegion req s).config = s.config ∧ (readRegion req s).inbox = s.inbox ∧
    (readRegion req s).book = s.book ∧ (readRegion req s).pending = s.pending ∧
    (readRegion req s).srb.keys = s.srb.keys ∧ (readRegion req s).srb.region = s.srb.region ∧
    (readRegion req s).srb.label = s.srb.label ∧ (readRegion req s).srb.stage = s.srb.stage := by
  unfold readRegion
  (repeat' split) <;> simp_all

@[simp] theorem readLabel_frame (req : Request) (s : State) :
    (readLabel req s).boot = s.boot ∧ (readLabel req s).cap = s.cap ∧ (readLabel req s).jobs = s.jobs ∧
    (readLabel req s).tlc = s.tlc ∧ (readLabel req s).mfc = s.mfc ∧ (readLabel req s).homes = s.homes ∧
    (readLabel req s).pcd = s.pcd ∧ (readLabel req s).config = s.config ∧ (readLabel req s).inbox = s.inbox ∧
    (readLabel req s).book = s.book ∧ (readLabel req s).pending = s.pending ∧
    (readLabel req s).srb.keys = s.srb.keys ∧ (readLabel req s).srb.region = s.srb.region ∧
    (readLabel req s).srb.label = s.srb.label ∧ (readLabel req s).srb.stage = s.srb.stage := by
  unfold readLabel
  (repeat' split) <;> simp_all

@[simp] theorem loseReservation_frame (req : Request) (s : State) :
    (loseReservation req s).boot = s.boot ∧ (loseReservation req s).cap = s.cap ∧
    (loseReservation req s).jobs = s.jobs ∧ (loseReservation req s).tlc = s.tlc ∧
    (loseReservation req s).mfc = s.mfc ∧ (loseReservation req s).homes = s.homes ∧
    (loseReservation req s).pcd = s.pcd ∧ (loseReservation req s).config = s.config ∧
    (loseReservation req s).inbox = s.inbox ∧ (loseReservation req s).book = s.book ∧
    (loseReservation req s).pending = s.pending ∧ (loseReservation req s).srb.keys = s.srb.keys ∧
    (loseReservation req s).srb.region = s.srb.region ∧ (loseReservation req s).srb.label = s.srb.label ∧
    (loseReservation req s).srb.stage = s.srb.stage := by
  simp [loseReservation]

@[simp] theorem writeRegion_frame (req : Request) (s : State) :
    (writeRegion req s).boot = s.boot ∧ (writeRegion req s).cap = s.cap ∧ (writeRegion req s).jobs = s.jobs ∧
    (writeRegion req s).tlc = s.tlc ∧ (writeRegion req s).homes = s.homes ∧ (writeRegion req s).pcd = s.pcd ∧
    (writeRegion req s).config = s.config ∧ (writeRegion req s).inbox = s.inbox ∧ (writeRegion req s).book = s.book ∧
    (writeRegion req s).pending = s.pending ∧ (writeRegion req s).mfc.header = s.mfc.header ∧
    (writeRegion req s).mfc.marker = s.mfc.marker ∧ (writeRegion req s).mfc.spares = s.mfc.spares ∧
    (writeRegion req s).mfc.seq = s.mfc.seq ∧ (writeRegion req s).mfc.flash = s.mfc.flash ∧
    (writeRegion req s).mfc.wear = s.mfc.wear ∧ (writeRegion req s).mfc.reads = s.mfc.reads ∧
    (writeRegion req s).srb.keys = s.srb.keys ∧ (writeRegion req s).srb.label = s.srb.label ∧
    (writeRegion req s).srb.stage = s.srb.stage := by
  unfold writeRegion
  dsimp only
  (repeat' split) <;> simp_all

@[simp] theorem writeLabel_frame (req : Request) (s : State) :
    (writeLabel req s).boot = s.boot ∧ (writeLabel req s).cap = s.cap ∧ (writeLabel req s).jobs = s.jobs ∧
    (writeLabel req s).tlc = s.tlc ∧ (writeLabel req s).homes = s.homes ∧ (writeLabel req s).pcd = s.pcd ∧
    (writeLabel req s).config = s.config ∧ (writeLabel req s).inbox = s.inbox ∧ (writeLabel req s).book = s.book ∧
    (writeLabel req s).pending = s.pending ∧ (writeLabel req s).mfc.header = s.mfc.header ∧
    (writeLabel req s).mfc.marker = s.mfc.marker ∧ (writeLabel req s).mfc.spares = s.mfc.spares ∧
    (writeLabel req s).mfc.seq = s.mfc.seq ∧ (writeLabel req s).mfc.flash = s.mfc.flash ∧
    (writeLabel req s).mfc.wear = s.mfc.wear ∧ (writeLabel req s).mfc.reads = s.mfc.reads ∧
    (writeLabel req s).srb.keys = s.srb.keys ∧ (writeLabel req s).srb.region = s.srb.region ∧
    (writeLabel req s).srb.stage = s.srb.stage := by
  unfold writeLabel
  dsimp only
  (repeat' split) <;> simp_all

@[simp] theorem setRegionHome_rest (h : Home (StoredRecord RegionFields)) (s : State) :
    (setRegionHome h s).homes.tile = s.homes.tile ∧ (setRegionHome h s).homes.spare = s.homes.spare ∧
    (setRegionHome h s).homes.header = s.homes.header ∧ (setRegionHome h s).homes.config = s.homes.config ∧
    (setRegionHome h s).homes.key = s.homes.key ∧ (setRegionHome h s).homes.label = s.homes.label ∧
    (setRegionHome h s).homes.stage = s.homes.stage := by
  simp [setRegionHome]

@[simp] theorem setLabelHome_rest (h : Home (StoredRecord LabelFields)) (s : State) :
    (setLabelHome h s).homes.tile = s.homes.tile ∧ (setLabelHome h s).homes.spare = s.homes.spare ∧
    (setLabelHome h s).homes.header = s.homes.header ∧ (setLabelHome h s).homes.config = s.homes.config ∧
    (setLabelHome h s).homes.key = s.homes.key ∧ (setLabelHome h s).homes.region = s.homes.region ∧
    (setLabelHome h s).homes.stage = s.homes.stage := by
  simp [setLabelHome]

@[simp] theorem regionDone_frame (req : Request) (content : RegionFields) (version : BitVec 16) (seq : BitVec 32) (verified : Bool) (s : State) :
    (regionDone req content version seq verified s).boot = s.boot ∧
    (regionDone req content version seq verified s).cap = s.cap ∧
    (regionDone req content version seq verified s).pcd = s.pcd ∧
    (regionDone req content version seq verified s).config = s.config ∧
    (regionDone req content version seq verified s).inbox = s.inbox ∧
    (regionDone req content version seq verified s).book = s.book ∧
    (regionDone req content version seq verified s).pending = s.pending ∧
    (regionDone req content version seq verified s).jobs.boxes = s.jobs.boxes ∧
    (regionDone req content version seq verified s).jobs.seq = s.jobs.seq ∧
    (regionDone req content version seq verified s).tlc.sets = s.tlc.sets ∧
    (regionDone req content version seq verified s).tlc.lock = s.tlc.lock ∧
    (regionDone req content version seq verified s).tlc.queue = s.tlc.queue ∧
    (regionDone req content version seq verified s).tlc.fills = s.tlc.fills ∧
    (regionDone req content version seq verified s).tlc.panel = s.tlc.panel ∧
    (regionDone req content version seq verified s).tlc.access = s.tlc.access ∧
    (regionDone req content version seq verified s).tlc.job = s.tlc.job ∧
    (regionDone req content version seq verified s).tlc.jobWait = s.tlc.jobWait ∧
    (regionDone req content version seq verified s).mfc.header = s.mfc.header ∧
    (regionDone req content version seq verified s).mfc.marker = s.mfc.marker ∧
    (regionDone req content version seq verified s).mfc.spares = s.mfc.spares ∧
    (regionDone req content version seq verified s).mfc.seq = s.mfc.seq ∧
    (regionDone req content version seq verified s).mfc.wear = s.mfc.wear ∧
    (regionDone req content version seq verified s).mfc.reads = s.mfc.reads ∧
    (regionDone req content version seq verified s).mfc.programs = s.mfc.programs ∧
    (regionDone req content version seq verified s).homes.tile = s.homes.tile ∧
    (regionDone req content version seq verified s).homes.spare = s.homes.spare ∧
    (regionDone req content version seq verified s).homes.header = s.homes.header ∧
    (regionDone req content version seq verified s).homes.config = s.homes.config ∧
    (regionDone req content version seq verified s).homes.key = s.homes.key ∧
    (regionDone req content version seq verified s).homes.label = s.homes.label ∧
    (regionDone req content version seq verified s).homes.stage = s.homes.stage ∧
    (regionDone req content version seq verified s).srb.keys = s.srb.keys ∧
    (regionDone req content version seq verified s).srb.label = s.srb.label ∧
    (regionDone req content version seq verified s).srb.stage = s.srb.stage := by
  unfold regionDone
  dsimp only
  (repeat' split) <;> simp_all

@[simp] theorem labelDone_frame (req : Request) (content : LabelFields) (version : BitVec 16) (seq : BitVec 32) (verified : Bool) (s : State) :
    (labelDone req content version seq verified s).boot = s.boot ∧
    (labelDone req content version seq verified s).cap = s.cap ∧
    (labelDone req content version seq verified s).pcd = s.pcd ∧
    (labelDone req content version seq verified s).config = s.config ∧
    (labelDone req content version seq verified s).inbox = s.inbox ∧
    (labelDone req content version seq verified s).book = s.book ∧
    (labelDone req content version seq verified s).pending = s.pending ∧
    (labelDone req content version seq verified s).jobs.boxes = s.jobs.boxes ∧
    (labelDone req content version seq verified s).jobs.seq = s.jobs.seq ∧
    (labelDone req content version seq verified s).tlc.sets = s.tlc.sets ∧
    (labelDone req content version seq verified s).tlc.lock = s.tlc.lock ∧
    (labelDone req content version seq verified s).tlc.queue = s.tlc.queue ∧
    (labelDone req content version seq verified s).tlc.fills = s.tlc.fills ∧
    (labelDone req content version seq verified s).tlc.panel = s.tlc.panel ∧
    (labelDone req content version seq verified s).tlc.access = s.tlc.access ∧
    (labelDone req content version seq verified s).tlc.job = s.tlc.job ∧
    (labelDone req content version seq verified s).tlc.jobWait = s.tlc.jobWait ∧
    (labelDone req content version seq verified s).mfc.header = s.mfc.header ∧
    (labelDone req content version seq verified s).mfc.marker = s.mfc.marker ∧
    (labelDone req content version seq verified s).mfc.spares = s.mfc.spares ∧
    (labelDone req content version seq verified s).mfc.seq = s.mfc.seq ∧
    (labelDone req content version seq verified s).mfc.wear = s.mfc.wear ∧
    (labelDone req content version seq verified s).mfc.reads = s.mfc.reads ∧
    (labelDone req content version seq verified s).mfc.programs = s.mfc.programs ∧
    (labelDone req content version seq verified s).homes.tile = s.homes.tile ∧
    (labelDone req content version seq verified s).homes.spare = s.homes.spare ∧
    (labelDone req content version seq verified s).homes.header = s.homes.header ∧
    (labelDone req content version seq verified s).homes.config = s.homes.config ∧
    (labelDone req content version seq verified s).homes.key = s.homes.key ∧
    (labelDone req content version seq verified s).homes.region = s.homes.region ∧
    (labelDone req content version seq verified s).homes.stage = s.homes.stage ∧
    (labelDone req content version seq verified s).srb.keys = s.srb.keys ∧
    (labelDone req content version seq verified s).srb.region = s.srb.region ∧
    (labelDone req content version seq verified s).srb.stage = s.srb.stage := by
  unfold labelDone
  dsimp only
  (repeat' split) <;> simp_all

@[simp] theorem recordWriteComplete_frame (verified : Bool) (s : State) :
    (recordWriteComplete verified s).boot = s.boot ∧ (recordWriteComplete verified s).cap = s.cap ∧
    (recordWriteComplete verified s).pcd = s.pcd ∧ (recordWriteComplete verified s).config = s.config ∧
    (recordWriteComplete verified s).inbox = s.inbox ∧ (recordWriteComplete verified s).book = s.book ∧
    (recordWriteComplete verified s).pending = s.pending ∧
    (recordWriteComplete verified s).jobs.boxes = s.jobs.boxes ∧
    (recordWriteComplete verified s).jobs.seq = s.jobs.seq ∧ (recordWriteComplete verified s).tlc.sets = s.tlc.sets ∧
    (recordWriteComplete verified s).tlc.lock = s.tlc.lock ∧
    (recordWriteComplete verified s).tlc.queue = s.tlc.queue ∧
    (recordWriteComplete verified s).tlc.fills = s.tlc.fills ∧
    (recordWriteComplete verified s).tlc.panel = s.tlc.panel ∧
    (recordWriteComplete verified s).tlc.access = s.tlc.access ∧
    (recordWriteComplete verified s).tlc.job = s.tlc.job ∧
    (recordWriteComplete verified s).tlc.jobWait = s.tlc.jobWait ∧
    (recordWriteComplete verified s).mfc.header = s.mfc.header ∧
    (recordWriteComplete verified s).mfc.marker = s.mfc.marker ∧
    (recordWriteComplete verified s).mfc.spares = s.mfc.spares ∧
    (recordWriteComplete verified s).mfc.seq = s.mfc.seq ∧ (recordWriteComplete verified s).mfc.wear = s.mfc.wear ∧
    (recordWriteComplete verified s).mfc.reads = s.mfc.reads ∧
    (recordWriteComplete verified s).mfc.programs = s.mfc.programs ∧
    (recordWriteComplete verified s).homes.tile = s.homes.tile ∧
    (recordWriteComplete verified s).homes.spare = s.homes.spare ∧
    (recordWriteComplete verified s).homes.header = s.homes.header ∧
    (recordWriteComplete verified s).homes.config = s.homes.config ∧
    (recordWriteComplete verified s).homes.key = s.homes.key ∧
    (recordWriteComplete verified s).homes.stage = s.homes.stage ∧
    (recordWriteComplete verified s).srb.keys = s.srb.keys ∧
    (recordWriteComplete verified s).srb.stage = s.srb.stage := by
  unfold recordWriteComplete
  (repeat' split) <;> simp_all

/-! ## The commissioning stage -/

@[simp] theorem setStage_rest (r : StageRec) (s : State) :
    (setStage r s).srb.keys = s.srb.keys ∧ (setStage r s).srb.region = s.srb.region ∧
    (setStage r s).srb.label = s.srb.label ∧ (setStage r s).srb.reserve = s.srb.reserve := by
  simp [setStage]

@[simp] theorem setStageHome_rest (h : Home StageRecord) (s : State) :
    (setStageHome h s).homes.tile = s.homes.tile ∧ (setStageHome h s).homes.spare = s.homes.spare ∧
    (setStageHome h s).homes.header = s.homes.header ∧ (setStageHome h s).homes.config = s.homes.config ∧
    (setStageHome h s).homes.key = s.homes.key ∧ (setStageHome h s).homes.region = s.homes.region ∧
    (setStageHome h s).homes.label = s.homes.label := by
  simp [setStageHome]

@[simp] theorem stageQuery_frame (req : Request) (s : State) :
    (stageQuery req s).boot = s.boot ∧ (stageQuery req s).cap = s.cap ∧ (stageQuery req s).jobs = s.jobs ∧
    (stageQuery req s).tlc = s.tlc ∧ (stageQuery req s).mfc = s.mfc ∧ (stageQuery req s).homes = s.homes ∧
    (stageQuery req s).pcd = s.pcd ∧ (stageQuery req s).srb = s.srb ∧ (stageQuery req s).config = s.config ∧
    (stageQuery req s).inbox = s.inbox ∧ (stageQuery req s).book = s.book ∧
    (stageQuery req s).pending = s.pending := by
  unfold stageQuery
  (repeat' split) <;> simp_all

@[simp] theorem takeClose_frame (req : Request) (s : State) :
    (takeClose req s).boot = s.boot ∧ (takeClose req s).cap = s.cap ∧ (takeClose req s).jobs = s.jobs ∧
    (takeClose req s).tlc = s.tlc ∧ (takeClose req s).homes = s.homes ∧ (takeClose req s).pcd = s.pcd ∧
    (takeClose req s).pnp = s.pnp ∧ (takeClose req s).fxl = s.fxl ∧ (takeClose req s).syp = s.syp ∧
    (takeClose req s).mct = s.mct ∧ (takeClose req s).config = s.config ∧ (takeClose req s).inbox = s.inbox ∧
    (takeClose req s).book = s.book ∧ (takeClose req s).pending = s.pending ∧
    (takeClose req s).mfc.header = s.mfc.header ∧ (takeClose req s).mfc.marker = s.mfc.marker ∧
    (takeClose req s).mfc.spares = s.mfc.spares ∧ (takeClose req s).mfc.seq = s.mfc.seq ∧
    (takeClose req s).mfc.flash = s.mfc.flash ∧ (takeClose req s).mfc.wear = s.mfc.wear ∧
    (takeClose req s).mfc.reads = s.mfc.reads ∧ (takeClose req s).srb.keys = s.srb.keys ∧
    (takeClose req s).srb.region = s.srb.region ∧ (takeClose req s).srb.label = s.srb.label ∧
    (takeClose req s).srb.reserve = s.srb.reserve := by
  simp [takeClose]

@[simp] theorem closeSet_frame (req : Request) (s : State) :
    (closeSet req s).boot = s.boot ∧ (closeSet req s).cap = s.cap ∧ (closeSet req s).jobs = s.jobs ∧
    (closeSet req s).tlc = s.tlc ∧ (closeSet req s).homes = s.homes ∧ (closeSet req s).pcd = s.pcd ∧
    (closeSet req s).config = s.config ∧ (closeSet req s).inbox = s.inbox ∧ (closeSet req s).book = s.book ∧
    (closeSet req s).pending = s.pending ∧ (closeSet req s).mfc.header = s.mfc.header ∧
    (closeSet req s).mfc.marker = s.mfc.marker ∧ (closeSet req s).mfc.spares = s.mfc.spares ∧
    (closeSet req s).mfc.seq = s.mfc.seq ∧ (closeSet req s).mfc.flash = s.mfc.flash ∧
    (closeSet req s).mfc.wear = s.mfc.wear ∧ (closeSet req s).mfc.reads = s.mfc.reads ∧
    (closeSet req s).srb.keys = s.srb.keys ∧ (closeSet req s).srb.region = s.srb.region ∧
    (closeSet req s).srb.label = s.srb.label ∧ (closeSet req s).srb.reserve = s.srb.reserve := by
  unfold closeSet
  (repeat' split) <;> simp_all

@[simp] theorem closeVerified_frame (req : Request) (c r : Nat) (seq : BitVec 32) (s : State) :
    (closeVerified req c r seq s).boot = s.boot ∧ (closeVerified req c r seq s).cap = s.cap ∧
    (closeVerified req c r seq s).pcd = s.pcd ∧ (closeVerified req c r seq s).config = s.config ∧
    (closeVerified req c r seq s).inbox = s.inbox ∧ (closeVerified req c r seq s).book = s.book ∧
    (closeVerified req c r seq s).pending = s.pending ∧ (closeVerified req c r seq s).jobs.boxes = s.jobs.boxes ∧
    (closeVerified req c r seq s).jobs.seq = s.jobs.seq ∧ (closeVerified req c r seq s).tlc.sets = s.tlc.sets ∧
    (closeVerified req c r seq s).tlc.lock = s.tlc.lock ∧ (closeVerified req c r seq s).tlc.queue = s.tlc.queue ∧
    (closeVerified req c r seq s).tlc.fills = s.tlc.fills ∧ (closeVerified req c r seq s).tlc.panel = s.tlc.panel ∧
    (closeVerified req c r seq s).tlc.access = s.tlc.access ∧ (closeVerified req c r seq s).tlc.job = s.tlc.job ∧
    (closeVerified req c r seq s).tlc.jobWait = s.tlc.jobWait ∧
    (closeVerified req c r seq s).mfc.header = s.mfc.header ∧
    (closeVerified req c r seq s).mfc.marker = s.mfc.marker ∧
    (closeVerified req c r seq s).mfc.spares = s.mfc.spares ∧ (closeVerified req c r seq s).mfc.seq = s.mfc.seq ∧
    (closeVerified req c r seq s).mfc.wear = s.mfc.wear ∧ (closeVerified req c r seq s).mfc.reads = s.mfc.reads ∧
    (closeVerified req c r seq s).mfc.programs = s.mfc.programs ∧
    (closeVerified req c r seq s).homes.tile = s.homes.tile ∧
    (closeVerified req c r seq s).homes.spare = s.homes.spare ∧
    (closeVerified req c r seq s).homes.header = s.homes.header ∧
    (closeVerified req c r seq s).homes.config = s.homes.config ∧
    (closeVerified req c r seq s).homes.key = s.homes.key ∧
    (closeVerified req c r seq s).homes.region = s.homes.region ∧
    (closeVerified req c r seq s).homes.label = s.homes.label ∧ (closeVerified req c r seq s).srb.keys = s.srb.keys ∧
    (closeVerified req c r seq s).srb.region = s.srb.region ∧ (closeVerified req c r seq s).srb.label = s.srb.label ∧
    (closeVerified req c r seq s).srb.reserve = s.srb.reserve := by
  simp [closeVerified]

@[simp] theorem stageFailed_frame (req : Request) (s : State) :
    (stageFailed req s).boot = s.boot ∧ (stageFailed req s).cap = s.cap ∧ (stageFailed req s).pcd = s.pcd ∧
    (stageFailed req s).config = s.config ∧ (stageFailed req s).inbox = s.inbox ∧ (stageFailed req s).book = s.book ∧
    (stageFailed req s).pending = s.pending ∧ (stageFailed req s).jobs.boxes = s.jobs.boxes ∧
    (stageFailed req s).jobs.seq = s.jobs.seq ∧ (stageFailed req s).tlc.sets = s.tlc.sets ∧
    (stageFailed req s).tlc.lock = s.tlc.lock ∧ (stageFailed req s).tlc.queue = s.tlc.queue ∧
    (stageFailed req s).tlc.fills = s.tlc.fills ∧ (stageFailed req s).tlc.panel = s.tlc.panel ∧
    (stageFailed req s).tlc.access = s.tlc.access ∧ (stageFailed req s).tlc.job = s.tlc.job ∧
    (stageFailed req s).tlc.jobWait = s.tlc.jobWait ∧ (stageFailed req s).mfc.header = s.mfc.header ∧
    (stageFailed req s).mfc.marker = s.mfc.marker ∧ (stageFailed req s).mfc.spares = s.mfc.spares ∧
    (stageFailed req s).mfc.seq = s.mfc.seq ∧ (stageFailed req s).mfc.wear = s.mfc.wear ∧
    (stageFailed req s).mfc.reads = s.mfc.reads ∧ (stageFailed req s).mfc.programs = s.mfc.programs ∧
    (stageFailed req s).homes.tile = s.homes.tile ∧ (stageFailed req s).homes.spare = s.homes.spare ∧
    (stageFailed req s).homes.header = s.homes.header ∧ (stageFailed req s).homes.config = s.homes.config ∧
    (stageFailed req s).homes.key = s.homes.key ∧ (stageFailed req s).homes.region = s.homes.region ∧
    (stageFailed req s).homes.label = s.homes.label ∧ (stageFailed req s).srb.keys = s.srb.keys ∧
    (stageFailed req s).srb.region = s.srb.region ∧ (stageFailed req s).srb.label = s.srb.label ∧
    (stageFailed req s).srb.reserve = s.srb.reserve := by
  simp [stageFailed]

@[simp] theorem closeProgramComplete_frame (verified : Bool) (s : State) :
    (closeProgramComplete verified s).boot = s.boot ∧ (closeProgramComplete verified s).cap = s.cap ∧
    (closeProgramComplete verified s).pcd = s.pcd ∧ (closeProgramComplete verified s).config = s.config ∧
    (closeProgramComplete verified s).inbox = s.inbox ∧ (closeProgramComplete verified s).book = s.book ∧
    (closeProgramComplete verified s).pending = s.pending ∧
    (closeProgramComplete verified s).jobs.boxes = s.jobs.boxes ∧
    (closeProgramComplete verified s).jobs.seq = s.jobs.seq ∧
    (closeProgramComplete verified s).tlc.sets = s.tlc.sets ∧
    (closeProgramComplete verified s).tlc.lock = s.tlc.lock ∧
    (closeProgramComplete verified s).tlc.queue = s.tlc.queue ∧
    (closeProgramComplete verified s).tlc.fills = s.tlc.fills ∧
    (closeProgramComplete verified s).tlc.panel = s.tlc.panel ∧
    (closeProgramComplete verified s).tlc.access = s.tlc.access ∧
    (closeProgramComplete verified s).tlc.job = s.tlc.job ∧
    (closeProgramComplete verified s).tlc.jobWait = s.tlc.jobWait ∧
    (closeProgramComplete verified s).mfc.header = s.mfc.header ∧
    (closeProgramComplete verified s).mfc.marker = s.mfc.marker ∧
    (closeProgramComplete verified s).mfc.spares = s.mfc.spares ∧
    (closeProgramComplete verified s).mfc.seq = s.mfc.seq ∧ (closeProgramComplete verified s).mfc.wear = s.mfc.wear ∧
    (closeProgramComplete verified s).mfc.reads = s.mfc.reads ∧
    (closeProgramComplete verified s).mfc.programs = s.mfc.programs ∧
    (closeProgramComplete verified s).homes.tile = s.homes.tile ∧
    (closeProgramComplete verified s).homes.spare = s.homes.spare ∧
    (closeProgramComplete verified s).homes.header = s.homes.header ∧
    (closeProgramComplete verified s).homes.config = s.homes.config ∧
    (closeProgramComplete verified s).homes.key = s.homes.key ∧
    (closeProgramComplete verified s).homes.region = s.homes.region ∧
    (closeProgramComplete verified s).homes.label = s.homes.label ∧
    (closeProgramComplete verified s).srb.keys = s.srb.keys ∧
    (closeProgramComplete verified s).srb.region = s.srb.region ∧
    (closeProgramComplete verified s).srb.label = s.srb.label ∧
    (closeProgramComplete verified s).srb.reserve = s.srb.reserve := by
  unfold closeProgramComplete
  (repeat' split) <;> simp_all

@[simp] theorem takeReopen_frame (req : Request) (s : State) :
    (takeReopen req s).boot = s.boot ∧ (takeReopen req s).cap = s.cap ∧ (takeReopen req s).jobs = s.jobs ∧
    (takeReopen req s).tlc = s.tlc ∧ (takeReopen req s).homes = s.homes ∧ (takeReopen req s).pcd = s.pcd ∧
    (takeReopen req s).pnp = s.pnp ∧ (takeReopen req s).fxl = s.fxl ∧ (takeReopen req s).syp = s.syp ∧
    (takeReopen req s).mct = s.mct ∧ (takeReopen req s).config = s.config ∧ (takeReopen req s).inbox = s.inbox ∧
    (takeReopen req s).book = s.book ∧ (takeReopen req s).pending = s.pending ∧
    (takeReopen req s).mfc.header = s.mfc.header ∧ (takeReopen req s).mfc.marker = s.mfc.marker ∧
    (takeReopen req s).mfc.spares = s.mfc.spares ∧ (takeReopen req s).mfc.seq = s.mfc.seq ∧
    (takeReopen req s).mfc.flash = s.mfc.flash ∧ (takeReopen req s).mfc.wear = s.mfc.wear ∧
    (takeReopen req s).mfc.reads = s.mfc.reads ∧ (takeReopen req s).srb.keys = s.srb.keys ∧
    (takeReopen req s).srb.region = s.srb.region ∧ (takeReopen req s).srb.label = s.srb.label ∧
    (takeReopen req s).srb.reserve = s.srb.reserve := by
  simp [takeReopen]

@[simp] theorem reopenSet_frame (req : Request) (s : State) :
    (reopenSet req s).boot = s.boot ∧ (reopenSet req s).cap = s.cap ∧ (reopenSet req s).jobs = s.jobs ∧
    (reopenSet req s).tlc = s.tlc ∧ (reopenSet req s).homes = s.homes ∧ (reopenSet req s).pcd = s.pcd ∧
    (reopenSet req s).config = s.config ∧ (reopenSet req s).inbox = s.inbox ∧ (reopenSet req s).book = s.book ∧
    (reopenSet req s).pending = s.pending ∧ (reopenSet req s).mfc.header = s.mfc.header ∧
    (reopenSet req s).mfc.marker = s.mfc.marker ∧ (reopenSet req s).mfc.spares = s.mfc.spares ∧
    (reopenSet req s).mfc.seq = s.mfc.seq ∧ (reopenSet req s).mfc.flash = s.mfc.flash ∧
    (reopenSet req s).mfc.wear = s.mfc.wear ∧ (reopenSet req s).mfc.reads = s.mfc.reads ∧
    (reopenSet req s).srb.keys = s.srb.keys ∧ (reopenSet req s).srb.region = s.srb.region ∧
    (reopenSet req s).srb.label = s.srb.label ∧ (reopenSet req s).srb.reserve = s.srb.reserve := by
  unfold reopenSet
  (repeat' split) <;> simp_all

@[simp] theorem reopenVerified_frame (req : Request) (c r : Nat) (seq : BitVec 32) (s : State) :
    (reopenVerified req c r seq s).boot = s.boot ∧ (reopenVerified req c r seq s).cap = s.cap ∧
    (reopenVerified req c r seq s).pcd = s.pcd ∧ (reopenVerified req c r seq s).config = s.config ∧
    (reopenVerified req c r seq s).inbox = s.inbox ∧ (reopenVerified req c r seq s).book = s.book ∧
    (reopenVerified req c r seq s).pending = s.pending ∧ (reopenVerified req c r seq s).jobs.boxes = s.jobs.boxes ∧
    (reopenVerified req c r seq s).jobs.seq = s.jobs.seq ∧ (reopenVerified req c r seq s).tlc.sets = s.tlc.sets ∧
    (reopenVerified req c r seq s).tlc.lock = s.tlc.lock ∧ (reopenVerified req c r seq s).tlc.queue = s.tlc.queue ∧
    (reopenVerified req c r seq s).tlc.fills = s.tlc.fills ∧ (reopenVerified req c r seq s).tlc.panel = s.tlc.panel ∧
    (reopenVerified req c r seq s).tlc.access = s.tlc.access ∧ (reopenVerified req c r seq s).tlc.job = s.tlc.job ∧
    (reopenVerified req c r seq s).tlc.jobWait = s.tlc.jobWait ∧
    (reopenVerified req c r seq s).mfc.header = s.mfc.header ∧
    (reopenVerified req c r seq s).mfc.marker = s.mfc.marker ∧
    (reopenVerified req c r seq s).mfc.spares = s.mfc.spares ∧ (reopenVerified req c r seq s).mfc.seq = s.mfc.seq ∧
    (reopenVerified req c r seq s).mfc.wear = s.mfc.wear ∧ (reopenVerified req c r seq s).mfc.reads = s.mfc.reads ∧
    (reopenVerified req c r seq s).mfc.programs = s.mfc.programs ∧
    (reopenVerified req c r seq s).homes.tile = s.homes.tile ∧
    (reopenVerified req c r seq s).homes.spare = s.homes.spare ∧
    (reopenVerified req c r seq s).homes.header = s.homes.header ∧
    (reopenVerified req c r seq s).homes.config = s.homes.config ∧
    (reopenVerified req c r seq s).homes.key = s.homes.key ∧
    (reopenVerified req c r seq s).homes.region = s.homes.region ∧
    (reopenVerified req c r seq s).homes.label = s.homes.label ∧
    (reopenVerified req c r seq s).srb.keys = s.srb.keys ∧ (reopenVerified req c r seq s).srb.region = s.srb.region ∧
    (reopenVerified req c r seq s).srb.label = s.srb.label ∧
    (reopenVerified req c r seq s).srb.reserve = s.srb.reserve := by
  simp [reopenVerified]

@[simp] theorem reopenProgramComplete_frame (verified : Bool) (s : State) :
    (reopenProgramComplete verified s).boot = s.boot ∧ (reopenProgramComplete verified s).cap = s.cap ∧
    (reopenProgramComplete verified s).pcd = s.pcd ∧ (reopenProgramComplete verified s).config = s.config ∧
    (reopenProgramComplete verified s).inbox = s.inbox ∧ (reopenProgramComplete verified s).book = s.book ∧
    (reopenProgramComplete verified s).pending = s.pending ∧
    (reopenProgramComplete verified s).jobs.boxes = s.jobs.boxes ∧
    (reopenProgramComplete verified s).jobs.seq = s.jobs.seq ∧
    (reopenProgramComplete verified s).tlc.sets = s.tlc.sets ∧
    (reopenProgramComplete verified s).tlc.lock = s.tlc.lock ∧
    (reopenProgramComplete verified s).tlc.queue = s.tlc.queue ∧
    (reopenProgramComplete verified s).tlc.fills = s.tlc.fills ∧
    (reopenProgramComplete verified s).tlc.panel = s.tlc.panel ∧
    (reopenProgramComplete verified s).tlc.access = s.tlc.access ∧
    (reopenProgramComplete verified s).tlc.job = s.tlc.job ∧
    (reopenProgramComplete verified s).tlc.jobWait = s.tlc.jobWait ∧
    (reopenProgramComplete verified s).mfc.header = s.mfc.header ∧
    (reopenProgramComplete verified s).mfc.marker = s.mfc.marker ∧
    (reopenProgramComplete verified s).mfc.spares = s.mfc.spares ∧
    (reopenProgramComplete verified s).mfc.seq = s.mfc.seq ∧
    (reopenProgramComplete verified s).mfc.wear = s.mfc.wear ∧
    (reopenProgramComplete verified s).mfc.reads = s.mfc.reads ∧
    (reopenProgramComplete verified s).mfc.programs = s.mfc.programs ∧
    (reopenProgramComplete verified s).homes.tile = s.homes.tile ∧
    (reopenProgramComplete verified s).homes.spare = s.homes.spare ∧
    (reopenProgramComplete verified s).homes.header = s.homes.header ∧
    (reopenProgramComplete verified s).homes.config = s.homes.config ∧
    (reopenProgramComplete verified s).homes.key = s.homes.key ∧
    (reopenProgramComplete verified s).homes.region = s.homes.region ∧
    (reopenProgramComplete verified s).homes.label = s.homes.label ∧
    (reopenProgramComplete verified s).srb.keys = s.srb.keys ∧
    (reopenProgramComplete verified s).srb.region = s.srb.region ∧
    (reopenProgramComplete verified s).srb.label = s.srb.label ∧
    (reopenProgramComplete verified s).srb.reserve = s.srb.reserve := by
  unfold reopenProgramComplete
  (repeat' split) <;> simp_all

/-! ## Resets and start-up -/

@[simp] theorem resetRelease_frame (s : State) :
    (resetRelease s).cap = s.cap ∧ (resetRelease s).jobs = s.jobs ∧ (resetRelease s).tlc = s.tlc ∧
    (resetRelease s).mfc = s.mfc ∧ (resetRelease s).homes = s.homes ∧ (resetRelease s).pcd = s.pcd ∧
    (resetRelease s).pnp = s.pnp ∧ (resetRelease s).srb = s.srb ∧ (resetRelease s).fxl = s.fxl ∧
    (resetRelease s).syp = s.syp ∧ (resetRelease s).mct = s.mct ∧ (resetRelease s).config = s.config ∧
    (resetRelease s).inbox = s.inbox ∧ (resetRelease s).book = s.book ∧ (resetRelease s).pending = s.pending := by
  unfold resetRelease
  (repeat' split) <;> simp_all

@[simp] theorem startupConfigRead_frame (s : State) :
    (startupConfigRead s).cap = s.cap ∧ (startupConfigRead s).jobs = s.jobs ∧ (startupConfigRead s).tlc = s.tlc ∧
    (startupConfigRead s).mfc = s.mfc ∧ (startupConfigRead s).homes = s.homes ∧ (startupConfigRead s).pcd = s.pcd ∧
    (startupConfigRead s).pnp = s.pnp ∧ (startupConfigRead s).srb = s.srb ∧ (startupConfigRead s).fxl = s.fxl ∧
    (startupConfigRead s).mct = s.mct ∧ (startupConfigRead s).inbox = s.inbox ∧ (startupConfigRead s).book = s.book ∧
    (startupConfigRead s).pending = s.pending := by
  unfold startupConfigRead
  (repeat' split) <;> simp_all

@[simp] theorem claimTile_rest (k : Fin 24) (t : TileNo) (seq : BitVec 32) (s : State) :
    (claimTile k t seq s).mfc.header = s.mfc.header ∧ (claimTile k t seq s).mfc.marker = s.mfc.marker ∧
    (claimTile k t seq s).mfc.seq = s.mfc.seq ∧ (claimTile k t seq s).mfc.flash = s.mfc.flash ∧
    (claimTile k t seq s).mfc.wear = s.mfc.wear ∧ (claimTile k t seq s).mfc.reads = s.mfc.reads ∧
    (claimTile k t seq s).mfc.programs = s.mfc.programs := by
  unfold claimTile
  (repeat' split) <;> simp_all

@[simp] theorem scanSpare_rest (k : Fin 24) (s : State) :
    (scanSpare k s).mfc.header = s.mfc.header ∧ (scanSpare k s).mfc.marker = s.mfc.marker ∧
    (scanSpare k s).mfc.seq = s.mfc.seq ∧ (scanSpare k s).mfc.flash = s.mfc.flash ∧
    (scanSpare k s).mfc.wear = s.mfc.wear ∧ (scanSpare k s).mfc.reads = s.mfc.reads ∧
    (scanSpare k s).mfc.programs = s.mfc.programs := by
  unfold scanSpare
  (repeat' split) <;> simp_all

@[simp] theorem spareScan_frame (s : State) :
    (spareScan s).cap = s.cap ∧ (spareScan s).jobs = s.jobs ∧ (spareScan s).tlc = s.tlc ∧
    (spareScan s).homes = s.homes ∧ (spareScan s).pcd = s.pcd ∧ (spareScan s).pnp = s.pnp ∧
    (spareScan s).srb = s.srb ∧ (spareScan s).fxl = s.fxl ∧ (spareScan s).syp = s.syp ∧ (spareScan s).mct = s.mct ∧
    (spareScan s).config = s.config ∧ (spareScan s).inbox = s.inbox ∧ (spareScan s).book = s.book ∧
    (spareScan s).pending = s.pending ∧ (spareScan s).mfc.header = s.mfc.header ∧
    (spareScan s).mfc.marker = s.mfc.marker ∧ (spareScan s).mfc.seq = s.mfc.seq ∧
    (spareScan s).mfc.flash = s.mfc.flash ∧ (spareScan s).mfc.wear = s.mfc.wear ∧
    (spareScan s).mfc.reads = s.mfc.reads ∧ (spareScan s).mfc.programs = s.mfc.programs := by
  unfold spareScan
  (repeat' split) <;> simp_all

@[simp] theorem loadHeader_rest (r : HeaderRecord) (s : State) :
    (loadHeader r s).mfc.spares = s.mfc.spares ∧ (loadHeader r s).mfc.seq = s.mfc.seq ∧
    (loadHeader r s).mfc.flash = s.mfc.flash ∧ (loadHeader r s).mfc.wear = s.mfc.wear ∧
    (loadHeader r s).mfc.reads = s.mfc.reads ∧ (loadHeader r s).mfc.programs = s.mfc.programs := by
  simp [loadHeader]

@[simp] theorem headerLost_rest (s : State) :
    (headerLost s).mfc.spares = s.mfc.spares ∧ (headerLost s).mfc.seq = s.mfc.seq ∧
    (headerLost s).mfc.flash = s.mfc.flash ∧ (headerLost s).mfc.wear = s.mfc.wear ∧
    (headerLost s).mfc.reads = s.mfc.reads ∧ (headerLost s).mfc.programs = s.mfc.programs := by
  simp [headerLost]

@[simp] theorem headerLoad_frame (s : State) :
    (headerLoad s).cap = s.cap ∧ (headerLoad s).jobs = s.jobs ∧ (headerLoad s).tlc = s.tlc ∧
    (headerLoad s).homes = s.homes ∧ (headerLoad s).pcd = s.pcd ∧ (headerLoad s).pnp = s.pnp ∧
    (headerLoad s).srb = s.srb ∧ (headerLoad s).fxl = s.fxl ∧ (headerLoad s).mct = s.mct ∧
    (headerLoad s).config = s.config ∧ (headerLoad s).inbox = s.inbox ∧ (headerLoad s).book = s.book ∧
    (headerLoad s).pending = s.pending ∧ (headerLoad s).mfc.spares = s.mfc.spares ∧
    (headerLoad s).mfc.seq = s.mfc.seq ∧ (headerLoad s).mfc.flash = s.mfc.flash ∧
    (headerLoad s).mfc.wear = s.mfc.wear ∧ (headerLoad s).mfc.reads = s.mfc.reads ∧
    (headerLoad s).mfc.programs = s.mfc.programs := by
  unfold headerLoad
  (repeat' split) <;> simp_all

@[simp] theorem loadKeyHome_rest (k : Fin 12) (s : State) :
    (loadKeyHome k s).srb.region = s.srb.region ∧ (loadKeyHome k s).srb.label = s.srb.label ∧
    (loadKeyHome k s).srb.reserve = s.srb.reserve ∧ (loadKeyHome k s).srb.stage = s.srb.stage := by
  unfold loadKeyHome
  (repeat' split) <;> simp_all

@[simp] theorem keyHomeLoad_frame (s : State) :
    (keyHomeLoad s).cap = s.cap ∧ (keyHomeLoad s).jobs = s.jobs ∧ (keyHomeLoad s).tlc = s.tlc ∧
    (keyHomeLoad s).mfc = s.mfc ∧ (keyHomeLoad s).homes = s.homes ∧ (keyHomeLoad s).pcd = s.pcd ∧
    (keyHomeLoad s).pnp = s.pnp ∧ (keyHomeLoad s).fxl = s.fxl ∧ (keyHomeLoad s).syp = s.syp ∧
    (keyHomeLoad s).mct = s.mct ∧ (keyHomeLoad s).config = s.config ∧ (keyHomeLoad s).inbox = s.inbox ∧
    (keyHomeLoad s).book = s.book ∧ (keyHomeLoad s).pending = s.pending ∧ (keyHomeLoad s).srb.region = s.srb.region ∧
    (keyHomeLoad s).srb.label = s.srb.label ∧ (keyHomeLoad s).srb.reserve = s.srb.reserve ∧
    (keyHomeLoad s).srb.stage = s.srb.stage := by
  unfold keyHomeLoad
  (repeat' split) <;> simp_all

@[simp] theorem noteStored_frame {α : Type} (fits : α → Bool) (h : Home (StoredRecord α)) (s : State) :
    (noteStored fits h s).cap = s.cap ∧ (noteStored fits h s).jobs = s.jobs ∧ (noteStored fits h s).tlc = s.tlc ∧
    (noteStored fits h s).mfc = s.mfc ∧ (noteStored fits h s).homes = s.homes ∧ (noteStored fits h s).pcd = s.pcd ∧
    (noteStored fits h s).pnp = s.pnp ∧ (noteStored fits h s).srb = s.srb ∧ (noteStored fits h s).fxl = s.fxl ∧
    (noteStored fits h s).syp = s.syp ∧ (noteStored fits h s).mct = s.mct ∧ (noteStored fits h s).config = s.config ∧
    (noteStored fits h s).inbox = s.inbox ∧ (noteStored fits h s).book = s.book ∧
    (noteStored fits h s).pending = s.pending := by
  unfold noteStored
  (repeat' split) <;> simp_all

@[simp] theorem regionLabelLoad_frame (s : State) :
    (regionLabelLoad s).cap = s.cap ∧ (regionLabelLoad s).jobs = s.jobs ∧ (regionLabelLoad s).tlc = s.tlc ∧
    (regionLabelLoad s).mfc = s.mfc ∧ (regionLabelLoad s).homes = s.homes ∧ (regionLabelLoad s).pcd = s.pcd ∧
    (regionLabelLoad s).pnp = s.pnp ∧ (regionLabelLoad s).fxl = s.fxl ∧ (regionLabelLoad s).syp = s.syp ∧
    (regionLabelLoad s).mct = s.mct ∧ (regionLabelLoad s).config = s.config ∧ (regionLabelLoad s).inbox = s.inbox ∧
    (regionLabelLoad s).book = s.book ∧ (regionLabelLoad s).pending = s.pending ∧
    (regionLabelLoad s).srb.keys = s.srb.keys ∧ (regionLabelLoad s).srb.reserve = s.srb.reserve ∧
    (regionLabelLoad s).srb.stage = s.srb.stage := by
  unfold regionLabelLoad
  (repeat' split) <;> simp_all

@[simp] theorem loadStage_rest (r : StageRecord) (s : State) :
    (loadStage r s).srb.keys = s.srb.keys ∧ (loadStage r s).srb.region = s.srb.region ∧
    (loadStage r s).srb.label = s.srb.label ∧ (loadStage r s).srb.reserve = s.srb.reserve := by
  unfold loadStage
  dsimp only
  (repeat' split) <;> simp_all

@[simp] theorem stageLost_rest (s : State) :
    (stageLost s).srb.keys = s.srb.keys ∧ (stageLost s).srb.region = s.srb.region ∧
    (stageLost s).srb.label = s.srb.label ∧ (stageLost s).srb.reserve = s.srb.reserve := by
  simp [stageLost]

@[simp] theorem loadStageHome_rest (s : State) :
    (loadStageHome s).srb.keys = s.srb.keys ∧ (loadStageHome s).srb.region = s.srb.region ∧
    (loadStageHome s).srb.label = s.srb.label ∧ (loadStageHome s).srb.reserve = s.srb.reserve := by
  unfold loadStageHome
  (repeat' split) <;> simp_all

@[simp] theorem finishStartup_rest (s : State) :
    (finishStartup s).mfc.header = s.mfc.header ∧ (finishStartup s).mfc.marker = s.mfc.marker ∧
    (finishStartup s).mfc.spares = s.mfc.spares ∧ (finishStartup s).mfc.flash = s.mfc.flash ∧
    (finishStartup s).mfc.wear = s.mfc.wear ∧ (finishStartup s).mfc.reads = s.mfc.reads ∧
    (finishStartup s).mfc.programs = s.mfc.programs := by
  simp [finishStartup]

@[simp] theorem stageLoad_frame (s : State) :
    (stageLoad s).cap = s.cap ∧ (stageLoad s).jobs = s.jobs ∧ (stageLoad s).tlc = s.tlc ∧
    (stageLoad s).homes = s.homes ∧ (stageLoad s).pcd = s.pcd ∧ (stageLoad s).pnp = s.pnp ∧
    (stageLoad s).fxl = s.fxl ∧ (stageLoad s).mct = s.mct ∧ (stageLoad s).config = s.config ∧
    (stageLoad s).inbox = s.inbox ∧ (stageLoad s).book = s.book ∧ (stageLoad s).pending = s.pending ∧
    (stageLoad s).mfc.header = s.mfc.header ∧ (stageLoad s).mfc.marker = s.mfc.marker ∧
    (stageLoad s).mfc.spares = s.mfc.spares ∧ (stageLoad s).mfc.flash = s.mfc.flash ∧
    (stageLoad s).mfc.wear = s.mfc.wear ∧ (stageLoad s).mfc.reads = s.mfc.reads ∧
    (stageLoad s).mfc.programs = s.mfc.programs ∧ (stageLoad s).srb.keys = s.srb.keys ∧
    (stageLoad s).srb.region = s.srb.region ∧ (stageLoad s).srb.label = s.srb.label ∧
    (stageLoad s).srb.reserve = s.srb.reserve := by
  unfold stageLoad
  (repeat' split) <;> simp_all

/-! ## Measurement capture -/

@[simp] theorem openCapture_frame (req : Request) (s : State) :
    (openCapture req s).boot = s.boot ∧ (openCapture req s).jobs = s.jobs ∧ (openCapture req s).tlc = s.tlc ∧
    (openCapture req s).mfc = s.mfc ∧ (openCapture req s).homes = s.homes ∧ (openCapture req s).pcd = s.pcd ∧
    (openCapture req s).srb = s.srb ∧ (openCapture req s).config = s.config ∧ (openCapture req s).inbox = s.inbox ∧
    (openCapture req s).book = s.book ∧ (openCapture req s).pending = s.pending := by
  unfold openCapture
  dsimp only
  (repeat' split) <;> simp_all

@[simp] theorem putRow_frame (req : Request) (s : State) :
    (putRow req s).boot = s.boot ∧ (putRow req s).jobs = s.jobs ∧ (putRow req s).tlc = s.tlc ∧
    (putRow req s).mfc = s.mfc ∧ (putRow req s).homes = s.homes ∧ (putRow req s).pcd = s.pcd ∧
    (putRow req s).srb = s.srb ∧ (putRow req s).config = s.config ∧ (putRow req s).inbox = s.inbox ∧
    (putRow req s).book = s.book ∧ (putRow req s).pending = s.pending := by
  unfold putRow
  dsimp only
  (repeat' split) <;> simp_all

@[simp] theorem discardCapture_frame (req : Request) (s : State) :
    (discardCapture req s).boot = s.boot ∧ (discardCapture req s).jobs = s.jobs ∧
    (discardCapture req s).tlc = s.tlc ∧ (discardCapture req s).mfc = s.mfc ∧
    (discardCapture req s).homes = s.homes ∧ (discardCapture req s).pcd = s.pcd ∧
    (discardCapture req s).srb = s.srb ∧ (discardCapture req s).config = s.config ∧
    (discardCapture req s).inbox = s.inbox ∧ (discardCapture req s).book = s.book ∧
    (discardCapture req s).pending = s.pending := by
  unfold discardCapture
  (repeat' split) <;> simp_all

@[simp] theorem captureState_frame (req : Request) (s : State) :
    (captureState req s).boot = s.boot ∧ (captureState req s).cap = s.cap ∧ (captureState req s).jobs = s.jobs ∧
    (captureState req s).tlc = s.tlc ∧ (captureState req s).mfc = s.mfc ∧ (captureState req s).homes = s.homes ∧
    (captureState req s).pcd = s.pcd ∧ (captureState req s).srb = s.srb ∧ (captureState req s).config = s.config ∧
    (captureState req s).inbox = s.inbox ∧ (captureState req s).book = s.book ∧
    (captureState req s).pending = s.pending := by
  unfold captureState
  (repeat' split) <;> simp_all

/-! ## Direct tile requests -/

@[simp] theorem readTile_frame (req : Request) (s : State) :
    (readTile req s).boot = s.boot ∧ (readTile req s).cap = s.cap ∧ (readTile req s).jobs = s.jobs ∧
    (readTile req s).mfc = s.mfc ∧ (readTile req s).homes = s.homes ∧ (readTile req s).pcd = s.pcd ∧
    (readTile req s).srb = s.srb ∧ (readTile req s).config = s.config ∧ (readTile req s).inbox = s.inbox ∧
    (readTile req s).book = s.book ∧ (readTile req s).pending = s.pending ∧ (readTile req s).tlc.sets = s.tlc.sets ∧
    (readTile req s).tlc.lock = s.tlc.lock ∧ (readTile req s).tlc.queue = s.tlc.queue ∧
    (readTile req s).tlc.fills = s.tlc.fills ∧ (readTile req s).tlc.panel = s.tlc.panel ∧
    (readTile req s).tlc.job = s.tlc.job ∧ (readTile req s).tlc.jobWait = s.tlc.jobWait ∧
    (readTile req s).tlc.drains = s.tlc.drains := by
  unfold readTile
  (repeat' split) <;> simp_all

@[simp] theorem readAccess_frame (o : AccessOp) (s : State) :
    (readAccess o s).boot = s.boot ∧ (readAccess o s).cap = s.cap ∧ (readAccess o s).jobs = s.jobs ∧
    (readAccess o s).homes = s.homes ∧ (readAccess o s).srb = s.srb ∧ (readAccess o s).config = s.config ∧
    (readAccess o s).inbox = s.inbox ∧ (readAccess o s).book = s.book ∧ (readAccess o s).pending = s.pending ∧
    (readAccess o s).tlc.lock = s.tlc.lock ∧ (readAccess o s).tlc.panel = s.tlc.panel ∧
    (readAccess o s).tlc.job = s.tlc.job ∧ (readAccess o s).tlc.drains = s.tlc.drains ∧
    (readAccess o s).mfc.marker = s.mfc.marker ∧ (readAccess o s).mfc.spares = s.mfc.spares ∧
    (readAccess o s).mfc.seq = s.mfc.seq ∧ (readAccess o s).mfc.flash = s.mfc.flash ∧
    (readAccess o s).mfc.wear = s.mfc.wear ∧ (readAccess o s).mfc.programs = s.mfc.programs := by
  unfold readAccess
  have frame := readTileAt_frame o.tile (grantOther s)
  have rest := readTileAt_rest o.tile (grantOther s)
  generalize readTileAt o.tile (grantOther s) = r at frame rest
  obtain ⟨u, outcome⟩ := r
  dsimp only at frame rest ⊢
  (repeat' split) <;> simp_all

@[simp] theorem readTileAccess_frame (s : State) :
    (readTileAccess s).boot = s.boot ∧ (readTileAccess s).cap = s.cap ∧ (readTileAccess s).jobs = s.jobs ∧
    (readTileAccess s).homes = s.homes ∧ (readTileAccess s).srb = s.srb ∧ (readTileAccess s).config = s.config ∧
    (readTileAccess s).inbox = s.inbox ∧ (readTileAccess s).book = s.book ∧ (readTileAccess s).pending = s.pending ∧
    (readTileAccess s).tlc.lock = s.tlc.lock ∧ (readTileAccess s).tlc.panel = s.tlc.panel ∧
    (readTileAccess s).tlc.job = s.tlc.job ∧ (readTileAccess s).tlc.drains = s.tlc.drains ∧
    (readTileAccess s).mfc.marker = s.mfc.marker ∧ (readTileAccess s).mfc.spares = s.mfc.spares ∧
    (readTileAccess s).mfc.seq = s.mfc.seq ∧ (readTileAccess s).mfc.flash = s.mfc.flash ∧
    (readTileAccess s).mfc.wear = s.mfc.wear ∧ (readTileAccess s).mfc.programs = s.mfc.programs := by
  unfold readTileAccess
  (repeat' split) <;> simp_all

@[simp] theorem writeTile_frame (req : Request) (s : State) :
    (writeTile req s).boot = s.boot ∧ (writeTile req s).cap = s.cap ∧ (writeTile req s).jobs = s.jobs ∧
    (writeTile req s).mfc = s.mfc ∧ (writeTile req s).homes = s.homes ∧ (writeTile req s).pcd = s.pcd ∧
    (writeTile req s).srb = s.srb ∧ (writeTile req s).config = s.config ∧ (writeTile req s).inbox = s.inbox ∧
    (writeTile req s).book = s.book ∧ (writeTile req s).pending = s.pending ∧
    (writeTile req s).tlc.sets = s.tlc.sets ∧ (writeTile req s).tlc.lock = s.tlc.lock ∧
    (writeTile req s).tlc.queue = s.tlc.queue ∧ (writeTile req s).tlc.fills = s.tlc.fills ∧
    (writeTile req s).tlc.panel = s.tlc.panel ∧ (writeTile req s).tlc.job = s.tlc.job ∧
    (writeTile req s).tlc.jobWait = s.tlc.jobWait ∧ (writeTile req s).tlc.drains = s.tlc.drains := by
  unfold writeTile
  (repeat' split) <;> simp_all

@[simp] theorem noteWrite_rest (s : State) :
    (noteWrite s).jobs.boxes = s.jobs.boxes ∧ (noteWrite s).jobs.seq = s.jobs.seq ∧
    (noteWrite s).mfc.marker = s.mfc.marker ∧ (noteWrite s).mfc.spares = s.mfc.spares ∧
    (noteWrite s).mfc.seq = s.mfc.seq ∧ (noteWrite s).mfc.flash = s.mfc.flash ∧ (noteWrite s).mfc.wear = s.mfc.wear ∧
    (noteWrite s).mfc.reads = s.mfc.reads ∧ (noteWrite s).mfc.programs = s.mfc.programs := by
  unfold noteWrite
  (repeat' split) <;> simp_all

@[simp] theorem writeAccess_frame (o : AccessOp) (v : TileValues) (clamped : Nat) (s : State) :
    (writeAccess o v clamped s).boot = s.boot ∧ (writeAccess o v clamped s).cap = s.cap ∧
    (writeAccess o v clamped s).homes = s.homes ∧ (writeAccess o v clamped s).srb = s.srb ∧
    (writeAccess o v clamped s).config = s.config ∧ (writeAccess o v clamped s).inbox = s.inbox ∧
    (writeAccess o v clamped s).book = s.book ∧ (writeAccess o v clamped s).pending = s.pending ∧
    (writeAccess o v clamped s).jobs.boxes = s.jobs.boxes ∧ (writeAccess o v clamped s).jobs.seq = s.jobs.seq ∧
    (writeAccess o v clamped s).tlc.lock = s.tlc.lock ∧ (writeAccess o v clamped s).tlc.fills = s.tlc.fills ∧
    (writeAccess o v clamped s).tlc.panel = s.tlc.panel ∧ (writeAccess o v clamped s).tlc.job = s.tlc.job ∧
    (writeAccess o v clamped s).tlc.drains = s.tlc.drains ∧ (writeAccess o v clamped s).mfc.marker = s.mfc.marker ∧
    (writeAccess o v clamped s).mfc.spares = s.mfc.spares ∧ (writeAccess o v clamped s).mfc.seq = s.mfc.seq ∧
    (writeAccess o v clamped s).mfc.flash = s.mfc.flash ∧ (writeAccess o v clamped s).mfc.wear = s.mfc.wear ∧
    (writeAccess o v clamped s).mfc.reads = s.mfc.reads ∧
    (writeAccess o v clamped s).mfc.programs = s.mfc.programs := by
  unfold writeAccess
  dsimp only
  have frame := writeTileAt_frame o.tile v (grantOther s)
  have rest := writeTileAt_rest o.tile v (grantOther s)
  generalize writeTileAt o.tile v (grantOther s) = r at frame rest
  obtain ⟨u, outcome⟩ := r
  dsimp only at frame rest ⊢
  (repeat' split) <;> simp_all

@[simp] theorem writeTileAccess_frame (s : State) :
    (writeTileAccess s).boot = s.boot ∧ (writeTileAccess s).cap = s.cap ∧ (writeTileAccess s).homes = s.homes ∧
    (writeTileAccess s).srb = s.srb ∧ (writeTileAccess s).config = s.config ∧ (writeTileAccess s).inbox = s.inbox ∧
    (writeTileAccess s).book = s.book ∧ (writeTileAccess s).pending = s.pending ∧
    (writeTileAccess s).jobs.boxes = s.jobs.boxes ∧ (writeTileAccess s).jobs.seq = s.jobs.seq ∧
    (writeTileAccess s).tlc.lock = s.tlc.lock ∧ (writeTileAccess s).tlc.fills = s.tlc.fills ∧
    (writeTileAccess s).tlc.panel = s.tlc.panel ∧ (writeTileAccess s).tlc.job = s.tlc.job ∧
    (writeTileAccess s).tlc.drains = s.tlc.drains ∧ (writeTileAccess s).mfc.marker = s.mfc.marker ∧
    (writeTileAccess s).mfc.spares = s.mfc.spares ∧ (writeTileAccess s).mfc.seq = s.mfc.seq ∧
    (writeTileAccess s).mfc.flash = s.mfc.flash ∧ (writeTileAccess s).mfc.wear = s.mfc.wear ∧
    (writeTileAccess s).mfc.reads = s.mfc.reads ∧ (writeTileAccess s).mfc.programs = s.mfc.programs := by
  unfold writeTileAccess
  (repeat' split) <;> simp_all

@[simp] theorem installFill_rest (t : TileNo) (w : Fin 8) (r : FillResult) (s : State) :
    (installFill t w r s).tlc.lock = s.tlc.lock ∧ (installFill t w r s).tlc.queue = s.tlc.queue ∧
    (installFill t w r s).tlc.fills = s.tlc.fills ∧ (installFill t w r s).tlc.panel = s.tlc.panel ∧
    (installFill t w r s).tlc.access = s.tlc.access ∧ (installFill t w r s).tlc.job = s.tlc.job ∧
    (installFill t w r s).tlc.jobWait = s.tlc.jobWait ∧ (installFill t w r s).tlc.drains = s.tlc.drains ∧
    (installFill t w r s).mfc.marker = s.mfc.marker ∧ (installFill t w r s).mfc.spares = s.mfc.spares ∧
    (installFill t w r s).mfc.seq = s.mfc.seq ∧ (installFill t w r s).mfc.flash = s.mfc.flash ∧
    (installFill t w r s).mfc.wear = s.mfc.wear ∧ (installFill t w r s).mfc.reads = s.mfc.reads ∧
    (installFill t w r s).mfc.programs = s.mfc.programs := by
  unfold installFill
  (repeat' split) <;> simp_all

@[simp] theorem installHead_rest (f : Fill) (rest : List Fill) (s : State) :
    (installHead f rest s).tlc.lock = s.tlc.lock ∧ (installHead f rest s).tlc.queue = s.tlc.queue ∧
    (installHead f rest s).tlc.drains = s.tlc.drains ∧ (installHead f rest s).mfc.marker = s.mfc.marker ∧
    (installHead f rest s).mfc.spares = s.mfc.spares ∧ (installHead f rest s).mfc.seq = s.mfc.seq ∧
    (installHead f rest s).mfc.flash = s.mfc.flash ∧ (installHead f rest s).mfc.wear = s.mfc.wear ∧
    (installHead f rest s).mfc.reads = s.mfc.reads ∧ (installHead f rest s).mfc.programs = s.mfc.programs := by
  unfold installHead
  dsimp only
  (repeat' split) <;> simp_all

@[simp] theorem fillInstall_frame (s : State) :
    (fillInstall s).boot = s.boot ∧ (fillInstall s).cap = s.cap ∧ (fillInstall s).jobs = s.jobs ∧
    (fillInstall s).homes = s.homes ∧ (fillInstall s).pnp = s.pnp ∧ (fillInstall s).srb = s.srb ∧
    (fillInstall s).fxl = s.fxl ∧ (fillInstall s).mct = s.mct ∧ (fillInstall s).config = s.config ∧
    (fillInstall s).inbox = s.inbox ∧ (fillInstall s).book = s.book ∧ (fillInstall s).pending = s.pending ∧
    (fillInstall s).tlc.lock = s.tlc.lock ∧ (fillInstall s).tlc.queue = s.tlc.queue ∧
    (fillInstall s).tlc.drains = s.tlc.drains ∧ (fillInstall s).mfc.marker = s.mfc.marker ∧
    (fillInstall s).mfc.spares = s.mfc.spares ∧ (fillInstall s).mfc.seq = s.mfc.seq ∧
    (fillInstall s).mfc.flash = s.mfc.flash ∧ (fillInstall s).mfc.wear = s.mfc.wear ∧
    (fillInstall s).mfc.reads = s.mfc.reads ∧ (fillInstall s).mfc.programs = s.mfc.programs := by
  unfold fillInstall
  (repeat' split) <;> simp_all

@[simp] theorem lockWays_frame (req : Request) (s : State) :
    (lockWays req s).boot = s.boot ∧ (lockWays req s).cap = s.cap ∧ (lockWays req s).jobs = s.jobs ∧
    (lockWays req s).mfc = s.mfc ∧ (lockWays req s).homes = s.homes ∧ (lockWays req s).pcd = s.pcd ∧
    (lockWays req s).srb = s.srb ∧ (lockWays req s).config = s.config ∧ (lockWays req s).inbox = s.inbox ∧
    (lockWays req s).book = s.book ∧ (lockWays req s).pending = s.pending ∧ (lockWays req s).tlc.sets = s.tlc.sets ∧
    (lockWays req s).tlc.queue = s.tlc.queue ∧ (lockWays req s).tlc.fills = s.tlc.fills ∧
    (lockWays req s).tlc.jobWait = s.tlc.jobWait ∧ (lockWays req s).tlc.drains = s.tlc.drains := by
  unfold lockWays
  dsimp only
  (repeat' split) <;> simp_all

@[simp] theorem drain_frame (req : Request) (s : State) :
    (drain req s).boot = s.boot ∧ (drain req s).cap = s.cap ∧ (drain req s).jobs = s.jobs ∧
    (drain req s).mfc = s.mfc ∧ (drain req s).homes = s.homes ∧ (drain req s).pcd = s.pcd ∧
    (drain req s).srb = s.srb ∧ (drain req s).config = s.config ∧ (drain req s).inbox = s.inbox ∧
    (drain req s).book = s.book ∧ (drain req s).pending = s.pending ∧ (drain req s).tlc.sets = s.tlc.sets ∧
    (drain req s).tlc.lock = s.tlc.lock ∧ (drain req s).tlc.queue = s.tlc.queue ∧
    (drain req s).tlc.fills = s.tlc.fills ∧ (drain req s).tlc.panel = s.tlc.panel ∧
    (drain req s).tlc.access = s.tlc.access ∧ (drain req s).tlc.job = s.tlc.job ∧
    (drain req s).tlc.jobWait = s.tlc.jobWait := by
  unfold drain
  (repeat' split) <;> simp_all

@[simp] theorem drainReply_frame (s : State) :
    (drainReply s).boot = s.boot ∧ (drainReply s).cap = s.cap ∧ (drainReply s).jobs = s.jobs ∧
    (drainReply s).mfc = s.mfc ∧ (drainReply s).homes = s.homes ∧ (drainReply s).pcd = s.pcd ∧
    (drainReply s).srb = s.srb ∧ (drainReply s).config = s.config ∧ (drainReply s).inbox = s.inbox ∧
    (drainReply s).book = s.book ∧ (drainReply s).pending = s.pending ∧ (drainReply s).tlc.sets = s.tlc.sets ∧
    (drainReply s).tlc.lock = s.tlc.lock ∧ (drainReply s).tlc.queue = s.tlc.queue ∧
    (drainReply s).tlc.fills = s.tlc.fills ∧ (drainReply s).tlc.panel = s.tlc.panel ∧
    (drainReply s).tlc.access = s.tlc.access ∧ (drainReply s).tlc.job = s.tlc.job ∧
    (drainReply s).tlc.jobWait = s.tlc.jobWait := by
  unfold drainReply
  (repeat' split) <;> simp_all

@[simp] theorem storageFault_frame (place : FaultPlace) (changes : List (Fin 32 × Int)) (s : State) :
    (storageFault place changes s).boot = s.boot ∧ (storageFault place changes s).cap = s.cap ∧
    (storageFault place changes s).jobs = s.jobs ∧ (storageFault place changes s).mfc = s.mfc ∧
    (storageFault place changes s).homes = s.homes ∧ (storageFault place changes s).pcd = s.pcd ∧
    (storageFault place changes s).pnp = s.pnp ∧ (storageFault place changes s).srb = s.srb ∧
    (storageFault place changes s).fxl = s.fxl ∧ (storageFault place changes s).syp = s.syp ∧
    (storageFault place changes s).mct = s.mct ∧ (storageFault place changes s).config = s.config ∧
    (storageFault place changes s).inbox = s.inbox ∧ (storageFault place changes s).book = s.book ∧
    (storageFault place changes s).pending = s.pending ∧ (storageFault place changes s).tlc.lock = s.tlc.lock ∧
    (storageFault place changes s).tlc.fills = s.tlc.fills ∧ (storageFault place changes s).tlc.panel = s.tlc.panel ∧
    (storageFault place changes s).tlc.access = s.tlc.access ∧ (storageFault place changes s).tlc.job = s.tlc.job ∧
    (storageFault place changes s).tlc.jobWait = s.tlc.jobWait ∧
    (storageFault place changes s).tlc.drains = s.tlc.drains := by
  unfold storageFault
  (repeat' split) <;> simp_all

/-! ## Commits -/

@[simp] theorem beginSweep_frame (b : Fin 16) (w : CommitWork) (s : State) :
    (beginSweep b w s).boot = s.boot ∧ (beginSweep b w s).cap = s.cap ∧ (beginSweep b w s).mfc = s.mfc ∧
    (beginSweep b w s).homes = s.homes ∧ (beginSweep b w s).pcd = s.pcd ∧ (beginSweep b w s).pnp = s.pnp ∧
    (beginSweep b w s).srb = s.srb ∧ (beginSweep b w s).fxl = s.fxl ∧ (beginSweep b w s).syp = s.syp ∧
    (beginSweep b w s).mct = s.mct ∧ (beginSweep b w s).config = s.config ∧ (beginSweep b w s).inbox = s.inbox ∧
    (beginSweep b w s).book = s.book ∧ (beginSweep b w s).pending = s.pending ∧
    (beginSweep b w s).jobs.boxes = s.jobs.boxes ∧ (beginSweep b w s).jobs.seq = s.jobs.seq ∧
    (beginSweep b w s).tlc.sets = s.tlc.sets ∧ (beginSweep b w s).tlc.lock = s.tlc.lock ∧
    (beginSweep b w s).tlc.queue = s.tlc.queue ∧ (beginSweep b w s).tlc.fills = s.tlc.fills ∧
    (beginSweep b w s).tlc.panel = s.tlc.panel ∧ (beginSweep b w s).tlc.access = s.tlc.access ∧
    (beginSweep b w s).tlc.drains = s.tlc.drains := by
  simp [beginSweep]

@[simp] theorem recordHeaderCheck_frame (s : State) :
    (recordHeaderCheck s).boot = s.boot ∧ (recordHeaderCheck s).cap = s.cap ∧ (recordHeaderCheck s).mfc = s.mfc ∧
    (recordHeaderCheck s).homes = s.homes ∧ (recordHeaderCheck s).pcd = s.pcd ∧ (recordHeaderCheck s).pnp = s.pnp ∧
    (recordHeaderCheck s).srb = s.srb ∧ (recordHeaderCheck s).fxl = s.fxl ∧ (recordHeaderCheck s).syp = s.syp ∧
    (recordHeaderCheck s).mct = s.mct ∧ (recordHeaderCheck s).config = s.config ∧
    (recordHeaderCheck s).inbox = s.inbox ∧ (recordHeaderCheck s).book = s.book ∧
    (recordHeaderCheck s).pending = s.pending ∧ (recordHeaderCheck s).jobs.boxes = s.jobs.boxes ∧
    (recordHeaderCheck s).jobs.seq = s.jobs.seq ∧ (recordHeaderCheck s).tlc.sets = s.tlc.sets ∧
    (recordHeaderCheck s).tlc.lock = s.tlc.lock ∧ (recordHeaderCheck s).tlc.queue = s.tlc.queue ∧
    (recordHeaderCheck s).tlc.fills = s.tlc.fills ∧ (recordHeaderCheck s).tlc.panel = s.tlc.panel ∧
    (recordHeaderCheck s).tlc.access = s.tlc.access ∧ (recordHeaderCheck s).tlc.drains = s.tlc.drains := by
  unfold recordHeaderCheck
  (repeat' split) <;> simp_all

@[simp] theorem headerCheckReadComplete_frame (s : State) :
    (headerCheckReadComplete s).boot = s.boot ∧ (headerCheckReadComplete s).cap = s.cap ∧
    (headerCheckReadComplete s).homes = s.homes ∧ (headerCheckReadComplete s).pcd = s.pcd ∧
    (headerCheckReadComplete s).pnp = s.pnp ∧ (headerCheckReadComplete s).srb = s.srb ∧
    (headerCheckReadComplete s).fxl = s.fxl ∧ (headerCheckReadComplete s).syp = s.syp ∧
    (headerCheckReadComplete s).mct = s.mct ∧ (headerCheckReadComplete s).config = s.config ∧
    (headerCheckReadComplete s).inbox = s.inbox ∧ (headerCheckReadComplete s).book = s.book ∧
    (headerCheckReadComplete s).pending = s.pending ∧ (headerCheckReadComplete s).jobs.boxes = s.jobs.boxes ∧
    (headerCheckReadComplete s).jobs.seq = s.jobs.seq ∧ (headerCheckReadComplete s).tlc.sets = s.tlc.sets ∧
    (headerCheckReadComplete s).tlc.lock = s.tlc.lock ∧ (headerCheckReadComplete s).tlc.queue = s.tlc.queue ∧
    (headerCheckReadComplete s).tlc.fills = s.tlc.fills ∧ (headerCheckReadComplete s).tlc.panel = s.tlc.panel ∧
    (headerCheckReadComplete s).tlc.access = s.tlc.access ∧ (headerCheckReadComplete s).tlc.drains = s.tlc.drains ∧
    (headerCheckReadComplete s).mfc.header = s.mfc.header ∧ (headerCheckReadComplete s).mfc.marker = s.mfc.marker ∧
    (headerCheckReadComplete s).mfc.spares = s.mfc.spares ∧ (headerCheckReadComplete s).mfc.seq = s.mfc.seq ∧
    (headerCheckReadComplete s).mfc.wear = s.mfc.wear ∧ (headerCheckReadComplete s).mfc.reads = s.mfc.reads ∧
    (headerCheckReadComplete s).mfc.programs = s.mfc.programs := by
  unfold headerCheckReadComplete
  (repeat' split) <;> simp_all

@[simp] theorem nextCopyOut_frame (b : Fin 16) (w : CommitWork) (t : TileNo) (s : State) :
    (nextCopyOut b w t s).boot = s.boot ∧ (nextCopyOut b w t s).cap = s.cap ∧ (nextCopyOut b w t s).mfc = s.mfc ∧
    (nextCopyOut b w t s).homes = s.homes ∧ (nextCopyOut b w t s).pcd = s.pcd ∧ (nextCopyOut b w t s).pnp = s.pnp ∧
    (nextCopyOut b w t s).srb = s.srb ∧ (nextCopyOut b w t s).fxl = s.fxl ∧ (nextCopyOut b w t s).syp = s.syp ∧
    (nextCopyOut b w t s).mct = s.mct ∧ (nextCopyOut b w t s).config = s.config ∧
    (nextCopyOut b w t s).inbox = s.inbox ∧ (nextCopyOut b w t s).book = s.book ∧
    (nextCopyOut b w t s).pending = s.pending ∧ (nextCopyOut b w t s).jobs.boxes = s.jobs.boxes ∧
    (nextCopyOut b w t s).jobs.seq = s.jobs.seq ∧ (nextCopyOut b w t s).tlc.sets = s.tlc.sets ∧
    (nextCopyOut b w t s).tlc.lock = s.tlc.lock ∧ (nextCopyOut b w t s).tlc.queue = s.tlc.queue ∧
    (nextCopyOut b w t s).tlc.fills = s.tlc.fills ∧ (nextCopyOut b w t s).tlc.panel = s.tlc.panel ∧
    (nextCopyOut b w t s).tlc.access = s.tlc.access ∧ (nextCopyOut b w t s).tlc.drains = s.tlc.drains := by
  unfold nextCopyOut
  (repeat' split) <;> simp_all

@[simp] theorem copyOut_frame (b : Fin 16) (t : TileNo) (way : Fin 8) (v : TileValues) (c : CheckCode) (s : State) :
    (copyOut b t way v c s).boot = s.boot ∧ (copyOut b t way v c s).cap = s.cap ∧
    (copyOut b t way v c s).mfc = s.mfc ∧ (copyOut b t way v c s).homes = s.homes ∧
    (copyOut b t way v c s).pcd = s.pcd ∧ (copyOut b t way v c s).pnp = s.pnp ∧ (copyOut b t way v c s).srb = s.srb ∧
    (copyOut b t way v c s).fxl = s.fxl ∧ (copyOut b t way v c s).syp = s.syp ∧ (copyOut b t way v c s).mct = s.mct ∧
    (copyOut b t way v c s).config = s.config ∧ (copyOut b t way v c s).inbox = s.inbox ∧
    (copyOut b t way v c s).book = s.book ∧ (copyOut b t way v c s).pending = s.pending ∧
    (copyOut b t way v c s).jobs.seq = s.jobs.seq ∧ (copyOut b t way v c s).jobs.running = s.jobs.running ∧
    (copyOut b t way v c s).tlc.lock = s.tlc.lock ∧ (copyOut b t way v c s).tlc.fills = s.tlc.fills ∧
    (copyOut b t way v c s).tlc.panel = s.tlc.panel ∧ (copyOut b t way v c s).tlc.access = s.tlc.access ∧
    (copyOut b t way v c s).tlc.job = s.tlc.job ∧ (copyOut b t way v c s).tlc.jobWait = s.tlc.jobWait ∧
    (copyOut b t way v c s).tlc.drains = s.tlc.drains := by
  simp [copyOut]

@[simp] theorem copyOutDirty_frame (b : Fin 16) (w : CommitWork) (t : TileNo) (way : Fin 8) (v : TileValues) (c : CheckCode) (s : State) :
    (copyOutDirty b w t way v c s).boot = s.boot ∧ (copyOutDirty b w t way v c s).cap = s.cap ∧
    (copyOutDirty b w t way v c s).homes = s.homes ∧ (copyOutDirty b w t way v c s).pcd = s.pcd ∧
    (copyOutDirty b w t way v c s).pnp = s.pnp ∧ (copyOutDirty b w t way v c s).srb = s.srb ∧
    (copyOutDirty b w t way v c s).fxl = s.fxl ∧ (copyOutDirty b w t way v c s).mct = s.mct ∧
    (copyOutDirty b w t way v c s).config = s.config ∧ (copyOutDirty b w t way v c s).inbox = s.inbox ∧
    (copyOutDirty b w t way v c s).book = s.book ∧ (copyOutDirty b w t way v c s).pending = s.pending ∧
    (copyOutDirty b w t way v c s).jobs.seq = s.jobs.seq ∧ (copyOutDirty b w t way v c s).tlc.lock = s.tlc.lock ∧
    (copyOutDirty b w t way v c s).tlc.fills = s.tlc.fills ∧ (copyOutDirty b w t way v c s).tlc.panel = s.tlc.panel ∧
    (copyOutDirty b w t way v c s).tlc.access = s.tlc.access ∧
    (copyOutDirty b w t way v c s).tlc.drains = s.tlc.drains ∧
    (copyOutDirty b w t way v c s).mfc.marker = s.mfc.marker ∧
    (copyOutDirty b w t way v c s).mfc.spares = s.mfc.spares ∧ (copyOutDirty b w t way v c s).mfc.seq = s.mfc.seq ∧
    (copyOutDirty b w t way v c s).mfc.flash = s.mfc.flash ∧ (copyOutDirty b w t way v c s).mfc.wear = s.mfc.wear ∧
    (copyOutDirty b w t way v c s).mfc.reads = s.mfc.reads ∧
    (copyOutDirty b w t way v c s).mfc.programs = s.mfc.programs := by
  unfold copyOutDirty
  (repeat' split) <;> simp_all

@[simp] theorem copyOutTile_frame (b : Fin 16) (w : CommitWork) (t : TileNo) (s : State) :
    (copyOutTile b w t s).boot = s.boot ∧ (copyOutTile b w t s).cap = s.cap ∧ (copyOutTile b w t s).homes = s.homes ∧
    (copyOutTile b w t s).pcd = s.pcd ∧ (copyOutTile b w t s).pnp = s.pnp ∧ (copyOutTile b w t s).srb = s.srb ∧
    (copyOutTile b w t s).fxl = s.fxl ∧ (copyOutTile b w t s).mct = s.mct ∧ (copyOutTile b w t s).config = s.config ∧
    (copyOutTile b w t s).inbox = s.inbox ∧ (copyOutTile b w t s).book = s.book ∧
    (copyOutTile b w t s).pending = s.pending ∧ (copyOutTile b w t s).jobs.seq = s.jobs.seq ∧
    (copyOutTile b w t s).tlc.lock = s.tlc.lock ∧ (copyOutTile b w t s).tlc.fills = s.tlc.fills ∧
    (copyOutTile b w t s).tlc.panel = s.tlc.panel ∧ (copyOutTile b w t s).tlc.access = s.tlc.access ∧
    (copyOutTile b w t s).tlc.drains = s.tlc.drains ∧ (copyOutTile b w t s).mfc.marker = s.mfc.marker ∧
    (copyOutTile b w t s).mfc.spares = s.mfc.spares ∧ (copyOutTile b w t s).mfc.seq = s.mfc.seq ∧
    (copyOutTile b w t s).mfc.flash = s.mfc.flash ∧ (copyOutTile b w t s).mfc.wear = s.mfc.wear ∧
    (copyOutTile b w t s).mfc.reads = s.mfc.reads ∧ (copyOutTile b w t s).mfc.programs = s.mfc.programs := by
  unfold copyOutTile
  (repeat' split) <;> simp_all

@[simp] theorem commitCopyOut_frame (s : State) :
    (commitCopyOut s).boot = s.boot ∧ (commitCopyOut s).cap = s.cap ∧ (commitCopyOut s).homes = s.homes ∧
    (commitCopyOut s).pcd = s.pcd ∧ (commitCopyOut s).pnp = s.pnp ∧ (commitCopyOut s).srb = s.srb ∧
    (commitCopyOut s).fxl = s.fxl ∧ (commitCopyOut s).mct = s.mct ∧ (commitCopyOut s).config = s.config ∧
    (commitCopyOut s).inbox = s.inbox ∧ (commitCopyOut s).book = s.book ∧ (commitCopyOut s).pending = s.pending ∧
    (commitCopyOut s).jobs.seq = s.jobs.seq ∧ (commitCopyOut s).tlc.lock = s.tlc.lock ∧
    (commitCopyOut s).tlc.fills = s.tlc.fills ∧ (commitCopyOut s).tlc.panel = s.tlc.panel ∧
    (commitCopyOut s).tlc.access = s.tlc.access ∧ (commitCopyOut s).tlc.drains = s.tlc.drains ∧
    (commitCopyOut s).mfc.marker = s.mfc.marker ∧ (commitCopyOut s).mfc.spares = s.mfc.spares ∧
    (commitCopyOut s).mfc.seq = s.mfc.seq ∧ (commitCopyOut s).mfc.flash = s.mfc.flash ∧
    (commitCopyOut s).mfc.wear = s.mfc.wear ∧ (commitCopyOut s).mfc.reads = s.mfc.reads ∧
    (commitCopyOut s).mfc.programs = s.mfc.programs := by
  unfold commitCopyOut
  (repeat' split) <;> simp_all

@[simp] theorem endDrain_frame (b : Fin 16) (w : CommitWork) (s : State) :
    (endDrain b w s).boot = s.boot ∧ (endDrain b w s).cap = s.cap ∧ (endDrain b w s).homes = s.homes ∧
    (endDrain b w s).pcd = s.pcd ∧ (endDrain b w s).pnp = s.pnp ∧ (endDrain b w s).srb = s.srb ∧
    (endDrain b w s).fxl = s.fxl ∧ (endDrain b w s).mct = s.mct ∧ (endDrain b w s).config = s.config ∧
    (endDrain b w s).inbox = s.inbox ∧ (endDrain b w s).book = s.book ∧ (endDrain b w s).pending = s.pending ∧
    (endDrain b w s).jobs.seq = s.jobs.seq ∧ (endDrain b w s).tlc.sets = s.tlc.sets ∧
    (endDrain b w s).tlc.lock = s.tlc.lock ∧ (endDrain b w s).tlc.queue = s.tlc.queue ∧
    (endDrain b w s).tlc.fills = s.tlc.fills ∧ (endDrain b w s).tlc.panel = s.tlc.panel ∧
    (endDrain b w s).tlc.access = s.tlc.access ∧ (endDrain b w s).tlc.drains = s.tlc.drains ∧
    (endDrain b w s).mfc.marker = s.mfc.marker ∧ (endDrain b w s).mfc.spares = s.mfc.spares ∧
    (endDrain b w s).mfc.seq = s.mfc.seq ∧ (endDrain b w s).mfc.flash = s.mfc.flash ∧
    (endDrain b w s).mfc.wear = s.mfc.wear ∧ (endDrain b w s).mfc.reads = s.mfc.reads := by
  unfold endDrain
  (repeat' split) <;> simp_all

@[simp] theorem commitDrainDone_frame (s : State) :
    (commitDrainDone s).boot = s.boot ∧ (commitDrainDone s).cap = s.cap ∧ (commitDrainDone s).homes = s.homes ∧
    (commitDrainDone s).pcd = s.pcd ∧ (commitDrainDone s).pnp = s.pnp ∧ (commitDrainDone s).srb = s.srb ∧
    (commitDrainDone s).fxl = s.fxl ∧ (commitDrainDone s).mct = s.mct ∧ (commitDrainDone s).config = s.config ∧
    (commitDrainDone s).inbox = s.inbox ∧ (commitDrainDone s).book = s.book ∧
    (commitDrainDone s).pending = s.pending ∧ (commitDrainDone s).jobs.seq = s.jobs.seq ∧
    (commitDrainDone s).tlc.sets = s.tlc.sets ∧ (commitDrainDone s).tlc.lock = s.tlc.lock ∧
    (commitDrainDone s).tlc.queue = s.tlc.queue ∧ (commitDrainDone s).tlc.fills = s.tlc.fills ∧
    (commitDrainDone s).tlc.panel = s.tlc.panel ∧ (commitDrainDone s).tlc.access = s.tlc.access ∧
    (commitDrainDone s).tlc.drains = s.tlc.drains ∧ (commitDrainDone s).mfc.marker = s.mfc.marker ∧
    (commitDrainDone s).mfc.spares = s.mfc.spares ∧ (commitDrainDone s).mfc.seq = s.mfc.seq ∧
    (commitDrainDone s).mfc.flash = s.mfc.flash ∧ (commitDrainDone s).mfc.wear = s.mfc.wear ∧
    (commitDrainDone s).mfc.reads = s.mfc.reads := by
  unfold commitDrainDone
  (repeat' split) <;> simp_all

@[simp] theorem headerVerified_frame (b : Fin 16) (w : CommitWork) (h : HeaderRecord) (s : State) :
    (headerVerified b w h s).boot = s.boot ∧ (headerVerified b w h s).cap = s.cap ∧
    (headerVerified b w h s).homes = s.homes ∧ (headerVerified b w h s).pcd = s.pcd ∧
    (headerVerified b w h s).pnp = s.pnp ∧ (headerVerified b w h s).srb = s.srb ∧
    (headerVerified b w h s).fxl = s.fxl ∧ (headerVerified b w h s).mct = s.mct ∧
    (headerVerified b w h s).config = s.config ∧ (headerVerified b w h s).inbox = s.inbox ∧
    (headerVerified b w h s).book = s.book ∧ (headerVerified b w h s).pending = s.pending ∧
    (headerVerified b w h s).jobs.seq = s.jobs.seq ∧ (headerVerified b w h s).tlc.sets = s.tlc.sets ∧
    (headerVerified b w h s).tlc.lock = s.tlc.lock ∧ (headerVerified b w h s).tlc.queue = s.tlc.queue ∧
    (headerVerified b w h s).tlc.fills = s.tlc.fills ∧ (headerVerified b w h s).tlc.panel = s.tlc.panel ∧
    (headerVerified b w h s).tlc.access = s.tlc.access ∧ (headerVerified b w h s).tlc.drains = s.tlc.drains ∧
    (headerVerified b w h s).mfc.marker = s.mfc.marker ∧ (headerVerified b w h s).mfc.spares = s.mfc.spares ∧
    (headerVerified b w h s).mfc.seq = s.mfc.seq ∧ (headerVerified b w h s).mfc.flash = s.mfc.flash ∧
    (headerVerified b w h s).mfc.wear = s.mfc.wear ∧ (headerVerified b w h s).mfc.reads = s.mfc.reads ∧
    (headerVerified b w h s).mfc.programs = s.mfc.programs := by
  simp [headerVerified]

@[simp] theorem commitHeaderComplete_frame (verified : Bool) (s : State) :
    (commitHeaderComplete verified s).boot = s.boot ∧ (commitHeaderComplete verified s).cap = s.cap ∧
    (commitHeaderComplete verified s).pcd = s.pcd ∧ (commitHeaderComplete verified s).pnp = s.pnp ∧
    (commitHeaderComplete verified s).srb = s.srb ∧ (commitHeaderComplete verified s).fxl = s.fxl ∧
    (commitHeaderComplete verified s).mct = s.mct ∧ (commitHeaderComplete verified s).config = s.config ∧
    (commitHeaderComplete verified s).inbox = s.inbox ∧ (commitHeaderComplete verified s).book = s.book ∧
    (commitHeaderComplete verified s).pending = s.pending ∧ (commitHeaderComplete verified s).jobs.seq = s.jobs.seq ∧
    (commitHeaderComplete verified s).tlc.sets = s.tlc.sets ∧
    (commitHeaderComplete verified s).tlc.lock = s.tlc.lock ∧
    (commitHeaderComplete verified s).tlc.queue = s.tlc.queue ∧
    (commitHeaderComplete verified s).tlc.fills = s.tlc.fills ∧
    (commitHeaderComplete verified s).tlc.panel = s.tlc.panel ∧
    (commitHeaderComplete verified s).tlc.access = s.tlc.access ∧
    (commitHeaderComplete verified s).mfc.spares = s.mfc.spares ∧
    (commitHeaderComplete verified s).mfc.seq = s.mfc.seq ∧ (commitHeaderComplete verified s).mfc.wear = s.mfc.wear ∧
    (commitHeaderComplete verified s).mfc.reads = s.mfc.reads ∧
    (commitHeaderComplete verified s).mfc.programs = s.mfc.programs ∧
    (commitHeaderComplete verified s).homes.tile = s.homes.tile ∧
    (commitHeaderComplete verified s).homes.spare = s.homes.spare ∧
    (commitHeaderComplete verified s).homes.config = s.homes.config ∧
    (commitHeaderComplete verified s).homes.key = s.homes.key ∧
    (commitHeaderComplete verified s).homes.region = s.homes.region ∧
    (commitHeaderComplete verified s).homes.label = s.homes.label ∧
    (commitHeaderComplete verified s).homes.stage = s.homes.stage := by
  unfold commitHeaderComplete
  dsimp only
  (repeat' split) <;> simp_all

/-! ## The map flash -/

@[simp] theorem grantRead_frame (r : FlashRead) (s : State) :
    (grantRead r s).boot = s.boot ∧ (grantRead r s).cap = s.cap ∧ (grantRead r s).jobs = s.jobs ∧
    (grantRead r s).tlc = s.tlc ∧ (grantRead r s).homes = s.homes ∧ (grantRead r s).pcd = s.pcd ∧
    (grantRead r s).pnp = s.pnp ∧ (grantRead r s).srb = s.srb ∧ (grantRead r s).fxl = s.fxl ∧
    (grantRead r s).syp = s.syp ∧ (grantRead r s).mct = s.mct ∧ (grantRead r s).config = s.config ∧
    (grantRead r s).inbox = s.inbox ∧ (grantRead r s).book = s.book ∧ (grantRead r s).pending = s.pending ∧
    (grantRead r s).mfc.header = s.mfc.header ∧ (grantRead r s).mfc.marker = s.mfc.marker ∧
    (grantRead r s).mfc.spares = s.mfc.spares ∧ (grantRead r s).mfc.seq = s.mfc.seq ∧
    (grantRead r s).mfc.wear = s.mfc.wear ∧ (grantRead r s).mfc.reads = s.mfc.reads ∧
    (grantRead r s).mfc.programs = s.mfc.programs := by
  unfold grantRead
  (repeat' split) <;> simp_all

@[simp] theorem grantRecord_frame (p : RecordProgram) (s : State) :
    (grantRecord p s).boot = s.boot ∧ (grantRecord p s).cap = s.cap ∧ (grantRecord p s).jobs = s.jobs ∧
    (grantRecord p s).tlc = s.tlc ∧ (grantRecord p s).homes = s.homes ∧ (grantRecord p s).pcd = s.pcd ∧
    (grantRecord p s).pnp = s.pnp ∧ (grantRecord p s).srb = s.srb ∧ (grantRecord p s).fxl = s.fxl ∧
    (grantRecord p s).syp = s.syp ∧ (grantRecord p s).mct = s.mct ∧ (grantRecord p s).config = s.config ∧
    (grantRecord p s).inbox = s.inbox ∧ (grantRecord p s).book = s.book ∧ (grantRecord p s).pending = s.pending ∧
    (grantRecord p s).mfc.header = s.mfc.header ∧ (grantRecord p s).mfc.marker = s.mfc.marker ∧
    (grantRecord p s).mfc.spares = s.mfc.spares ∧ (grantRecord p s).mfc.wear = s.mfc.wear ∧
    (grantRecord p s).mfc.reads = s.mfc.reads ∧ (grantRecord p s).mfc.programs = s.mfc.programs := by
  unfold grantRecord
  (repeat' split) <;> simp_all

@[simp] theorem grantTile_frame (c : TileCopy) (s : State) :
    (grantTile c s).boot = s.boot ∧ (grantTile c s).cap = s.cap ∧ (grantTile c s).jobs = s.jobs ∧
    (grantTile c s).tlc = s.tlc ∧ (grantTile c s).homes = s.homes ∧ (grantTile c s).pcd = s.pcd ∧
    (grantTile c s).pnp = s.pnp ∧ (grantTile c s).srb = s.srb ∧ (grantTile c s).fxl = s.fxl ∧
    (grantTile c s).syp = s.syp ∧ (grantTile c s).mct = s.mct ∧ (grantTile c s).config = s.config ∧
    (grantTile c s).inbox = s.inbox ∧ (grantTile c s).book = s.book ∧ (grantTile c s).pending = s.pending ∧
    (grantTile c s).mfc.header = s.mfc.header ∧ (grantTile c s).mfc.marker = s.mfc.marker ∧
    (grantTile c s).mfc.spares = s.mfc.spares ∧ (grantTile c s).mfc.wear = s.mfc.wear ∧
    (grantTile c s).mfc.reads = s.mfc.reads ∧ (grantTile c s).mfc.programs = s.mfc.programs := by
  unfold grantTile
  (repeat' split) <;> simp_all

@[simp] theorem flashGrant_frame (s : State) :
    (flashGrant s).boot = s.boot ∧ (flashGrant s).cap = s.cap ∧ (flashGrant s).jobs = s.jobs ∧
    (flashGrant s).tlc = s.tlc ∧ (flashGrant s).homes = s.homes ∧ (flashGrant s).pcd = s.pcd ∧
    (flashGrant s).pnp = s.pnp ∧ (flashGrant s).srb = s.srb ∧ (flashGrant s).fxl = s.fxl ∧
    (flashGrant s).syp = s.syp ∧ (flashGrant s).mct = s.mct ∧ (flashGrant s).config = s.config ∧
    (flashGrant s).inbox = s.inbox ∧ (flashGrant s).book = s.book ∧ (flashGrant s).pending = s.pending ∧
    (flashGrant s).mfc.header = s.mfc.header ∧ (flashGrant s).mfc.marker = s.mfc.marker ∧
    (flashGrant s).mfc.spares = s.mfc.spares ∧ (flashGrant s).mfc.wear = s.mfc.wear := by
  unfold flashGrant
  (repeat' split) <;> simp_all

@[simp] theorem fillReadComplete_frame (s : State) :
    (fillReadComplete s).boot = s.boot ∧ (fillReadComplete s).cap = s.cap ∧ (fillReadComplete s).jobs = s.jobs ∧
    (fillReadComplete s).homes = s.homes ∧ (fillReadComplete s).pcd = s.pcd ∧ (fillReadComplete s).pnp = s.pnp ∧
    (fillReadComplete s).srb = s.srb ∧ (fillReadComplete s).fxl = s.fxl ∧ (fillReadComplete s).syp = s.syp ∧
    (fillReadComplete s).mct = s.mct ∧ (fillReadComplete s).config = s.config ∧
    (fillReadComplete s).inbox = s.inbox ∧ (fillReadComplete s).book = s.book ∧
    (fillReadComplete s).pending = s.pending ∧ (fillReadComplete s).tlc.sets = s.tlc.sets ∧
    (fillReadComplete s).tlc.lock = s.tlc.lock ∧ (fillReadComplete s).tlc.queue = s.tlc.queue ∧
    (fillReadComplete s).tlc.panel = s.tlc.panel ∧ (fillReadComplete s).tlc.access = s.tlc.access ∧
    (fillReadComplete s).tlc.job = s.tlc.job ∧ (fillReadComplete s).tlc.jobWait = s.tlc.jobWait ∧
    (fillReadComplete s).tlc.drains = s.tlc.drains ∧ (fillReadComplete s).mfc.header = s.mfc.header ∧
    (fillReadComplete s).mfc.marker = s.mfc.marker ∧ (fillReadComplete s).mfc.spares = s.mfc.spares ∧
    (fillReadComplete s).mfc.seq = s.mfc.seq ∧ (fillReadComplete s).mfc.wear = s.mfc.wear ∧
    (fillReadComplete s).mfc.reads = s.mfc.reads ∧ (fillReadComplete s).mfc.programs = s.mfc.programs := by
  unfold fillReadComplete
  dsimp only
  (repeat' split) <;> simp_all

@[simp] theorem tileVerified_frame (c : TileCopy) (home : TileHome) (seq : BitVec 32) (s : State) :
    (tileVerified c home seq s).boot = s.boot ∧ (tileVerified c home seq s).cap = s.cap ∧
    (tileVerified c home seq s).pcd = s.pcd ∧ (tileVerified c home seq s).pnp = s.pnp ∧
    (tileVerified c home seq s).srb = s.srb ∧ (tileVerified c home seq s).fxl = s.fxl ∧
    (tileVerified c home seq s).syp = s.syp ∧ (tileVerified c home seq s).mct = s.mct ∧
    (tileVerified c home seq s).config = s.config ∧ (tileVerified c home seq s).inbox = s.inbox ∧
    (tileVerified c home seq s).book = s.book ∧ (tileVerified c home seq s).pending = s.pending ∧
    (tileVerified c home seq s).jobs.boxes = s.jobs.boxes ∧ (tileVerified c home seq s).jobs.seq = s.jobs.seq ∧
    (tileVerified c home seq s).tlc.sets = s.tlc.sets ∧ (tileVerified c home seq s).tlc.lock = s.tlc.lock ∧
    (tileVerified c home seq s).tlc.fills = s.tlc.fills ∧ (tileVerified c home seq s).tlc.jobWait = s.tlc.jobWait ∧
    (tileVerified c home seq s).mfc.header = s.mfc.header ∧ (tileVerified c home seq s).mfc.marker = s.mfc.marker ∧
    (tileVerified c home seq s).mfc.spares = s.mfc.spares ∧ (tileVerified c home seq s).mfc.seq = s.mfc.seq ∧
    (tileVerified c home seq s).mfc.wear = s.mfc.wear ∧ (tileVerified c home seq s).mfc.reads = s.mfc.reads ∧
    (tileVerified c home seq s).mfc.programs = s.mfc.programs ∧
    (tileVerified c home seq s).homes.header = s.homes.header ∧
    (tileVerified c home seq s).homes.config = s.homes.config ∧ (tileVerified c home seq s).homes.key = s.homes.key ∧
    (tileVerified c home seq s).homes.region = s.homes.region ∧
    (tileVerified c home seq s).homes.label = s.homes.label ∧
    (tileVerified c home seq s).homes.stage = s.homes.stage := by
  simp [tileVerified]

@[simp] theorem leaveHome_frame (home : TileHome) (s : State) :
    (leaveHome home s).boot = s.boot ∧ (leaveHome home s).cap = s.cap ∧ (leaveHome home s).jobs = s.jobs ∧
    (leaveHome home s).tlc = s.tlc ∧ (leaveHome home s).homes = s.homes ∧ (leaveHome home s).pcd = s.pcd ∧
    (leaveHome home s).pnp = s.pnp ∧ (leaveHome home s).srb = s.srb ∧ (leaveHome home s).fxl = s.fxl ∧
    (leaveHome home s).syp = s.syp ∧ (leaveHome home s).mct = s.mct ∧ (leaveHome home s).config = s.config ∧
    (leaveHome home s).inbox = s.inbox ∧ (leaveHome home s).book = s.book ∧ (leaveHome home s).pending = s.pending ∧
    (leaveHome home s).mfc.header = s.mfc.header ∧ (leaveHome home s).mfc.marker = s.mfc.marker ∧
    (leaveHome home s).mfc.seq = s.mfc.seq ∧ (leaveHome home s).mfc.flash = s.mfc.flash ∧
    (leaveHome home s).mfc.wear = s.mfc.wear ∧ (leaveHome home s).mfc.reads = s.mfc.reads ∧
    (leaveHome home s).mfc.programs = s.mfc.programs := by
  unfold leaveHome
  (repeat' split) <;> simp_all

@[simp] theorem tileFailed_frame (c : TileCopy) (home : TileHome) (s : State) :
    (tileFailed c home s).boot = s.boot ∧ (tileFailed c home s).cap = s.cap ∧ (tileFailed c home s).pcd = s.pcd ∧
    (tileFailed c home s).pnp = s.pnp ∧ (tileFailed c home s).srb = s.srb ∧ (tileFailed c home s).fxl = s.fxl ∧
    (tileFailed c home s).mct = s.mct ∧ (tileFailed c home s).config = s.config ∧
    (tileFailed c home s).inbox = s.inbox ∧ (tileFailed c home s).book = s.book ∧
    (tileFailed c home s).pending = s.pending ∧ (tileFailed c home s).jobs.seq = s.jobs.seq ∧
    (tileFailed c home s).tlc.sets = s.tlc.sets ∧ (tileFailed c home s).tlc.lock = s.tlc.lock ∧
    (tileFailed c home s).tlc.queue = s.tlc.queue ∧ (tileFailed c home s).tlc.fills = s.tlc.fills ∧
    (tileFailed c home s).mfc.marker = s.mfc.marker ∧ (tileFailed c home s).mfc.reads = s.mfc.reads ∧
    (tileFailed c home s).homes.header = s.homes.header ∧ (tileFailed c home s).homes.config = s.homes.config ∧
    (tileFailed c home s).homes.key = s.homes.key ∧ (tileFailed c home s).homes.region = s.homes.region ∧
    (tileFailed c home s).homes.label = s.homes.label ∧ (tileFailed c home s).homes.stage = s.homes.stage := by
  unfold tileFailed
  dsimp only
  (repeat' split) <;> simp_all

@[simp] theorem tileProgramComplete_frame (verified : Bool) (s : State) :
    (tileProgramComplete verified s).boot = s.boot ∧ (tileProgramComplete verified s).cap = s.cap ∧
    (tileProgramComplete verified s).pcd = s.pcd ∧ (tileProgramComplete verified s).pnp = s.pnp ∧
    (tileProgramComplete verified s).srb = s.srb ∧ (tileProgramComplete verified s).fxl = s.fxl ∧
    (tileProgramComplete verified s).mct = s.mct ∧ (tileProgramComplete verified s).config = s.config ∧
    (tileProgramComplete verified s).inbox = s.inbox ∧ (tileProgramComplete verified s).book = s.book ∧
    (tileProgramComplete verified s).pending = s.pending ∧ (tileProgramComplete verified s).jobs.seq = s.jobs.seq ∧
    (tileProgramComplete verified s).tlc.sets = s.tlc.sets ∧ (tileProgramComplete verified s).tlc.lock = s.tlc.lock ∧
    (tileProgramComplete verified s).tlc.fills = s.tlc.fills ∧
    (tileProgramComplete verified s).mfc.marker = s.mfc.marker ∧
    (tileProgramComplete verified s).mfc.reads = s.mfc.reads ∧
    (tileProgramComplete verified s).homes.header = s.homes.header ∧
    (tileProgramComplete verified s).homes.config = s.homes.config ∧
    (tileProgramComplete verified s).homes.key = s.homes.key ∧
    (tileProgramComplete verified s).homes.region = s.homes.region ∧
    (tileProgramComplete verified s).homes.label = s.homes.label ∧
    (tileProgramComplete verified s).homes.stage = s.homes.stage := by
  unfold tileProgramComplete
  (repeat' split) <;> simp_all

@[simp] theorem uncommitProgramComplete_frame (verified : Bool) (s : State) :
    (uncommitProgramComplete verified s).boot = s.boot ∧ (uncommitProgramComplete verified s).cap = s.cap ∧
    (uncommitProgramComplete verified s).pcd = s.pcd ∧ (uncommitProgramComplete verified s).pnp = s.pnp ∧
    (uncommitProgramComplete verified s).srb = s.srb ∧ (uncommitProgramComplete verified s).fxl = s.fxl ∧
    (uncommitProgramComplete verified s).syp = s.syp ∧ (uncommitProgramComplete verified s).mct = s.mct ∧
    (uncommitProgramComplete verified s).config = s.config ∧ (uncommitProgramComplete verified s).inbox = s.inbox ∧
    (uncommitProgramComplete verified s).book = s.book ∧ (uncommitProgramComplete verified s).pending = s.pending ∧
    (uncommitProgramComplete verified s).jobs.boxes = s.jobs.boxes ∧
    (uncommitProgramComplete verified s).jobs.seq = s.jobs.seq ∧
    (uncommitProgramComplete verified s).tlc.sets = s.tlc.sets ∧
    (uncommitProgramComplete verified s).tlc.lock = s.tlc.lock ∧
    (uncommitProgramComplete verified s).tlc.queue = s.tlc.queue ∧
    (uncommitProgramComplete verified s).tlc.fills = s.tlc.fills ∧
    (uncommitProgramComplete verified s).tlc.panel = s.tlc.panel ∧
    (uncommitProgramComplete verified s).tlc.access = s.tlc.access ∧
    (uncommitProgramComplete verified s).tlc.job = s.tlc.job ∧
    (uncommitProgramComplete verified s).tlc.jobWait = s.tlc.jobWait ∧
    (uncommitProgramComplete verified s).mfc.header = s.mfc.header ∧
    (uncommitProgramComplete verified s).mfc.spares = s.mfc.spares ∧
    (uncommitProgramComplete verified s).mfc.seq = s.mfc.seq ∧
    (uncommitProgramComplete verified s).mfc.wear = s.mfc.wear ∧
    (uncommitProgramComplete verified s).mfc.reads = s.mfc.reads ∧
    (uncommitProgramComplete verified s).mfc.programs = s.mfc.programs ∧
    (uncommitProgramComplete verified s).homes.tile = s.homes.tile ∧
    (uncommitProgramComplete verified s).homes.spare = s.homes.spare ∧
    (uncommitProgramComplete verified s).homes.config = s.homes.config ∧
    (uncommitProgramComplete verified s).homes.key = s.homes.key ∧
    (uncommitProgramComplete verified s).homes.region = s.homes.region ∧
    (uncommitProgramComplete verified s).homes.label = s.homes.label ∧
    (uncommitProgramComplete verified s).homes.stage = s.homes.stage := by
  unfold uncommitProgramComplete
  dsimp only
  (repeat' split) <;> simp_all

/-! ## The pass -/

@[simp] theorem completePass_frame (b : Fin 16) (a : PassArgs) (w : PassWork) (s : State) :
    (completePass b a w s).boot = s.boot ∧ (completePass b a w s).homes = s.homes ∧
    (completePass b a w s).pcd = s.pcd ∧ (completePass b a w s).pnp = s.pnp ∧ (completePass b a w s).srb = s.srb ∧
    (completePass b a w s).fxl = s.fxl ∧ (completePass b a w s).mct = s.mct ∧
    (completePass b a w s).config = s.config ∧ (completePass b a w s).inbox = s.inbox ∧
    (completePass b a w s).book = s.book ∧ (completePass b a w s).pending = s.pending ∧
    (completePass b a w s).jobs.seq = s.jobs.seq ∧ (completePass b a w s).tlc.sets = s.tlc.sets ∧
    (completePass b a w s).tlc.lock = s.tlc.lock ∧ (completePass b a w s).tlc.queue = s.tlc.queue ∧
    (completePass b a w s).tlc.fills = s.tlc.fills ∧ (completePass b a w s).tlc.panel = s.tlc.panel ∧
    (completePass b a w s).tlc.access = s.tlc.access ∧ (completePass b a w s).tlc.drains = s.tlc.drains ∧
    (completePass b a w s).mfc.marker = s.mfc.marker ∧ (completePass b a w s).mfc.spares = s.mfc.spares ∧
    (completePass b a w s).mfc.seq = s.mfc.seq ∧ (completePass b a w s).mfc.flash = s.mfc.flash ∧
    (completePass b a w s).mfc.wear = s.mfc.wear ∧ (completePass b a w s).mfc.reads = s.mfc.reads ∧
    (completePass b a w s).mfc.programs = s.mfc.programs := by
  simp [completePass]

@[simp] theorem requestPassTile_frame (b : Fin 16) (w : PassWork) (s : State) :
    (requestPassTile b w s).boot = s.boot ∧ (requestPassTile b w s).cap = s.cap ∧
    (requestPassTile b w s).mfc = s.mfc ∧ (requestPassTile b w s).homes = s.homes ∧
    (requestPassTile b w s).pcd = s.pcd ∧ (requestPassTile b w s).pnp = s.pnp ∧ (requestPassTile b w s).srb = s.srb ∧
    (requestPassTile b w s).fxl = s.fxl ∧ (requestPassTile b w s).syp = s.syp ∧ (requestPassTile b w s).mct = s.mct ∧
    (requestPassTile b w s).config = s.config ∧ (requestPassTile b w s).inbox = s.inbox ∧
    (requestPassTile b w s).book = s.book ∧ (requestPassTile b w s).pending = s.pending ∧
    (requestPassTile b w s).jobs.boxes = s.jobs.boxes ∧ (requestPassTile b w s).jobs.seq = s.jobs.seq ∧
    (requestPassTile b w s).tlc.sets = s.tlc.sets ∧ (requestPassTile b w s).tlc.lock = s.tlc.lock ∧
    (requestPassTile b w s).tlc.queue = s.tlc.queue ∧ (requestPassTile b w s).tlc.fills = s.tlc.fills ∧
    (requestPassTile b w s).tlc.panel = s.tlc.panel ∧ (requestPassTile b w s).tlc.access = s.tlc.access ∧
    (requestPassTile b w s).tlc.drains = s.tlc.drains := by
  simp [requestPassTile]

@[simp] theorem passWritten_frame (b : Fin 16) (x : Box) (a : PassArgs) (w : PassWork) (next : Option TileNo) (s : State) :
    (passWritten b x a w next s).boot = s.boot ∧ (passWritten b x a w next s).homes = s.homes ∧
    (passWritten b x a w next s).pcd = s.pcd ∧ (passWritten b x a w next s).pnp = s.pnp ∧
    (passWritten b x a w next s).srb = s.srb ∧ (passWritten b x a w next s).fxl = s.fxl ∧
    (passWritten b x a w next s).mct = s.mct ∧ (passWritten b x a w next s).config = s.config ∧
    (passWritten b x a w next s).inbox = s.inbox ∧ (passWritten b x a w next s).book = s.book ∧
    (passWritten b x a w next s).pending = s.pending ∧ (passWritten b x a w next s).jobs.seq = s.jobs.seq ∧
    (passWritten b x a w next s).tlc.sets = s.tlc.sets ∧ (passWritten b x a w next s).tlc.lock = s.tlc.lock ∧
    (passWritten b x a w next s).tlc.queue = s.tlc.queue ∧ (passWritten b x a w next s).tlc.fills = s.tlc.fills ∧
    (passWritten b x a w next s).tlc.panel = s.tlc.panel ∧ (passWritten b x a w next s).tlc.access = s.tlc.access ∧
    (passWritten b x a w next s).tlc.drains = s.tlc.drains ∧ (passWritten b x a w next s).mfc.marker = s.mfc.marker ∧
    (passWritten b x a w next s).mfc.spares = s.mfc.spares ∧ (passWritten b x a w next s).mfc.seq = s.mfc.seq ∧
    (passWritten b x a w next s).mfc.flash = s.mfc.flash ∧ (passWritten b x a w next s).mfc.wear = s.mfc.wear ∧
    (passWritten b x a w next s).mfc.reads = s.mfc.reads ∧
    (passWritten b x a w next s).mfc.programs = s.mfc.programs := by
  unfold passWritten
  (repeat' split) <;> simp_all

@[simp] theorem writePassTile_frame (b : Fin 16) (x : Box) (a : PassArgs) (sh : Shape) (w : PassWork) (way : Fin 8) (old : TileValues) (wasFaulty : Bool) (s : State) :
    (writePassTile b x a sh w way old wasFaulty s).boot = s.boot ∧
    (writePassTile b x a sh w way old wasFaulty s).homes = s.homes ∧
    (writePassTile b x a sh w way old wasFaulty s).pnp = s.pnp ∧
    (writePassTile b x a sh w way old wasFaulty s).srb = s.srb ∧
    (writePassTile b x a sh w way old wasFaulty s).fxl = s.fxl ∧
    (writePassTile b x a sh w way old wasFaulty s).config = s.config ∧
    (writePassTile b x a sh w way old wasFaulty s).inbox = s.inbox ∧
    (writePassTile b x a sh w way old wasFaulty s).book = s.book ∧
    (writePassTile b x a sh w way old wasFaulty s).pending = s.pending ∧
    (writePassTile b x a sh w way old wasFaulty s).jobs.seq = s.jobs.seq ∧
    (writePassTile b x a sh w way old wasFaulty s).tlc.lock = s.tlc.lock ∧
    (writePassTile b x a sh w way old wasFaulty s).tlc.queue = s.tlc.queue ∧
    (writePassTile b x a sh w way old wasFaulty s).tlc.fills = s.tlc.fills ∧
    (writePassTile b x a sh w way old wasFaulty s).tlc.panel = s.tlc.panel ∧
    (writePassTile b x a sh w way old wasFaulty s).tlc.access = s.tlc.access ∧
    (writePassTile b x a sh w way old wasFaulty s).tlc.drains = s.tlc.drains ∧
    (writePassTile b x a sh w way old wasFaulty s).mfc.marker = s.mfc.marker ∧
    (writePassTile b x a sh w way old wasFaulty s).mfc.spares = s.mfc.spares ∧
    (writePassTile b x a sh w way old wasFaulty s).mfc.seq = s.mfc.seq ∧
    (writePassTile b x a sh w way old wasFaulty s).mfc.flash = s.mfc.flash ∧
    (writePassTile b x a sh w way old wasFaulty s).mfc.wear = s.mfc.wear ∧
    (writePassTile b x a sh w way old wasFaulty s).mfc.reads = s.mfc.reads ∧
    (writePassTile b x a sh w way old wasFaulty s).mfc.programs = s.mfc.programs := by
  simp [writePassTile]

@[simp] theorem passTile_frame (b : Fin 16) (x : Box) (a : PassArgs) (sh : Shape) (w : PassWork) (s : State) :
    (passTile b x a sh w s).boot = s.boot ∧ (passTile b x a sh w s).homes = s.homes ∧
    (passTile b x a sh w s).pnp = s.pnp ∧ (passTile b x a sh w s).srb = s.srb ∧ (passTile b x a sh w s).fxl = s.fxl ∧
    (passTile b x a sh w s).config = s.config ∧ (passTile b x a sh w s).inbox = s.inbox ∧
    (passTile b x a sh w s).book = s.book ∧ (passTile b x a sh w s).pending = s.pending ∧
    (passTile b x a sh w s).jobs.seq = s.jobs.seq ∧ (passTile b x a sh w s).tlc.lock = s.tlc.lock ∧
    (passTile b x a sh w s).tlc.panel = s.tlc.panel ∧ (passTile b x a sh w s).tlc.access = s.tlc.access ∧
    (passTile b x a sh w s).tlc.drains = s.tlc.drains ∧ (passTile b x a sh w s).mfc.marker = s.mfc.marker ∧
    (passTile b x a sh w s).mfc.spares = s.mfc.spares ∧ (passTile b x a sh w s).mfc.seq = s.mfc.seq ∧
    (passTile b x a sh w s).mfc.flash = s.mfc.flash ∧ (passTile b x a sh w s).mfc.wear = s.mfc.wear ∧
    (passTile b x a sh w s).mfc.programs = s.mfc.programs := by
  unfold passTile
  have frame := readTileAt_frame w.next (grantJob s)
  have rest := readTileAt_rest w.next (grantJob s)
  generalize readTileAt w.next (grantJob s) = r at frame rest
  obtain ⟨u, outcome⟩ := r
  dsimp only at frame rest ⊢
  (repeat' split) <;> simp_all

@[simp] theorem passTileOperation_frame (s : State) :
    (passTileOperation s).boot = s.boot ∧ (passTileOperation s).homes = s.homes ∧ (passTileOperation s).pnp = s.pnp ∧
    (passTileOperation s).srb = s.srb ∧ (passTileOperation s).fxl = s.fxl ∧ (passTileOperation s).config = s.config ∧
    (passTileOperation s).inbox = s.inbox ∧ (passTileOperation s).book = s.book ∧
    (passTileOperation s).pending = s.pending ∧ (passTileOperation s).jobs.seq = s.jobs.seq ∧
    (passTileOperation s).tlc.lock = s.tlc.lock ∧ (passTileOperation s).tlc.panel = s.tlc.panel ∧
    (passTileOperation s).tlc.access = s.tlc.access ∧ (passTileOperation s).tlc.drains = s.tlc.drains ∧
    (passTileOperation s).mfc.marker = s.mfc.marker ∧ (passTileOperation s).mfc.spares = s.mfc.spares ∧
    (passTileOperation s).mfc.seq = s.mfc.seq ∧ (passTileOperation s).mfc.flash = s.mfc.flash ∧
    (passTileOperation s).mfc.wear = s.mfc.wear ∧ (passTileOperation s).mfc.programs = s.mfc.programs := by
  unfold passTileOperation
  (repeat' split) <;> simp_all

/-! ## The job table -/

@[simp] theorem submitJob_frame (req : Request) (s : State) :
    (submitJob req s).boot = s.boot ∧ (submitJob req s).cap = s.cap ∧ (submitJob req s).tlc = s.tlc ∧
    (submitJob req s).mfc = s.mfc ∧ (submitJob req s).homes = s.homes ∧ (submitJob req s).pcd = s.pcd ∧
    (submitJob req s).srb = s.srb ∧ (submitJob req s).config = s.config ∧ (submitJob req s).inbox = s.inbox ∧
    (submitJob req s).book = s.book ∧ (submitJob req s).pending = s.pending ∧
    (submitJob req s).jobs.running = s.jobs.running := by
  unfold submitJob
  dsimp only
  (repeat' split) <;> simp_all

@[simp] theorem markRead_frame (m : Master) (b : Fin 16) (s : State) :
    (markRead m b s).boot = s.boot ∧ (markRead m b s).cap = s.cap ∧ (markRead m b s).tlc = s.tlc ∧
    (markRead m b s).mfc = s.mfc ∧ (markRead m b s).homes = s.homes ∧ (markRead m b s).pcd = s.pcd ∧
    (markRead m b s).pnp = s.pnp ∧ (markRead m b s).srb = s.srb ∧ (markRead m b s).fxl = s.fxl ∧
    (markRead m b s).syp = s.syp ∧ (markRead m b s).mct = s.mct ∧ (markRead m b s).config = s.config ∧
    (markRead m b s).inbox = s.inbox ∧ (markRead m b s).book = s.book ∧ (markRead m b s).pending = s.pending ∧
    (markRead m b s).jobs.seq = s.jobs.seq ∧ (markRead m b s).jobs.running = s.jobs.running := by
  unfold markRead
  (repeat' split) <;> simp_all

@[simp] theorem readBox_frame (req : Request) (s : State) :
    (readBox req s).boot = s.boot ∧ (readBox req s).cap = s.cap ∧ (readBox req s).tlc = s.tlc ∧
    (readBox req s).mfc = s.mfc ∧ (readBox req s).homes = s.homes ∧ (readBox req s).pcd = s.pcd ∧
    (readBox req s).srb = s.srb ∧ (readBox req s).config = s.config ∧ (readBox req s).inbox = s.inbox ∧
    (readBox req s).book = s.book ∧ (readBox req s).pending = s.pending ∧ (readBox req s).jobs.seq = s.jobs.seq ∧
    (readBox req s).jobs.running = s.jobs.running := by
  unfold readBox
  (repeat' split) <;> simp_all

@[simp] theorem holdBox_frame (req : Request) (s : State) :
    (holdBox req s).boot = s.boot ∧ (holdBox req s).cap = s.cap ∧ (holdBox req s).tlc = s.tlc ∧
    (holdBox req s).mfc = s.mfc ∧ (holdBox req s).homes = s.homes ∧ (holdBox req s).pcd = s.pcd ∧
    (holdBox req s).srb = s.srb ∧ (holdBox req s).config = s.config ∧ (holdBox req s).inbox = s.inbox ∧
    (holdBox req s).book = s.book ∧ (holdBox req s).pending = s.pending ∧ (holdBox req s).jobs.seq = s.jobs.seq ∧
    (holdBox req s).jobs.running = s.jobs.running := by
  unfold holdBox
  (repeat' split) <;> simp_all

@[simp] theorem editBox_frame (req : Request) (s : State) :
    (editBox req s).boot = s.boot ∧ (editBox req s).cap = s.cap ∧ (editBox req s).tlc = s.tlc ∧
    (editBox req s).mfc = s.mfc ∧ (editBox req s).homes = s.homes ∧ (editBox req s).pcd = s.pcd ∧
    (editBox req s).srb = s.srb ∧ (editBox req s).config = s.config ∧ (editBox req s).inbox = s.inbox ∧
    (editBox req s).book = s.book ∧ (editBox req s).pending = s.pending ∧ (editBox req s).jobs.seq = s.jobs.seq ∧
    (editBox req s).jobs.running = s.jobs.running := by
  unfold editBox
  (repeat' split) <;> simp_all

@[simp] theorem releaseBox_frame (req : Request) (s : State) :
    (releaseBox req s).boot = s.boot ∧ (releaseBox req s).cap = s.cap ∧ (releaseBox req s).tlc = s.tlc ∧
    (releaseBox req s).mfc = s.mfc ∧ (releaseBox req s).homes = s.homes ∧ (releaseBox req s).pcd = s.pcd ∧
    (releaseBox req s).srb = s.srb ∧ (releaseBox req s).config = s.config ∧ (releaseBox req s).inbox = s.inbox ∧
    (releaseBox req s).book = s.book ∧ (releaseBox req s).pending = s.pending ∧
    (releaseBox req s).jobs.seq = s.jobs.seq ∧ (releaseBox req s).jobs.running = s.jobs.running := by
  unfold releaseBox
  (repeat' split) <;> simp_all

@[simp] theorem holdExpiry_frame (b : Fin 16) (s : State) :
    (holdExpiry b s).boot = s.boot ∧ (holdExpiry b s).cap = s.cap ∧ (holdExpiry b s).tlc = s.tlc ∧
    (holdExpiry b s).mfc = s.mfc ∧ (holdExpiry b s).homes = s.homes ∧ (holdExpiry b s).pcd = s.pcd ∧
    (holdExpiry b s).pnp = s.pnp ∧ (holdExpiry b s).srb = s.srb ∧ (holdExpiry b s).fxl = s.fxl ∧
    (holdExpiry b s).syp = s.syp ∧ (holdExpiry b s).mct = s.mct ∧ (holdExpiry b s).config = s.config ∧
    (holdExpiry b s).inbox = s.inbox ∧ (holdExpiry b s).pending = s.pending ∧
    (holdExpiry b s).jobs.seq = s.jobs.seq ∧ (holdExpiry b s).jobs.running = s.jobs.running := by
  unfold holdExpiry
  dsimp only
  (repeat' split) <;> simp_all

@[simp] theorem noteCancel_frame (b : Fin 16) (x : Box) (s : State) :
    (noteCancel b x s).boot = s.boot ∧ (noteCancel b x s).mfc = s.mfc ∧ (noteCancel b x s).homes = s.homes ∧
    (noteCancel b x s).pcd = s.pcd ∧ (noteCancel b x s).pnp = s.pnp ∧ (noteCancel b x s).srb = s.srb ∧
    (noteCancel b x s).fxl = s.fxl ∧ (noteCancel b x s).mct = s.mct ∧ (noteCancel b x s).config = s.config ∧
    (noteCancel b x s).inbox = s.inbox ∧ (noteCancel b x s).book = s.book ∧ (noteCancel b x s).pending = s.pending ∧
    (noteCancel b x s).jobs.seq = s.jobs.seq ∧ (noteCancel b x s).tlc.sets = s.tlc.sets ∧
    (noteCancel b x s).tlc.lock = s.tlc.lock ∧ (noteCancel b x s).tlc.queue = s.tlc.queue ∧
    (noteCancel b x s).tlc.fills = s.tlc.fills ∧ (noteCancel b x s).tlc.panel = s.tlc.panel ∧
    (noteCancel b x s).tlc.access = s.tlc.access ∧ (noteCancel b x s).tlc.drains = s.tlc.drains := by
  unfold noteCancel
  dsimp only
  (repeat' split) <;> simp_all

@[simp] theorem cancelJob_frame (req : Request) (s : State) :
    (cancelJob req s).boot = s.boot ∧ (cancelJob req s).mfc = s.mfc ∧ (cancelJob req s).homes = s.homes ∧
    (cancelJob req s).pcd = s.pcd ∧ (cancelJob req s).srb = s.srb ∧ (cancelJob req s).config = s.config ∧
    (cancelJob req s).inbox = s.inbox ∧ (cancelJob req s).book = s.book ∧ (cancelJob req s).pending = s.pending ∧
    (cancelJob req s).jobs.seq = s.jobs.seq ∧ (cancelJob req s).tlc.sets = s.tlc.sets ∧
    (cancelJob req s).tlc.lock = s.tlc.lock ∧ (cancelJob req s).tlc.queue = s.tlc.queue ∧
    (cancelJob req s).tlc.fills = s.tlc.fills ∧ (cancelJob req s).tlc.panel = s.tlc.panel ∧
    (cancelJob req s).tlc.access = s.tlc.access ∧ (cancelJob req s).tlc.drains = s.tlc.drains := by
  unfold cancelJob
  (repeat' split) <;> simp_all

@[simp] theorem freeBox_frame (req : Request) (s : State) :
    (freeBox req s).boot = s.boot ∧ (freeBox req s).cap = s.cap ∧ (freeBox req s).tlc = s.tlc ∧
    (freeBox req s).mfc = s.mfc ∧ (freeBox req s).homes = s.homes ∧ (freeBox req s).pcd = s.pcd ∧
    (freeBox req s).srb = s.srb ∧ (freeBox req s).config = s.config ∧ (freeBox req s).inbox = s.inbox ∧
    (freeBox req s).book = s.book ∧ (freeBox req s).pending = s.pending ∧ (freeBox req s).jobs.seq = s.jobs.seq ∧
    (freeBox req s).jobs.running = s.jobs.running := by
  unfold freeBox
  (repeat' split) <;> simp_all

@[simp] theorem startPass_frame (b : Fin 16) (a : PassArgs) (sh : Shape) (s : State) :
    (startPass b a sh s).boot = s.boot ∧ (startPass b a sh s).homes = s.homes ∧ (startPass b a sh s).pcd = s.pcd ∧
    (startPass b a sh s).pnp = s.pnp ∧ (startPass b a sh s).srb = s.srb ∧ (startPass b a sh s).fxl = s.fxl ∧
    (startPass b a sh s).syp = s.syp ∧ (startPass b a sh s).mct = s.mct ∧ (startPass b a sh s).config = s.config ∧
    (startPass b a sh s).inbox = s.inbox ∧ (startPass b a sh s).book = s.book ∧
    (startPass b a sh s).pending = s.pending ∧ (startPass b a sh s).jobs.boxes = s.jobs.boxes ∧
    (startPass b a sh s).jobs.seq = s.jobs.seq ∧ (startPass b a sh s).tlc.sets = s.tlc.sets ∧
    (startPass b a sh s).tlc.lock = s.tlc.lock ∧ (startPass b a sh s).tlc.queue = s.tlc.queue ∧
    (startPass b a sh s).tlc.fills = s.tlc.fills ∧ (startPass b a sh s).tlc.panel = s.tlc.panel ∧
    (startPass b a sh s).tlc.access = s.tlc.access ∧ (startPass b a sh s).tlc.drains = s.tlc.drains ∧
    (startPass b a sh s).mfc.marker = s.mfc.marker ∧ (startPass b a sh s).mfc.spares = s.mfc.spares ∧
    (startPass b a sh s).mfc.seq = s.mfc.seq ∧ (startPass b a sh s).mfc.flash = s.mfc.flash ∧
    (startPass b a sh s).mfc.wear = s.mfc.wear ∧ (startPass b a sh s).mfc.reads = s.mfc.reads ∧
    (startPass b a sh s).mfc.programs = s.mfc.programs := by
  unfold startPass
  dsimp only
  (repeat' split) <;> simp_all

@[simp] theorem startClear_frame (b : Fin 16) (s : State) :
    (startClear b s).boot = s.boot ∧ (startClear b s).cap = s.cap ∧ (startClear b s).homes = s.homes ∧
    (startClear b s).pcd = s.pcd ∧ (startClear b s).pnp = s.pnp ∧ (startClear b s).srb = s.srb ∧
    (startClear b s).fxl = s.fxl ∧ (startClear b s).syp = s.syp ∧ (startClear b s).mct = s.mct ∧
    (startClear b s).config = s.config ∧ (startClear b s).inbox = s.inbox ∧ (startClear b s).book = s.book ∧
    (startClear b s).pending = s.pending ∧ (startClear b s).jobs.boxes = s.jobs.boxes ∧
    (startClear b s).jobs.seq = s.jobs.seq ∧ (startClear b s).tlc.sets = s.tlc.sets ∧
    (startClear b s).tlc.lock = s.tlc.lock ∧ (startClear b s).tlc.queue = s.tlc.queue ∧
    (startClear b s).tlc.fills = s.tlc.fills ∧ (startClear b s).tlc.panel = s.tlc.panel ∧
    (startClear b s).tlc.access = s.tlc.access ∧ (startClear b s).tlc.drains = s.tlc.drains ∧
    (startClear b s).mfc.marker = s.mfc.marker ∧ (startClear b s).mfc.spares = s.mfc.spares ∧
    (startClear b s).mfc.seq = s.mfc.seq ∧ (startClear b s).mfc.flash = s.mfc.flash ∧
    (startClear b s).mfc.wear = s.mfc.wear ∧ (startClear b s).mfc.reads = s.mfc.reads ∧
    (startClear b s).mfc.programs = s.mfc.programs := by
  simp [startClear]

@[simp] theorem startCommit_frame (b : Fin 16) (s : State) :
    (startCommit b s).boot = s.boot ∧ (startCommit b s).cap = s.cap ∧ (startCommit b s).tlc = s.tlc ∧
    (startCommit b s).homes = s.homes ∧ (startCommit b s).pcd = s.pcd ∧ (startCommit b s).pnp = s.pnp ∧
    (startCommit b s).srb = s.srb ∧ (startCommit b s).fxl = s.fxl ∧ (startCommit b s).syp = s.syp ∧
    (startCommit b s).mct = s.mct ∧ (startCommit b s).config = s.config ∧ (startCommit b s).inbox = s.inbox ∧
    (startCommit b s).book = s.book ∧ (startCommit b s).pending = s.pending ∧
    (startCommit b s).jobs.boxes = s.jobs.boxes ∧ (startCommit b s).jobs.seq = s.jobs.seq ∧
    (startCommit b s).mfc.header = s.mfc.header ∧ (startCommit b s).mfc.marker = s.mfc.marker ∧
    (startCommit b s).mfc.spares = s.mfc.spares ∧ (startCommit b s).mfc.seq = s.mfc.seq ∧
    (startCommit b s).mfc.flash = s.mfc.flash ∧ (startCommit b s).mfc.wear = s.mfc.wear ∧
    (startCommit b s).mfc.programs = s.mfc.programs := by
  simp [startCommit]

@[simp] theorem runBox_frame (b : Fin 16) (x : Box) (started : Bool) (s : State) :
    (runBox b x started s).boot = s.boot ∧ (runBox b x started s).cap = s.cap ∧ (runBox b x started s).tlc = s.tlc ∧
    (runBox b x started s).mfc = s.mfc ∧ (runBox b x started s).homes = s.homes ∧
    (runBox b x started s).pcd = s.pcd ∧ (runBox b x started s).pnp = s.pnp ∧ (runBox b x started s).srb = s.srb ∧
    (runBox b x started s).fxl = s.fxl ∧ (runBox b x started s).syp = s.syp ∧ (runBox b x started s).mct = s.mct ∧
    (runBox b x started s).config = s.config ∧ (runBox b x started s).inbox = s.inbox ∧
    (runBox b x started s).book = s.book ∧ (runBox b x started s).pending = s.pending ∧
    (runBox b x started s).jobs.seq = s.jobs.seq ∧ (runBox b x started s).jobs.running = s.jobs.running := by
  simp [runBox]

@[simp] theorem startBox_frame (b : Fin 16) (x : Box) (s : State) :
    (startBox b x s).boot = s.boot ∧ (startBox b x s).homes = s.homes ∧ (startBox b x s).pcd = s.pcd ∧
    (startBox b x s).pnp = s.pnp ∧ (startBox b x s).srb = s.srb ∧ (startBox b x s).fxl = s.fxl ∧
    (startBox b x s).mct = s.mct ∧ (startBox b x s).config = s.config ∧ (startBox b x s).inbox = s.inbox ∧
    (startBox b x s).book = s.book ∧ (startBox b x s).pending = s.pending ∧ (startBox b x s).jobs.seq = s.jobs.seq ∧
    (startBox b x s).tlc.sets = s.tlc.sets ∧ (startBox b x s).tlc.lock = s.tlc.lock ∧
    (startBox b x s).tlc.queue = s.tlc.queue ∧ (startBox b x s).tlc.fills = s.tlc.fills ∧
    (startBox b x s).tlc.panel = s.tlc.panel ∧ (startBox b x s).tlc.access = s.tlc.access ∧
    (startBox b x s).tlc.drains = s.tlc.drains ∧ (startBox b x s).mfc.marker = s.mfc.marker ∧
    (startBox b x s).mfc.spares = s.mfc.spares ∧ (startBox b x s).mfc.seq = s.mfc.seq ∧
    (startBox b x s).mfc.flash = s.mfc.flash ∧ (startBox b x s).mfc.wear = s.mfc.wear ∧
    (startBox b x s).mfc.programs = s.mfc.programs := by
  unfold startBox
  (repeat' split) <;> simp_all

@[simp] theorem jobStart_frame (s : State) :
    (jobStart s).boot = s.boot ∧ (jobStart s).homes = s.homes ∧ (jobStart s).pcd = s.pcd ∧ (jobStart s).pnp = s.pnp ∧
    (jobStart s).srb = s.srb ∧ (jobStart s).fxl = s.fxl ∧ (jobStart s).mct = s.mct ∧ (jobStart s).config = s.config ∧
    (jobStart s).inbox = s.inbox ∧ (jobStart s).book = s.book ∧ (jobStart s).pending = s.pending ∧
    (jobStart s).jobs.seq = s.jobs.seq ∧ (jobStart s).tlc.sets = s.tlc.sets ∧ (jobStart s).tlc.lock = s.tlc.lock ∧
    (jobStart s).tlc.queue = s.tlc.queue ∧ (jobStart s).tlc.fills = s.tlc.fills ∧
    (jobStart s).tlc.panel = s.tlc.panel ∧ (jobStart s).tlc.access = s.tlc.access ∧
    (jobStart s).tlc.drains = s.tlc.drains ∧ (jobStart s).mfc.marker = s.mfc.marker ∧
    (jobStart s).mfc.spares = s.mfc.spares ∧ (jobStart s).mfc.seq = s.mfc.seq ∧
    (jobStart s).mfc.flash = s.mfc.flash ∧ (jobStart s).mfc.wear = s.mfc.wear ∧
    (jobStart s).mfc.programs = s.mfc.programs := by
  unfold jobStart
  (repeat' split) <;> simp_all

@[simp] theorem completeClear_frame (b : Fin 16) (tiles : Nat) (s : State) :
    (completeClear b tiles s).boot = s.boot ∧ (completeClear b tiles s).cap = s.cap ∧
    (completeClear b tiles s).homes = s.homes ∧ (completeClear b tiles s).pcd = s.pcd ∧
    (completeClear b tiles s).pnp = s.pnp ∧ (completeClear b tiles s).srb = s.srb ∧
    (completeClear b tiles s).fxl = s.fxl ∧ (completeClear b tiles s).mct = s.mct ∧
    (completeClear b tiles s).config = s.config ∧ (completeClear b tiles s).inbox = s.inbox ∧
    (completeClear b tiles s).book = s.book ∧ (completeClear b tiles s).pending = s.pending ∧
    (completeClear b tiles s).jobs.seq = s.jobs.seq ∧ (completeClear b tiles s).tlc.sets = s.tlc.sets ∧
    (completeClear b tiles s).tlc.lock = s.tlc.lock ∧ (completeClear b tiles s).tlc.queue = s.tlc.queue ∧
    (completeClear b tiles s).tlc.fills = s.tlc.fills ∧ (completeClear b tiles s).tlc.panel = s.tlc.panel ∧
    (completeClear b tiles s).tlc.access = s.tlc.access ∧ (completeClear b tiles s).tlc.drains = s.tlc.drains ∧
    (completeClear b tiles s).mfc.marker = s.mfc.marker ∧ (completeClear b tiles s).mfc.spares = s.mfc.spares ∧
    (completeClear b tiles s).mfc.seq = s.mfc.seq ∧ (completeClear b tiles s).mfc.flash = s.mfc.flash ∧
    (completeClear b tiles s).mfc.wear = s.mfc.wear ∧ (completeClear b tiles s).mfc.reads = s.mfc.reads ∧
    (completeClear b tiles s).mfc.programs = s.mfc.programs := by
  simp [completeClear]

@[simp] theorem clearWritten_frame (b : Fin 16) (x : Box) (t : TileNo) (s : State) :
    (clearWritten b x t s).boot = s.boot ∧ (clearWritten b x t s).cap = s.cap ∧
    (clearWritten b x t s).homes = s.homes ∧ (clearWritten b x t s).pcd = s.pcd ∧
    (clearWritten b x t s).pnp = s.pnp ∧ (clearWritten b x t s).srb = s.srb ∧ (clearWritten b x t s).fxl = s.fxl ∧
    (clearWritten b x t s).config = s.config ∧ (clearWritten b x t s).inbox = s.inbox ∧
    (clearWritten b x t s).book = s.book ∧ (clearWritten b x t s).pending = s.pending ∧
    (clearWritten b x t s).jobs.seq = s.jobs.seq ∧ (clearWritten b x t s).tlc.sets = s.tlc.sets ∧
    (clearWritten b x t s).tlc.lock = s.tlc.lock ∧ (clearWritten b x t s).tlc.queue = s.tlc.queue ∧
    (clearWritten b x t s).tlc.fills = s.tlc.fills ∧ (clearWritten b x t s).tlc.panel = s.tlc.panel ∧
    (clearWritten b x t s).tlc.access = s.tlc.access ∧ (clearWritten b x t s).tlc.drains = s.tlc.drains ∧
    (clearWritten b x t s).mfc.marker = s.mfc.marker ∧ (clearWritten b x t s).mfc.spares = s.mfc.spares ∧
    (clearWritten b x t s).mfc.seq = s.mfc.seq ∧ (clearWritten b x t s).mfc.flash = s.mfc.flash ∧
    (clearWritten b x t s).mfc.wear = s.mfc.wear ∧ (clearWritten b x t s).mfc.reads = s.mfc.reads ∧
    (clearWritten b x t s).mfc.programs = s.mfc.programs := by
  unfold clearWritten
  dsimp only
  (repeat' split) <;> simp_all

@[simp] theorem clearTile_frame (b : Fin 16) (x : Box) (t : TileNo) (s : State) :
    (clearTile b x t s).boot = s.boot ∧ (clearTile b x t s).cap = s.cap ∧ (clearTile b x t s).homes = s.homes ∧
    (clearTile b x t s).pnp = s.pnp ∧ (clearTile b x t s).srb = s.srb ∧ (clearTile b x t s).fxl = s.fxl ∧
    (clearTile b x t s).config = s.config ∧ (clearTile b x t s).inbox = s.inbox ∧ (clearTile b x t s).book = s.book ∧
    (clearTile b x t s).pending = s.pending ∧ (clearTile b x t s).jobs.seq = s.jobs.seq ∧
    (clearTile b x t s).tlc.lock = s.tlc.lock ∧ (clearTile b x t s).tlc.fills = s.tlc.fills ∧
    (clearTile b x t s).tlc.panel = s.tlc.panel ∧ (clearTile b x t s).tlc.access = s.tlc.access ∧
    (clearTile b x t s).tlc.drains = s.tlc.drains ∧ (clearTile b x t s).mfc.marker = s.mfc.marker ∧
    (clearTile b x t s).mfc.spares = s.mfc.spares ∧ (clearTile b x t s).mfc.seq = s.mfc.seq ∧
    (clearTile b x t s).mfc.flash = s.mfc.flash ∧ (clearTile b x t s).mfc.wear = s.mfc.wear ∧
    (clearTile b x t s).mfc.reads = s.mfc.reads ∧ (clearTile b x t s).mfc.programs = s.mfc.programs := by
  unfold clearTile
  have frame := writeTileAt_frame t (Vector.replicate 32 0) (grantJob s)
  have rest := writeTileAt_rest t (Vector.replicate 32 0) (grantJob s)
  generalize writeTileAt t (Vector.replicate 32 0) (grantJob s) = r at frame rest
  obtain ⟨u, outcome⟩ := r
  dsimp only at frame rest ⊢
  (repeat' split) <;> simp_all

@[simp] theorem clearTileOperation_frame (s : State) :
    (clearTileOperation s).boot = s.boot ∧ (clearTileOperation s).cap = s.cap ∧
    (clearTileOperation s).homes = s.homes ∧ (clearTileOperation s).pnp = s.pnp ∧
    (clearTileOperation s).srb = s.srb ∧ (clearTileOperation s).fxl = s.fxl ∧
    (clearTileOperation s).config = s.config ∧ (clearTileOperation s).inbox = s.inbox ∧
    (clearTileOperation s).book = s.book ∧ (clearTileOperation s).pending = s.pending ∧
    (clearTileOperation s).jobs.seq = s.jobs.seq ∧ (clearTileOperation s).tlc.lock = s.tlc.lock ∧
    (clearTileOperation s).tlc.fills = s.tlc.fills ∧ (clearTileOperation s).tlc.panel = s.tlc.panel ∧
    (clearTileOperation s).tlc.access = s.tlc.access ∧ (clearTileOperation s).tlc.drains = s.tlc.drains ∧
    (clearTileOperation s).mfc.marker = s.mfc.marker ∧ (clearTileOperation s).mfc.spares = s.mfc.spares ∧
    (clearTileOperation s).mfc.seq = s.mfc.seq ∧ (clearTileOperation s).mfc.flash = s.mfc.flash ∧
    (clearTileOperation s).mfc.wear = s.mfc.wear ∧ (clearTileOperation s).mfc.reads = s.mfc.reads ∧
    (clearTileOperation s).mfc.programs = s.mfc.programs := by
  unfold clearTileOperation
  (repeat' split) <;> simp_all

/-! ## The panel -/

@[simp] theorem presentSnapshot_rest (s : State) :
    (presentSnapshot s).tlc.sets = s.tlc.sets ∧ (presentSnapshot s).tlc.lock = s.tlc.lock ∧
    (presentSnapshot s).tlc.queue = s.tlc.queue ∧ (presentSnapshot s).tlc.fills = s.tlc.fills ∧
    (presentSnapshot s).tlc.access = s.tlc.access ∧ (presentSnapshot s).tlc.job = s.tlc.job ∧
    (presentSnapshot s).tlc.jobWait = s.tlc.jobWait ∧ (presentSnapshot s).tlc.drains = s.tlc.drains := by
  unfold presentSnapshot
  (repeat' split) <;> simp_all

@[simp] theorem fetchRun_frame (req : Request) (s : State) :
    (fetchRun req s).boot = s.boot ∧ (fetchRun req s).cap = s.cap ∧ (fetchRun req s).jobs = s.jobs ∧
    (fetchRun req s).mfc = s.mfc ∧ (fetchRun req s).homes = s.homes ∧ (fetchRun req s).srb = s.srb ∧
    (fetchRun req s).config = s.config ∧ (fetchRun req s).inbox = s.inbox ∧ (fetchRun req s).book = s.book ∧
    (fetchRun req s).pending = s.pending ∧ (fetchRun req s).tlc.sets = s.tlc.sets ∧
    (fetchRun req s).tlc.lock = s.tlc.lock ∧ (fetchRun req s).tlc.queue = s.tlc.queue ∧
    (fetchRun req s).tlc.fills = s.tlc.fills ∧ (fetchRun req s).tlc.access = s.tlc.access ∧
    (fetchRun req s).tlc.job = s.tlc.job ∧ (fetchRun req s).tlc.jobWait = s.tlc.jobWait ∧
    (fetchRun req s).tlc.drains = s.tlc.drains := by
  unfold fetchRun
  dsimp only
  (repeat' split) <;> simp_all

@[simp] theorem setPanelOp_rest (o : Option PanelOp) (s : State) :
    (setPanelOp o s).tlc.sets = s.tlc.sets ∧ (setPanelOp o s).tlc.lock = s.tlc.lock ∧
    (setPanelOp o s).tlc.queue = s.tlc.queue ∧ (setPanelOp o s).tlc.fills = s.tlc.fills ∧
    (setPanelOp o s).tlc.access = s.tlc.access ∧ (setPanelOp o s).tlc.job = s.tlc.job ∧
    (setPanelOp o s).tlc.jobWait = s.tlc.jobWait ∧ (setPanelOp o s).tlc.drains = s.tlc.drains := by
  simp [setPanelOp]

@[simp] theorem snapshotPoint_rest (o : PanelOp) (x : RunTile) (d : DirState) (s : State) :
    (snapshotPoint o x d s).tlc.sets = s.tlc.sets ∧ (snapshotPoint o x d s).tlc.lock = s.tlc.lock ∧
    (snapshotPoint o x d s).tlc.queue = s.tlc.queue ∧ (snapshotPoint o x d s).tlc.fills = s.tlc.fills ∧
    (snapshotPoint o x d s).tlc.access = s.tlc.access ∧ (snapshotPoint o x d s).tlc.job = s.tlc.job ∧
    (snapshotPoint o x d s).tlc.jobWait = s.tlc.jobWait ∧ (snapshotPoint o x d s).tlc.drains = s.tlc.drains := by
  unfold snapshotPoint
  dsimp only
  (repeat' split) <;> simp_all

@[simp] theorem snapshot_frame (o : PanelOp) (s : State) :
    (snapshot o s).boot = s.boot ∧ (snapshot o s).cap = s.cap ∧ (snapshot o s).jobs = s.jobs ∧
    (snapshot o s).homes = s.homes ∧ (snapshot o s).srb = s.srb ∧ (snapshot o s).config = s.config ∧
    (snapshot o s).inbox = s.inbox ∧ (snapshot o s).book = s.book ∧ (snapshot o s).pending = s.pending ∧
    (snapshot o s).tlc.lock = s.tlc.lock ∧ (snapshot o s).tlc.access = s.tlc.access ∧
    (snapshot o s).tlc.job = s.tlc.job ∧ (snapshot o s).tlc.drains = s.tlc.drains ∧
    (snapshot o s).mfc.marker = s.mfc.marker ∧ (snapshot o s).mfc.spares = s.mfc.spares ∧
    (snapshot o s).mfc.seq = s.mfc.seq ∧ (snapshot o s).mfc.flash = s.mfc.flash ∧
    (snapshot o s).mfc.wear = s.mfc.wear ∧ (snapshot o s).mfc.programs = s.mfc.programs := by
  unfold snapshot
  have frame := readTileAt_frame o.tile (grantOther s)
  have rest := readTileAt_rest o.tile (grantOther s)
  generalize readTileAt o.tile (grantOther s) = r at frame rest
  obtain ⟨u, outcome⟩ := r
  dsimp only at frame rest ⊢
  (repeat' split) <;> simp_all

@[simp] theorem panelSnapshot_frame (s : State) :
    (panelSnapshot s).boot = s.boot ∧ (panelSnapshot s).cap = s.cap ∧ (panelSnapshot s).jobs = s.jobs ∧
    (panelSnapshot s).homes = s.homes ∧ (panelSnapshot s).srb = s.srb ∧ (panelSnapshot s).config = s.config ∧
    (panelSnapshot s).inbox = s.inbox ∧ (panelSnapshot s).book = s.book ∧ (panelSnapshot s).pending = s.pending ∧
    (panelSnapshot s).tlc.lock = s.tlc.lock ∧ (panelSnapshot s).tlc.access = s.tlc.access ∧
    (panelSnapshot s).tlc.job = s.tlc.job ∧ (panelSnapshot s).tlc.drains = s.tlc.drains ∧
    (panelSnapshot s).mfc.marker = s.mfc.marker ∧ (panelSnapshot s).mfc.spares = s.mfc.spares ∧
    (panelSnapshot s).mfc.seq = s.mfc.seq ∧ (panelSnapshot s).mfc.flash = s.mfc.flash ∧
    (panelSnapshot s).mfc.wear = s.mfc.wear ∧ (panelSnapshot s).mfc.programs = s.mfc.programs := by
  unfold panelSnapshot
  (repeat' split) <;> simp_all

@[simp] theorem readNotices_frame (req : Request) (s : State) :
    (readNotices req s).boot = s.boot ∧ (readNotices req s).cap = s.cap ∧ (readNotices req s).jobs = s.jobs ∧
    (readNotices req s).tlc = s.tlc ∧ (readNotices req s).mfc = s.mfc ∧ (readNotices req s).homes = s.homes ∧
    (readNotices req s).srb = s.srb ∧ (readNotices req s).config = s.config ∧ (readNotices req s).inbox = s.inbox ∧
    (readNotices req s).book = s.book ∧ (readNotices req s).pending = s.pending := by
  unfold readNotices
  dsimp only
  (repeat' split) <;> simp_all

@[simp] theorem answerStale_frame (req : Request) (found : Option TileNo) (s : State) :
    (answerStale req found s).boot = s.boot ∧ (answerStale req found s).cap = s.cap ∧
    (answerStale req found s).jobs = s.jobs ∧ (answerStale req found s).tlc = s.tlc ∧
    (answerStale req found s).mfc = s.mfc ∧ (answerStale req found s).homes = s.homes ∧
    (answerStale req found s).srb = s.srb ∧ (answerStale req found s).config = s.config ∧
    (answerStale req found s).inbox = s.inbox ∧ (answerStale req found s).book = s.book ∧
    (answerStale req found s).pending = s.pending := by
  unfold answerStale
  (repeat' split) <;> simp_all

@[simp] theorem nextStale_frame (req : Request) (s : State) :
    (nextStale req s).boot = s.boot ∧ (nextStale req s).cap = s.cap ∧ (nextStale req s).jobs = s.jobs ∧
    (nextStale req s).tlc = s.tlc ∧ (nextStale req s).mfc = s.mfc ∧ (nextStale req s).homes = s.homes ∧
    (nextStale req s).srb = s.srb ∧ (nextStale req s).config = s.config ∧ (nextStale req s).inbox = s.inbox ∧
    (nextStale req s).book = s.book ∧ (nextStale req s).pending = s.pending := by
  unfold nextStale
  (repeat' split) <;> simp_all

@[simp] theorem readProfile_frame (req : Request) (s : State) :
    (readProfile req s).boot = s.boot ∧ (readProfile req s).cap = s.cap ∧ (readProfile req s).jobs = s.jobs ∧
    (readProfile req s).tlc = s.tlc ∧ (readProfile req s).mfc = s.mfc ∧ (readProfile req s).homes = s.homes ∧
    (readProfile req s).pcd = s.pcd ∧ (readProfile req s).srb = s.srb ∧ (readProfile req s).config = s.config ∧
    (readProfile req s).inbox = s.inbox ∧ (readProfile req s).book = s.book ∧
    (readProfile req s).pending = s.pending := by
  unfold readProfile
  (repeat' split) <;> simp_all

@[simp] theorem resetPanelSide_rest (req : Request) (s : State) :
    (resetPanelSide req s).tlc.sets = s.tlc.sets ∧ (resetPanelSide req s).tlc.lock = s.tlc.lock ∧
    (resetPanelSide req s).tlc.queue = s.tlc.queue ∧ (resetPanelSide req s).tlc.fills = s.tlc.fills ∧
    (resetPanelSide req s).tlc.access = s.tlc.access ∧ (resetPanelSide req s).tlc.job = s.tlc.job ∧
    (resetPanelSide req s).tlc.jobWait = s.tlc.jobWait ∧ (resetPanelSide req s).tlc.drains = s.tlc.drains := by
  simp [resetPanelSide]

@[simp] theorem panelHello_rest (req : Request) (s : State) :
    (panelHello req s).tlc.sets = s.tlc.sets ∧ (panelHello req s).tlc.lock = s.tlc.lock ∧
    (panelHello req s).tlc.queue = s.tlc.queue ∧ (panelHello req s).tlc.fills = s.tlc.fills ∧
    (panelHello req s).tlc.access = s.tlc.access ∧ (panelHello req s).tlc.job = s.tlc.job ∧
    (panelHello req s).tlc.jobWait = s.tlc.jobWait ∧ (panelHello req s).tlc.drains = s.tlc.drains := by
  unfold panelHello
  (repeat' split) <;> simp_all

/-! ## The SPI ports -/

@[simp] theorem takeHello_rest (tag : Byte) (body : List Byte) (s : State) :
    (takeHello tag body s).tlc.sets = s.tlc.sets ∧ (takeHello tag body s).tlc.lock = s.tlc.lock ∧
    (takeHello tag body s).tlc.queue = s.tlc.queue ∧ (takeHello tag body s).tlc.fills = s.tlc.fills ∧
    (takeHello tag body s).tlc.access = s.tlc.access ∧ (takeHello tag body s).tlc.job = s.tlc.job ∧
    (takeHello tag body s).tlc.jobWait = s.tlc.jobWait ∧ (takeHello tag body s).tlc.drains = s.tlc.drains := by
  simp [takeHello]

@[simp] theorem panelRecord_rest (kind tag : Byte) (body : List Byte) (s : State) :
    (panelRecord kind tag body s).tlc.sets = s.tlc.sets ∧ (panelRecord kind tag body s).tlc.lock = s.tlc.lock ∧
    (panelRecord kind tag body s).tlc.queue = s.tlc.queue ∧ (panelRecord kind tag body s).tlc.fills = s.tlc.fills ∧
    (panelRecord kind tag body s).tlc.access = s.tlc.access ∧ (panelRecord kind tag body s).tlc.job = s.tlc.job ∧
    (panelRecord kind tag body s).tlc.jobWait = s.tlc.jobWait ∧
    (panelRecord kind tag body s).tlc.drains = s.tlc.drains := by
  unfold panelRecord
  dsimp only
  (repeat' split) <;> simp_all

@[simp] theorem panelRequestTransaction_frame (mosi : List Byte) (s : State) :
    (panelRequestTransaction mosi s).boot = s.boot ∧ (panelRequestTransaction mosi s).cap = s.cap ∧
    (panelRequestTransaction mosi s).jobs = s.jobs ∧ (panelRequestTransaction mosi s).mfc = s.mfc ∧
    (panelRequestTransaction mosi s).homes = s.homes ∧ (panelRequestTransaction mosi s).srb = s.srb ∧
    (panelRequestTransaction mosi s).config = s.config ∧ (panelRequestTransaction mosi s).pending = s.pending ∧
    (panelRequestTransaction mosi s).tlc.sets = s.tlc.sets ∧ (panelRequestTransaction mosi s).tlc.lock = s.tlc.lock ∧
    (panelRequestTransaction mosi s).tlc.queue = s.tlc.queue ∧
    (panelRequestTransaction mosi s).tlc.fills = s.tlc.fills ∧
    (panelRequestTransaction mosi s).tlc.access = s.tlc.access ∧
    (panelRequestTransaction mosi s).tlc.job = s.tlc.job ∧
    (panelRequestTransaction mosi s).tlc.jobWait = s.tlc.jobWait ∧
    (panelRequestTransaction mosi s).tlc.drains = s.tlc.drains := by
  unfold panelRequestTransaction
  (repeat' split) <;> simp_all

@[simp] theorem systemRequestTransaction_frame (mosi : List Byte) (s : State) :
    (systemRequestTransaction mosi s).boot = s.boot ∧ (systemRequestTransaction mosi s).cap = s.cap ∧
    (systemRequestTransaction mosi s).jobs = s.jobs ∧ (systemRequestTransaction mosi s).tlc = s.tlc ∧
    (systemRequestTransaction mosi s).mfc = s.mfc ∧ (systemRequestTransaction mosi s).homes = s.homes ∧
    (systemRequestTransaction mosi s).pcd = s.pcd ∧ (systemRequestTransaction mosi s).srb = s.srb ∧
    (systemRequestTransaction mosi s).config = s.config ∧ (systemRequestTransaction mosi s).pending = s.pending := by
  unfold systemRequestTransaction
  (repeat' split) <;> simp_all

@[simp] theorem foldl_deliverTile_frame (xs : List RunTile) (s : State) :
    let t := xs.foldl (fun (s : State) (x : RunTile) => deliverTile x s) s
    t.boot = s.boot ∧ t.cap = s.cap ∧ t.jobs = s.jobs ∧ t.tlc = s.tlc ∧ t.mfc = s.mfc ∧ t.homes = s.homes ∧
    t.pnp = s.pnp ∧ t.srb = s.srb ∧ t.fxl = s.fxl ∧ t.config = s.config ∧ t.inbox = s.inbox ∧ t.book = s.book ∧
    t.pending = s.pending := by
  induction xs generalizing s with
  | nil => simp
  | cons x xs ih => simpa using ih (deliverTile x s)

@[simp] theorem deliverRun_frame (xs : List RunTile) (s : State) :
    (deliverRun xs s).boot = s.boot ∧ (deliverRun xs s).cap = s.cap ∧ (deliverRun xs s).jobs = s.jobs ∧
    (deliverRun xs s).tlc = s.tlc ∧ (deliverRun xs s).mfc = s.mfc ∧ (deliverRun xs s).homes = s.homes ∧
    (deliverRun xs s).pnp = s.pnp ∧ (deliverRun xs s).srb = s.srb ∧ (deliverRun xs s).fxl = s.fxl ∧
    (deliverRun xs s).config = s.config ∧ (deliverRun xs s).inbox = s.inbox ∧ (deliverRun xs s).book = s.book ∧
    (deliverRun xs s).pending = s.pending := by
  simp [deliverRun]

@[simp] theorem deliverPanel_frame (r : Reply) (s : State) :
    (deliverPanel r s).boot = s.boot ∧ (deliverPanel r s).cap = s.cap ∧ (deliverPanel r s).jobs = s.jobs ∧
    (deliverPanel r s).tlc = s.tlc ∧ (deliverPanel r s).mfc = s.mfc ∧ (deliverPanel r s).homes = s.homes ∧
    (deliverPanel r s).srb = s.srb ∧ (deliverPanel r s).fxl = s.fxl ∧ (deliverPanel r s).config = s.config ∧
    (deliverPanel r s).inbox = s.inbox ∧ (deliverPanel r s).book = s.book ∧
    (deliverPanel r s).pending = s.pending := by
  unfold deliverPanel
  dsimp only
  (repeat' split) <;> simp_all

@[simp] theorem panelReplyTransaction_frame (clocks : Nat) (s : State) :
    (panelReplyTransaction clocks s).boot = s.boot ∧ (panelReplyTransaction clocks s).cap = s.cap ∧
    (panelReplyTransaction clocks s).jobs = s.jobs ∧ (panelReplyTransaction clocks s).tlc = s.tlc ∧
    (panelReplyTransaction clocks s).mfc = s.mfc ∧ (panelReplyTransaction clocks s).homes = s.homes ∧
    (panelReplyTransaction clocks s).srb = s.srb ∧ (panelReplyTransaction clocks s).fxl = s.fxl ∧
    (panelReplyTransaction clocks s).config = s.config ∧ (panelReplyTransaction clocks s).inbox = s.inbox ∧
    (panelReplyTransaction clocks s).book = s.book ∧ (panelReplyTransaction clocks s).pending = s.pending := by
  unfold panelReplyTransaction
  dsimp only
  (repeat' split) <;> simp_all

@[simp] theorem systemReplyTransaction_frame (clocks : Nat) (s : State) :
    (systemReplyTransaction clocks s).boot = s.boot ∧ (systemReplyTransaction clocks s).cap = s.cap ∧
    (systemReplyTransaction clocks s).jobs = s.jobs ∧ (systemReplyTransaction clocks s).tlc = s.tlc ∧
    (systemReplyTransaction clocks s).mfc = s.mfc ∧ (systemReplyTransaction clocks s).homes = s.homes ∧
    (systemReplyTransaction clocks s).pcd = s.pcd ∧ (systemReplyTransaction clocks s).pnp = s.pnp ∧
    (systemReplyTransaction clocks s).srb = s.srb ∧ (systemReplyTransaction clocks s).fxl = s.fxl ∧
    (systemReplyTransaction clocks s).mct = s.mct ∧ (systemReplyTransaction clocks s).config = s.config ∧
    (systemReplyTransaction clocks s).inbox = s.inbox ∧ (systemReplyTransaction clocks s).book = s.book ∧
    (systemReplyTransaction clocks s).pending = s.pending := by
  unfold systemReplyTransaction
  dsimp only
  (repeat' split) <;> simp_all

@[simp] theorem panelStatusTransaction_frame (s : State) :
    (panelStatusTransaction s).boot = s.boot ∧ (panelStatusTransaction s).cap = s.cap ∧
    (panelStatusTransaction s).jobs = s.jobs ∧ (panelStatusTransaction s).tlc = s.tlc ∧
    (panelStatusTransaction s).mfc = s.mfc ∧ (panelStatusTransaction s).homes = s.homes ∧
    (panelStatusTransaction s).pcd = s.pcd ∧ (panelStatusTransaction s).srb = s.srb ∧
    (panelStatusTransaction s).fxl = s.fxl ∧ (panelStatusTransaction s).syp = s.syp ∧
    (panelStatusTransaction s).mct = s.mct ∧ (panelStatusTransaction s).config = s.config ∧
    (panelStatusTransaction s).inbox = s.inbox ∧ (panelStatusTransaction s).book = s.book ∧
    (panelStatusTransaction s).pending = s.pending := by
  simp [panelStatusTransaction]

@[simp] theorem systemStatusTransaction_frame (s : State) :
    (systemStatusTransaction s).boot = s.boot ∧ (systemStatusTransaction s).cap = s.cap ∧
    (systemStatusTransaction s).jobs = s.jobs ∧ (systemStatusTransaction s).tlc = s.tlc ∧
    (systemStatusTransaction s).mfc = s.mfc ∧ (systemStatusTransaction s).homes = s.homes ∧
    (systemStatusTransaction s).pcd = s.pcd ∧ (systemStatusTransaction s).pnp = s.pnp ∧
    (systemStatusTransaction s).srb = s.srb ∧ (systemStatusTransaction s).fxl = s.fxl ∧
    (systemStatusTransaction s).mct = s.mct ∧ (systemStatusTransaction s).config = s.config ∧
    (systemStatusTransaction s).inbox = s.inbox ∧ (systemStatusTransaction s).book = s.book ∧
    (systemStatusTransaction s).pending = s.pending := by
  simp [systemStatusTransaction]

/-! ## The fixture link -/

@[simp] theorem clearStationReservations_rest (s : State) :
    (clearStationReservations s).srb.keys = s.srb.keys ∧ (clearStationReservations s).srb.region = s.srb.region ∧
    (clearStationReservations s).srb.label = s.srb.label ∧ (clearStationReservations s).srb.stage = s.srb.stage := by
  simp [clearStationReservations]

@[simp] theorem enterSilent_rest (s : State) :
    (enterSilent s).srb.keys = s.srb.keys ∧ (enterSilent s).srb.region = s.srb.region ∧
    (enterSilent s).srb.label = s.srb.label ∧ (enterSilent s).srb.stage = s.srb.stage := by
  simp [enterSilent]

@[simp] theorem badFrameEffect_rest (s : State) :
    (badFrameEffect s).srb.keys = s.srb.keys ∧ (badFrameEffect s).srb.region = s.srb.region ∧
    (badFrameEffect s).srb.label = s.srb.label ∧ (badFrameEffect s).srb.stage = s.srb.stage := by
  unfold badFrameEffect
  (repeat' split) <;> simp_all

@[simp] theorem syncCharacterReceived_frame (s : State) :
    (syncCharacterReceived s).boot = s.boot ∧ (syncCharacterReceived s).cap = s.cap ∧
    (syncCharacterReceived s).jobs = s.jobs ∧ (syncCharacterReceived s).tlc = s.tlc ∧
    (syncCharacterReceived s).mfc = s.mfc ∧ (syncCharacterReceived s).homes = s.homes ∧
    (syncCharacterReceived s).pcd = s.pcd ∧ (syncCharacterReceived s).pnp = s.pnp ∧
    (syncCharacterReceived s).srb = s.srb ∧ (syncCharacterReceived s).syp = s.syp ∧
    (syncCharacterReceived s).mct = s.mct ∧ (syncCharacterReceived s).config = s.config ∧
    (syncCharacterReceived s).inbox = s.inbox ∧ (syncCharacterReceived s).book = s.book ∧
    (syncCharacterReceived s).pending = s.pending := by
  unfold syncCharacterReceived
  (repeat' split) <;> simp_all

@[simp] theorem badFrame_frame (chars : List Byte) (framingError : Bool) (s : State) :
    (badFrame chars framingError s).boot = s.boot ∧ (badFrame chars framingError s).cap = s.cap ∧
    (badFrame chars framingError s).jobs = s.jobs ∧ (badFrame chars framingError s).tlc = s.tlc ∧
    (badFrame chars framingError s).mfc = s.mfc ∧ (badFrame chars framingError s).homes = s.homes ∧
    (badFrame chars framingError s).pcd = s.pcd ∧ (badFrame chars framingError s).pnp = s.pnp ∧
    (badFrame chars framingError s).mct = s.mct ∧ (badFrame chars framingError s).config = s.config ∧
    (badFrame chars framingError s).inbox = s.inbox ∧ (badFrame chars framingError s).book = s.book ∧
    (badFrame chars framingError s).pending = s.pending ∧ (badFrame chars framingError s).srb.keys = s.srb.keys ∧
    (badFrame chars framingError s).srb.region = s.srb.region ∧
    (badFrame chars framingError s).srb.label = s.srb.label ∧
    (badFrame chars framingError s).srb.stage = s.srb.stage := by
  unfold badFrame
  (repeat' split) <;> simp_all

@[simp] theorem frameGapTimeout_frame (s : State) :
    (frameGapTimeout s).boot = s.boot ∧ (frameGapTimeout s).cap = s.cap ∧ (frameGapTimeout s).jobs = s.jobs ∧
    (frameGapTimeout s).tlc = s.tlc ∧ (frameGapTimeout s).mfc = s.mfc ∧ (frameGapTimeout s).homes = s.homes ∧
    (frameGapTimeout s).pcd = s.pcd ∧ (frameGapTimeout s).pnp = s.pnp ∧ (frameGapTimeout s).mct = s.mct ∧
    (frameGapTimeout s).config = s.config ∧ (frameGapTimeout s).inbox = s.inbox ∧ (frameGapTimeout s).book = s.book ∧
    (frameGapTimeout s).pending = s.pending ∧ (frameGapTimeout s).srb.keys = s.srb.keys ∧
    (frameGapTimeout s).srb.region = s.srb.region ∧ (frameGapTimeout s).srb.label = s.srb.label ∧
    (frameGapTimeout s).srb.stage = s.srb.stage := by
  unfold frameGapTimeout
  (repeat' split) <;> simp_all

@[simp] theorem droppingIdleEnd_frame (s : State) :
    (droppingIdleEnd s).boot = s.boot ∧ (droppingIdleEnd s).cap = s.cap ∧ (droppingIdleEnd s).jobs = s.jobs ∧
    (droppingIdleEnd s).tlc = s.tlc ∧ (droppingIdleEnd s).mfc = s.mfc ∧ (droppingIdleEnd s).homes = s.homes ∧
    (droppingIdleEnd s).pcd = s.pcd ∧ (droppingIdleEnd s).pnp = s.pnp ∧ (droppingIdleEnd s).srb = s.srb ∧
    (droppingIdleEnd s).syp = s.syp ∧ (droppingIdleEnd s).mct = s.mct ∧ (droppingIdleEnd s).config = s.config ∧
    (droppingIdleEnd s).inbox = s.inbox ∧ (droppingIdleEnd s).book = s.book ∧
    (droppingIdleEnd s).pending = s.pending := by
  unfold droppingIdleEnd
  (repeat' split) <;> simp_all

@[simp] theorem requestFrame_frame (chars : List Byte) (s : State) :
    (requestFrame chars s).boot = s.boot ∧ (requestFrame chars s).cap = s.cap ∧
    (requestFrame chars s).jobs = s.jobs ∧ (requestFrame chars s).tlc = s.tlc ∧ (requestFrame chars s).mfc = s.mfc ∧
    (requestFrame chars s).homes = s.homes ∧ (requestFrame chars s).pcd = s.pcd ∧
    (requestFrame chars s).srb = s.srb ∧ (requestFrame chars s).config = s.config ∧
    (requestFrame chars s).pending = s.pending := by
  unfold requestFrame
  (repeat' split) <;> simp_all

@[simp] theorem idleMark_frame (chars : List Byte) (s : State) :
    (idleMark chars s).boot = s.boot ∧ (idleMark chars s).cap = s.cap ∧ (idleMark chars s).jobs = s.jobs ∧
    (idleMark chars s).tlc = s.tlc ∧ (idleMark chars s).mfc = s.mfc ∧ (idleMark chars s).homes = s.homes ∧
    (idleMark chars s).pcd = s.pcd ∧ (idleMark chars s).pnp = s.pnp ∧ (idleMark chars s).srb = s.srb ∧
    (idleMark chars s).mct = s.mct ∧ (idleMark chars s).config = s.config ∧ (idleMark chars s).inbox = s.inbox ∧
    (idleMark chars s).book = s.book ∧ (idleMark chars s).pending = s.pending := by
  unfold idleMark
  (repeat' split) <;> simp_all

@[simp] theorem replyFrameStart_frame (s : State) :
    (replyFrameStart s).boot = s.boot ∧ (replyFrameStart s).cap = s.cap ∧ (replyFrameStart s).jobs = s.jobs ∧
    (replyFrameStart s).tlc = s.tlc ∧ (replyFrameStart s).mfc = s.mfc ∧ (replyFrameStart s).homes = s.homes ∧
    (replyFrameStart s).pcd = s.pcd ∧ (replyFrameStart s).pnp = s.pnp ∧ (replyFrameStart s).srb = s.srb ∧
    (replyFrameStart s).syp = s.syp ∧ (replyFrameStart s).mct = s.mct ∧ (replyFrameStart s).config = s.config ∧
    (replyFrameStart s).inbox = s.inbox ∧ (replyFrameStart s).book = s.book ∧
    (replyFrameStart s).pending = s.pending := by
  unfold replyFrameStart
  (repeat' split) <;> simp_all

@[simp] theorem replyFrameSent_frame (s : State) :
    (replyFrameSent s).boot = s.boot ∧ (replyFrameSent s).cap = s.cap ∧ (replyFrameSent s).jobs = s.jobs ∧
    (replyFrameSent s).tlc = s.tlc ∧ (replyFrameSent s).mfc = s.mfc ∧ (replyFrameSent s).homes = s.homes ∧
    (replyFrameSent s).pcd = s.pcd ∧ (replyFrameSent s).pnp = s.pnp ∧ (replyFrameSent s).srb = s.srb ∧
    (replyFrameSent s).syp = s.syp ∧ (replyFrameSent s).mct = s.mct ∧ (replyFrameSent s).config = s.config ∧
    (replyFrameSent s).inbox = s.inbox ∧ (replyFrameSent s).book = s.book ∧
    (replyFrameSent s).pending = s.pending := by
  unfold replyFrameSent
  (repeat' split) <;> simp_all

@[simp] theorem fixtureBreak_frame (s : State) :
    (fixtureBreak s).boot = s.boot ∧ (fixtureBreak s).cap = s.cap ∧ (fixtureBreak s).jobs = s.jobs ∧
    (fixtureBreak s).tlc = s.tlc ∧ (fixtureBreak s).mfc = s.mfc ∧ (fixtureBreak s).homes = s.homes ∧
    (fixtureBreak s).pcd = s.pcd ∧ (fixtureBreak s).pnp = s.pnp ∧ (fixtureBreak s).mct = s.mct ∧
    (fixtureBreak s).config = s.config ∧ (fixtureBreak s).inbox = s.inbox ∧ (fixtureBreak s).book = s.book ∧
    (fixtureBreak s).pending = s.pending ∧ (fixtureBreak s).srb.keys = s.srb.keys ∧
    (fixtureBreak s).srb.region = s.srb.region ∧ (fixtureBreak s).srb.label = s.srb.label ∧
    (fixtureBreak s).srb.stage = s.srb.stage := by
  unfold fixtureBreak
  (repeat' split) <;> simp_all

/-! ## The system side -/

@[simp] theorem linkResume_frame (req : Request) (s : State) :
    (linkResume req s).boot = s.boot ∧ (linkResume req s).cap = s.cap ∧ (linkResume req s).jobs = s.jobs ∧
    (linkResume req s).tlc = s.tlc ∧ (linkResume req s).mfc = s.mfc ∧ (linkResume req s).homes = s.homes ∧
    (linkResume req s).pcd = s.pcd ∧ (linkResume req s).srb = s.srb ∧ (linkResume req s).config = s.config ∧
    (linkResume req s).inbox = s.inbox ∧ (linkResume req s).book = s.book ∧
    (linkResume req s).pending = s.pending := by
  unfold linkResume
  (repeat' split) <;> simp_all

@[simp] theorem replyFlags_frame (req : Request) (s : State) :
    (replyFlags req s).boot = s.boot ∧ (replyFlags req s).cap = s.cap ∧ (replyFlags req s).jobs = s.jobs ∧
    (replyFlags req s).tlc = s.tlc ∧ (replyFlags req s).mfc = s.mfc ∧ (replyFlags req s).homes = s.homes ∧
    (replyFlags req s).pcd = s.pcd ∧ (replyFlags req s).srb = s.srb ∧ (replyFlags req s).config = s.config ∧
    (replyFlags req s).inbox = s.inbox ∧ (replyFlags req s).book = s.book ∧
    (replyFlags req s).pending = s.pending := by
  simp [replyFlags]

@[simp] theorem ackEvents_frame (req : Request) (s : State) :
    (ackEvents req s).boot = s.boot ∧ (ackEvents req s).cap = s.cap ∧ (ackEvents req s).jobs = s.jobs ∧
    (ackEvents req s).tlc = s.tlc ∧ (ackEvents req s).mfc = s.mfc ∧ (ackEvents req s).homes = s.homes ∧
    (ackEvents req s).pcd = s.pcd ∧ (ackEvents req s).srb = s.srb ∧ (ackEvents req s).config = s.config ∧
    (ackEvents req s).inbox = s.inbox ∧ (ackEvents req s).book = s.book ∧ (ackEvents req s).pending = s.pending := by
  unfold ackEvents
  (repeat' split) <;> simp_all

@[simp] theorem setEventMask_frame (req : Request) (s : State) :
    (setEventMask req s).boot = s.boot ∧ (setEventMask req s).cap = s.cap ∧ (setEventMask req s).jobs = s.jobs ∧
    (setEventMask req s).tlc = s.tlc ∧ (setEventMask req s).mfc = s.mfc ∧ (setEventMask req s).homes = s.homes ∧
    (setEventMask req s).pcd = s.pcd ∧ (setEventMask req s).srb = s.srb ∧ (setEventMask req s).config = s.config ∧
    (setEventMask req s).inbox = s.inbox ∧ (setEventMask req s).book = s.book ∧
    (setEventMask req s).pending = s.pending := by
  unfold setEventMask
  (repeat' split) <;> simp_all

@[simp] theorem readCounters_frame (req : Request) (s : State) :
    (readCounters req s).boot = s.boot ∧ (readCounters req s).cap = s.cap ∧ (readCounters req s).jobs = s.jobs ∧
    (readCounters req s).tlc = s.tlc ∧ (readCounters req s).mfc = s.mfc ∧ (readCounters req s).homes = s.homes ∧
    (readCounters req s).pcd = s.pcd ∧ (readCounters req s).srb = s.srb ∧ (readCounters req s).config = s.config ∧
    (readCounters req s).inbox = s.inbox ∧ (readCounters req s).book = s.book ∧
    (readCounters req s).pending = s.pending := by
  unfold readCounters
  (repeat' split) <;> simp_all

@[simp] theorem clearCounters_frame (req : Request) (s : State) :
    (clearCounters req s).boot = s.boot ∧ (clearCounters req s).cap = s.cap ∧ (clearCounters req s).jobs = s.jobs ∧
    (clearCounters req s).tlc = s.tlc ∧ (clearCounters req s).mfc = s.mfc ∧ (clearCounters req s).homes = s.homes ∧
    (clearCounters req s).pcd = s.pcd ∧ (clearCounters req s).srb = s.srb ∧ (clearCounters req s).config = s.config ∧
    (clearCounters req s).inbox = s.inbox ∧ (clearCounters req s).book = s.book ∧
    (clearCounters req s).pending = s.pending := by
  unfold clearCounters
  (repeat' split) <;> simp_all

@[simp] theorem writeConfig_frame (req : Request) (s : State) :
    (writeConfig req s).boot = s.boot ∧ (writeConfig req s).cap = s.cap ∧ (writeConfig req s).jobs = s.jobs ∧
    (writeConfig req s).tlc = s.tlc ∧ (writeConfig req s).homes = s.homes ∧ (writeConfig req s).pcd = s.pcd ∧
    (writeConfig req s).srb = s.srb ∧ (writeConfig req s).inbox = s.inbox ∧ (writeConfig req s).book = s.book ∧
    (writeConfig req s).pending = s.pending ∧ (writeConfig req s).mfc.header = s.mfc.header ∧
    (writeConfig req s).mfc.marker = s.mfc.marker ∧ (writeConfig req s).mfc.spares = s.mfc.spares ∧
    (writeConfig req s).mfc.seq = s.mfc.seq ∧ (writeConfig req s).mfc.flash = s.mfc.flash ∧
    (writeConfig req s).mfc.wear = s.mfc.wear ∧ (writeConfig req s).mfc.reads = s.mfc.reads := by
  unfold writeConfig
  (repeat' split) <;> simp_all

@[simp] theorem setConfigHome_frame (h : Home ConfigRecord) (s : State) :
    (setConfigHome h s).boot = s.boot ∧ (setConfigHome h s).cap = s.cap ∧ (setConfigHome h s).jobs = s.jobs ∧
    (setConfigHome h s).tlc = s.tlc ∧ (setConfigHome h s).mfc = s.mfc ∧ (setConfigHome h s).pcd = s.pcd ∧
    (setConfigHome h s).pnp = s.pnp ∧ (setConfigHome h s).srb = s.srb ∧ (setConfigHome h s).fxl = s.fxl ∧
    (setConfigHome h s).syp = s.syp ∧ (setConfigHome h s).mct = s.mct ∧ (setConfigHome h s).config = s.config ∧
    (setConfigHome h s).inbox = s.inbox ∧ (setConfigHome h s).book = s.book ∧
    (setConfigHome h s).pending = s.pending ∧ (setConfigHome h s).homes.tile = s.homes.tile ∧
    (setConfigHome h s).homes.spare = s.homes.spare ∧ (setConfigHome h s).homes.header = s.homes.header ∧
    (setConfigHome h s).homes.key = s.homes.key ∧ (setConfigHome h s).homes.region = s.homes.region ∧
    (setConfigHome h s).homes.label = s.homes.label ∧ (setConfigHome h s).homes.stage = s.homes.stage := by
  simp [setConfigHome]

@[simp] theorem configProgramComplete_frame (verified : Bool) (s : State) :
    (configProgramComplete verified s).boot = s.boot ∧ (configProgramComplete verified s).cap = s.cap ∧
    (configProgramComplete verified s).pcd = s.pcd ∧ (configProgramComplete verified s).srb = s.srb ∧
    (configProgramComplete verified s).config = s.config ∧ (configProgramComplete verified s).inbox = s.inbox ∧
    (configProgramComplete verified s).book = s.book ∧ (configProgramComplete verified s).pending = s.pending ∧
    (configProgramComplete verified s).jobs.boxes = s.jobs.boxes ∧
    (configProgramComplete verified s).jobs.seq = s.jobs.seq ∧
    (configProgramComplete verified s).tlc.sets = s.tlc.sets ∧
    (configProgramComplete verified s).tlc.lock = s.tlc.lock ∧
    (configProgramComplete verified s).tlc.queue = s.tlc.queue ∧
    (configProgramComplete verified s).tlc.fills = s.tlc.fills ∧
    (configProgramComplete verified s).tlc.panel = s.tlc.panel ∧
    (configProgramComplete verified s).tlc.access = s.tlc.access ∧
    (configProgramComplete verified s).tlc.job = s.tlc.job ∧
    (configProgramComplete verified s).tlc.jobWait = s.tlc.jobWait ∧
    (configProgramComplete verified s).mfc.header = s.mfc.header ∧
    (configProgramComplete verified s).mfc.marker = s.mfc.marker ∧
    (configProgramComplete verified s).mfc.spares = s.mfc.spares ∧
    (configProgramComplete verified s).mfc.seq = s.mfc.seq ∧
    (configProgramComplete verified s).mfc.wear = s.mfc.wear ∧
    (configProgramComplete verified s).mfc.reads = s.mfc.reads ∧
    (configProgramComplete verified s).mfc.programs = s.mfc.programs ∧
    (configProgramComplete verified s).homes.tile = s.homes.tile ∧
    (configProgramComplete verified s).homes.spare = s.homes.spare ∧
    (configProgramComplete verified s).homes.header = s.homes.header ∧
    (configProgramComplete verified s).homes.key = s.homes.key ∧
    (configProgramComplete verified s).homes.region = s.homes.region ∧
    (configProgramComplete verified s).homes.label = s.homes.label ∧
    (configProgramComplete verified s).homes.stage = s.homes.stage := by
  unfold configProgramComplete
  dsimp only
  (repeat' split) <;> simp_all

end Sys2Proof.Proofs.Frames
end

section
/-! What a command makes of the state, as a function, and how an invariant of every command becomes one of every step. -/

namespace Sys2Proof.Proofs.Steps

open Sys2Proof Sys2Proof.Machine

/-- The state that a command leaves: no command faults or is refused. -/
def effect (c : Instr) (s : State) : State :=
  match exec c s with
  | .next t => t
  | .fault _ | .refused _ => s

theorem exec_eq_effect (c : Instr) (s : State) : exec c s = .next (effect c s) := by
  obtain ⟨t, h⟩ := exec_next c s
  rw [effect, h]

/-! ## Each command's meaning -/

@[simp] theorem effect_powerOn (s : State) : effect .powerOn s = resetPart .config s := rfl
@[simp] theorem effect_resetAssert (s : State) : effect .resetAssert s = resetPart .held s := rfl
@[simp] theorem effect_resetRelease (s : State) : effect .resetRelease s = resetRelease s := rfl
@[simp] theorem effect_startupConfigRead (s : State) : effect .startupConfigRead s = startupConfigRead s := rfl
@[simp] theorem effect_spareScan (s : State) : effect .spareScan s = spareScan s := rfl
@[simp] theorem effect_headerLoad (s : State) : effect .headerLoad s = headerLoad s := rfl
@[simp] theorem effect_keyHomeLoad (s : State) : effect .keyHomeLoad s = keyHomeLoad s := rfl
@[simp] theorem effect_regionLabelLoad (s : State) : effect .regionLabelLoad s = regionLabelLoad s := rfl
@[simp] theorem effect_stageLoad (s : State) : effect .stageLoad s = stageLoad s := rfl
@[simp] theorem effect_panelRequestTransaction (mosi : List Byte) (s : State) :
    effect (.panelRequestTransaction mosi) s = panelRequestTransaction mosi s := rfl
@[simp] theorem effect_panelReplyTransaction (clocks : Nat) (s : State) :
    effect (.panelReplyTransaction clocks) s = panelReplyTransaction clocks s := rfl
@[simp] theorem effect_panelStatusTransaction (s : State) :
    effect .panelStatusTransaction s = panelStatusTransaction s := rfl
@[simp] theorem effect_systemRequestTransaction (mosi : List Byte) (s : State) :
    effect (.systemRequestTransaction mosi) s = systemRequestTransaction mosi s := rfl
@[simp] theorem effect_systemReplyTransaction (clocks : Nat) (s : State) :
    effect (.systemReplyTransaction clocks) s = systemReplyTransaction clocks s := rfl
@[simp] theorem effect_systemStatusTransaction (s : State) :
    effect .systemStatusTransaction s = systemStatusTransaction s := rfl
@[simp] theorem effect_requestFrame (chars : List Byte) (s : State) :
    effect (.requestFrame chars) s = requestFrame chars s := rfl
@[simp] theorem effect_idleMark (chars : List Byte) (s : State) : effect (.idleMark chars) s = idleMark chars s := rfl
@[simp] theorem effect_badFrame (chars : List Byte) (framingError : Bool) (s : State) :
    effect (.badFrame chars framingError) s = badFrame chars framingError s := rfl
@[simp] theorem effect_frameGapTimeout (s : State) : effect .frameGapTimeout s = frameGapTimeout s := rfl
@[simp] theorem effect_droppingIdleEnd (s : State) : effect .droppingIdleEnd s = droppingIdleEnd s := rfl
@[simp] theorem effect_replyFrameStart (s : State) : effect .replyFrameStart s = replyFrameStart s := rfl
@[simp] theorem effect_replyFrameSent (s : State) : effect .replyFrameSent s = replyFrameSent s := rfl
@[simp] theorem effect_fixtureBreak (s : State) : effect .fixtureBreak s = fixtureBreak s := rfl
@[simp] theorem effect_openCapture (m : Master) (s : State) :
    effect (.openCapture m) s = serve .openCapture m openCapture s := rfl
@[simp] theorem effect_putRow (m : Master) (s : State) : effect (.putRow m) s = serve .putRow m putRow s := rfl
@[simp] theorem effect_discardCapture (m : Master) (s : State) :
    effect (.discardCapture m) s = serve .discardCapture m discardCapture s := rfl
@[simp] theorem effect_captureState (m : Master) (s : State) :
    effect (.captureState m) s = serve .captureState m captureState s := rfl
@[simp] theorem effect_submitJob (m : Master) (s : State) :
    effect (.submitJob m) s = serve .submitJob m submitJob s := rfl
@[simp] theorem effect_readBox (m : Master) (s : State) : effect (.readBox m) s = serve .readBox m readBox s := rfl
@[simp] theorem effect_holdBox (m : Master) (s : State) : effect (.holdBox m) s = serve .holdBox m holdBox s := rfl
@[simp] theorem effect_editBox (m : Master) (s : State) : effect (.editBox m) s = serve .editBox m editBox s := rfl
@[simp] theorem effect_releaseBox (m : Master) (s : State) :
    effect (.releaseBox m) s = serve .releaseBox m releaseBox s := rfl
@[simp] theorem effect_cancelJob (m : Master) (s : State) :
    effect (.cancelJob m) s = serve .cancelJob m cancelJob s := rfl
@[simp] theorem effect_freeBox (m : Master) (s : State) : effect (.freeBox m) s = serve .freeBox m freeBox s := rfl
@[simp] theorem effect_holdExpiry (box : Fin 16) (s : State) : effect (.holdExpiry box) s = holdExpiry box s := rfl
@[simp] theorem effect_jobStart (s : State) : effect .jobStart s = jobStart s := rfl
@[simp] theorem effect_passTileOperation (s : State) : effect .passTileOperation s = passTileOperation s := rfl
@[simp] theorem effect_clearTileOperation (s : State) : effect .clearTileOperation s = clearTileOperation s := rfl
@[simp] theorem effect_commitCopyOut (s : State) : effect .commitCopyOut s = commitCopyOut s := rfl
@[simp] theorem effect_readTile (m : Master) (s : State) : effect (.readTile m) s = serve .readTile m readTile s := rfl
@[simp] theorem effect_readTileAccess (s : State) : effect .readTileAccess s = readTileAccess s := rfl
@[simp] theorem effect_writeTile (m : Master) (s : State) :
    effect (.writeTile m) s = serve .writeTile m writeTile s := rfl
@[simp] theorem effect_writeTileAccess (s : State) : effect .writeTileAccess s = writeTileAccess s := rfl
@[simp] theorem effect_panelSnapshot (s : State) : effect .panelSnapshot s = panelSnapshot s := rfl
@[simp] theorem effect_fillInstall (s : State) : effect .fillInstall s = fillInstall s := rfl
@[simp] theorem effect_lockWays (m : Master) (s : State) : effect (.lockWays m) s = serve .lockWays m lockWays s := rfl
@[simp] theorem effect_drain (m : Master) (s : State) : effect (.drain m) s = serve .drain m drain s := rfl
@[simp] theorem effect_drainReply (s : State) : effect .drainReply s = drainReply s := rfl
@[simp] theorem effect_storageFault (place : FaultPlace) (changes : List (Fin 32 × Int)) (s : State) :
    effect (.storageFault place changes) s = storageFault place changes s := rfl
@[simp] theorem effect_flashGrant (s : State) : effect .flashGrant s = flashGrant s := rfl
@[simp] theorem effect_fillReadComplete (s : State) : effect .fillReadComplete s = fillReadComplete s := rfl
@[simp] theorem effect_tileProgramComplete (verified : Bool) (s : State) :
    effect (.tileProgramComplete verified) s = tileProgramComplete verified s := rfl
@[simp] theorem effect_uncommitProgramComplete (verified : Bool) (s : State) :
    effect (.uncommitProgramComplete verified) s = uncommitProgramComplete verified s := rfl
@[simp] theorem effect_headerCheckReadComplete (s : State) :
    effect .headerCheckReadComplete s = headerCheckReadComplete s := rfl
@[simp] theorem effect_commitDrainDone (s : State) : effect .commitDrainDone s = commitDrainDone s := rfl
@[simp] theorem effect_commitHeaderComplete (verified : Bool) (s : State) :
    effect (.commitHeaderComplete verified) s = commitHeaderComplete verified s := rfl
@[simp] theorem effect_panelHello (m : Master) (s : State) :
    effect (.panelHello m) s = serve .panelHello m panelHello s := rfl
@[simp] theorem effect_fetchRun (m : Master) (s : State) : effect (.fetchRun m) s = serve .fetchRun m fetchRun s := rfl
@[simp] theorem effect_readNotices (m : Master) (s : State) :
    effect (.readNotices m) s = serve .readNotices m readNotices s := rfl
@[simp] theorem effect_nextStale (m : Master) (s : State) :
    effect (.nextStale m) s = serve .nextStale m nextStale s := rfl
@[simp] theorem effect_readProfile (m : Master) (s : State) :
    effect (.readProfile m) s = serve .readProfile m readProfile s := rfl
@[simp] theorem effect_loadKey (m : Master) (s : State) : effect (.loadKey m) s = serve .loadKey m loadKey s := rfl
@[simp] theorem effect_fixKey (m : Master) (s : State) : effect (.fixKey m) s = serve .fixKey m fixKey s := rfl
@[simp] theorem effect_keyFixComplete (verified : Bool) (s : State) :
    effect (.keyFixComplete verified) s = keyFixComplete verified s := rfl
@[simp] theorem effect_eraseKey (m : Master) (s : State) : effect (.eraseKey m) s = serve .eraseKey m eraseKey s := rfl
@[simp] theorem effect_keyEraseComplete (verified : Bool) (s : State) :
    effect (.keyEraseComplete verified) s = keyEraseComplete verified s := rfl
@[simp] theorem effect_checkKey (m : Master) (s : State) : effect (.checkKey m) s = serve .checkKey m checkKey s := rfl
@[simp] theorem effect_releaseKey (m : Master) (s : State) :
    effect (.releaseKey m) s = serve .releaseKey m releaseKey s := rfl
@[simp] theorem effect_readRegion (m : Master) (s : State) :
    effect (.readRegion m) s = serve .readRegion m readRegion s := rfl
@[simp] theorem effect_readLabel (m : Master) (s : State) :
    effect (.readLabel m) s = serve .readLabel m readLabel s := rfl
@[simp] theorem effect_writeRegion (m : Master) (s : State) :
    effect (.writeRegion m) s = serve .writeRegion m writeRegion s := rfl
@[simp] theorem effect_writeLabel (m : Master) (s : State) :
    effect (.writeLabel m) s = serve .writeLabel m writeLabel s := rfl
@[simp] theorem effect_recordWriteComplete (verified : Bool) (s : State) :
    effect (.recordWriteComplete verified) s = recordWriteComplete verified s := rfl
@[simp] theorem effect_stageQuery (m : Master) (s : State) :
    effect (.stageQuery m) s = serve .stageQuery m stageQuery s := rfl
@[simp] theorem effect_closeSet (m : Master) (s : State) : effect (.closeSet m) s = serve .closeSet m closeSet s := rfl
@[simp] theorem effect_closeProgramComplete (verified : Bool) (s : State) :
    effect (.closeProgramComplete verified) s = closeProgramComplete verified s := rfl
@[simp] theorem effect_reopenSet (m : Master) (s : State) :
    effect (.reopenSet m) s = serve .reopenSet m reopenSet s := rfl
@[simp] theorem effect_reopenProgramComplete (verified : Bool) (s : State) :
    effect (.reopenProgramComplete verified) s = reopenProgramComplete verified s := rfl
@[simp] theorem effect_linkResume (m : Master) (s : State) :
    effect (.linkResume m) s = serve .linkResume m linkResume s := rfl
@[simp] theorem effect_ackEvents (m : Master) (s : State) :
    effect (.ackEvents m) s = serve .ackEvents m ackEvents s := rfl
@[simp] theorem effect_setEventMask (m : Master) (s : State) :
    effect (.setEventMask m) s = serve .setEventMask m setEventMask s := rfl
@[simp] theorem effect_readCounters (m : Master) (s : State) :
    effect (.readCounters m) s = serve .readCounters m readCounters s := rfl
@[simp] theorem effect_clearCounters (m : Master) (s : State) :
    effect (.clearCounters m) s = serve .clearCounters m clearCounters s := rfl
@[simp] theorem effect_writeConfig (m : Master) (s : State) :
    effect (.writeConfig m) s = serve .writeConfig m writeConfig s := rfl
@[simp] theorem effect_configProgramComplete (verified : Bool) (s : State) :
    effect (.configProgramComplete verified) s = configProgramComplete verified s := rfl
@[simp] theorem effect_syncCharacterReceived (s : State) :
    effect .syncCharacterReceived s = syncCharacterReceived s := rfl

/-! ## Invariants of every step -/

/-- What every command keeps every step keeps, if neither the queue of commands nor the clock matters to it. -/
theorem step_keeps {P : State → Prop} (pending : ∀ s l, P s → P (s.setPending l))
    (book : ∀ s b, P s → P (s.setBook b)) (command : ∀ c s, P s → P (effect c s)) (s t : State) (h : P s)
    (hstep : step s = .next t) : P t := by
  unfold step at hstep
  split at hstep
  · cases hstep
    unfold idle
    split
    · exact h
    · exact book _ _ h
  · rw [exec_eq_effect] at hstep
    cases hstep
    exact command _ _ (pending _ _ h)

/-- What the owning block's answer keeps the serving of a request keeps, if the inbox does not matter to it. -/
theorem serve_keeps {P : State → Prop} {f : Request → State → State} (inbox : ∀ s l, P s → P (s.setInbox l))
    (answer : ∀ req s, P s → P (f req s)) (k : Kind) (m : Master) {s : State} (h : P s) : P (serve k m f s) := by
  unfold serve
  split
  · exact h
  · exact answer _ _ (inbox _ _ h)

/-- What no answer of the owning block changes the serving of a request does not change. -/
theorem serve_same {α : Type} (π : State → α) {f : Request → State → State} (inbox : ∀ s l, π (s.setInbox l) = π s)
    (answer : ∀ req s, π (f req s) = π s) (k : Kind) (m : Master) (s : State) : π (serve k m f s) = π s := by
  unfold serve
  split
  · rfl
  · rw [answer, inbox]

/-- With an empty inbox no request is served. -/
theorem serve_of_inbox_nil {s : State} (h : s.inbox = []) (k : Kind) (m : Master) (f : Request → State → State) :
    serve k m f s = s :=
  serve_none (by simp [waitingRequest, h])

end Sys2Proof.Proofs.Steps
end

section
/-! What a read access and a whole-tile write can come to, case by case (R73, R75, R79, R82 to R84). -/

namespace Sys2Proof.Proofs.TileAccess

open Sys2Proof Sys2Proof.Machine Sys2Proof.Proofs.Frames

/-- A read access on the entry of way `w` takes the part from `s` to a state with an outcome (R73, R82 to R84). -/
inductive EntryRead (t : TileNo) (w : Fin 8) (s : State) : State → ReadOutcome → Prop
  | held (e : Entry) (v : TileValues) (c : CheckCode) (entry : entryAt (setOf t) w s = some e)
      (content : e.state = .clean v c ∨ e.state = .dirty v c) (agrees : codeAgrees t v c = true) :
      EntryRead t w s (touch (setOf t) w s) (.values w v)
  | repaired (e : Entry) (v : TileValues) (c : CheckCode) (entry : entryAt (setOf t) w s = some e)
      (clean : e.state = .clean v c) (differs : codeAgrees t v c = false) :
      EntryRead t w s (repairTile t w s) (.waits .waitRepair)
  | lost (e : Entry) (v : TileValues) (c : CheckCode) (entry : entryAt (setOf t) w s = some e)
      (dirty : e.state = .dirty v c) (differs : codeAgrees t v c = false) :
      EntryRead t w s (loseTile t w s) (.faulty w)
  | faulty (e : Entry) (entry : entryAt (setOf t) w s = some e) (state : e.state = .faulty) :
      EntryRead t w s s (.faulty w)
  | filling (entry : ∀ e, entryAt (setOf t) w s = some e → e.state = .filling) :
      EntryRead t w s s (.waits .waitFill)

theorem readEntry_entryRead (t : TileNo) (w : Fin 8) (s : State) :
    EntryRead t w s (readEntry t w s).1 (readEntry t w s).2 := by
  unfold readEntry
  split
  next absent => exact .filling (by simp [absent])
  next e entry =>
    split
    next state => exact .filling (by simp [entry, state])
    next state => exact .faulty e entry state
    next v c state =>
      split
      next agrees => exact .held e v c entry (.inl state) agrees
      next differs => exact .repaired e v c entry state (by simpa using differs)
    next v c state =>
      split
      next agrees => exact .held e v c entry (.inr state) agrees
      next differs => exact .lost e v c entry state (by simpa using differs)

/-- A read access to a tile takes the part from `s` to a state with an outcome: a hit (R73), no way to give the tile (R79),
or a miss served from the newest queued copy or by a fill (cases 2 and 3 of R75). -/
inductive TileRead (t : TileNo) (s : State) : State → ReadOutcome → Prop
  | hit {u : State} {o : ReadOutcome} (w : Fin 8) (found : findWay t s = some w) (read : EntryRead t w s u o) :
      TileRead t s u o
  | noWay (missing : findWay t s = none) (victim : chooseVictim (setOf t) s = none) :
      TileRead t s s (if mayWaitForWay (setOf t) s then .waits .waitWay else .refused (s.mfc.wear == .worn))
  | copied {u : State} {o : ReadOutcome} (w : Fin 8) (c : TileCopy) (missing : findWay t s = none)
      (victim : chooseVictim (setOf t) s = some w) (copy : newestCopy t s.tlc.queue = some c)
      (read : EntryRead t w (giveWay (setOf t) w t (.dirty c.values c.code) s) u o) : TileRead t s u o
  | fetched (w : Fin 8) (missing : findWay t s = none) (victim : chooseVictim (setOf t) s = some w)
      (noCopy : newestCopy t s.tlc.queue = none) :
      TileRead t s (requestFill t (giveWay (setOf t) w t .filling s)) (.waits .waitFill)

theorem readTileAt_tileRead (t : TileNo) (s : State) : TileRead t s (readTileAt t s).1 (readTileAt t s).2 := by
  unfold readTileAt
  split
  next w found => exact .hit w found (readEntry_entryRead t w s)
  next missing =>
    split
    next victim => exact .noWay missing victim
    next w victim =>
      split
      next c copy => exact .copied w c missing victim copy (readEntry_entryRead ..)
      next noCopy => exact .fetched w missing victim noCopy

/-- A WRITE_TILE or clear tile operation takes the part from `s` to a state with an outcome: it is written on a hit or in
a victim's way, waits for a fill, or has no way (R73, case 1 of R75, R79). -/
inductive TileWrite (t : TileNo) (v : TileValues) (s : State) : State → WriteOutcome → Prop
  | hit (w : Fin 8) (e : Entry) (found : findWay t s = some w) (entry : entryAt (setOf t) w s = some e)
      (state : e.state ≠ .filling) : TileWrite t v s (storeWhole t w v s) .written
  | filling (w : Fin 8) (e : Entry) (found : findWay t s = some w) (entry : entryAt (setOf t) w s = some e)
      (state : e.state = .filling) : TileWrite t v s s (.waits .waitFill)
  | noWay (missing : findWay t s = none) (victim : chooseVictim (setOf t) s = none) :
      TileWrite t v s s (if mayWaitForWay (setOf t) s then .waits .waitWay else .refused (s.mfc.wear == .worn))
  | missed (w : Fin 8) (missing : findWay t s = none) (victim : chooseVictim (setOf t) s = some w) :
      TileWrite t v s (storeWhole t w v (giveWay (setOf t) w t (.dirty v (codeOf t v)) s)) .written

theorem writeTileAt_tileWrite (t : TileNo) (v : TileValues) (s : State) :
    TileWrite t v s (writeTileAt t v s).1 (writeTileAt t v s).2 := by
  cases found : findWay t s with
  | some w =>
    obtain ⟨e, entry, -⟩ := findWay_some found
    by_cases state : e.state = .filling
    · obtain ⟨u, _⟩ := e
      subst state
      simpa [writeTileAt, found, entry] using TileWrite.filling (v := v) w _ found entry rfl
    · rw [writeTileAt_hit v found entry state]
      exact .hit w e found entry state
  | none =>
    unfold writeTileAt
    rw [found]
    dsimp only
    split
    next victim => exact .noWay found victim
    next w victim => exact .missed w found victim

end Sys2Proof.Proofs.TileAccess
end

section
/-! The notice queue (R122, R123): every change of the directory keeps it sound. -/

namespace Sys2Proof.Proofs.Notices

open Sys2Proof Sys2Proof.Machine Sys2Proof.Proofs.Frames Sys2Proof.Proofs.Steps
  Sys2Proof.Proofs.TileAccess

/-! ## The directory's operations -/

/-- A tile that is not STALE is not queued. -/
theorem not_mem_notices {p : Pcd} {t : TileNo} (h : NoticesSound p) (ht : p.dir[t] ≠ .stale) : t ∉ p.notices :=
  fun mem => ht (h.2.2.1 t mem)

/-- An entry that is not queued may take any state. -/
theorem noticesSound_setDir {s : State} {t : TileNo} (d : DirState) (h : NoticesSound s.pcd) (ht : t ∉ s.pcd.notices) :
    NoticesSound (setDir t d s).pcd := by
  obtain ⟨room, nodup, stale, overflow⟩ := h
  refine ⟨room, nodup, fun u hu => ?_, overflow⟩
  have ne : u ≠ t := fun e => ht (e ▸ hu)
  exact (dirOf_setDir t u d s).trans ((if_neg ne).trans (stale u hu))

/-- A STALE tile is appended within the queue's room, or empties it (R122, R123). -/
theorem noticesSound_appendNotice {s : State} {t : TileNo} (h : NoticesSound s.pcd) (ht : dirOf t s = .stale) :
    NoticesSound (appendNotice t s).pcd := by
  unfold appendNotice
  split
  · exact h
  obtain ⟨room, nodup, stale, overflow⟩ := h
  next append =>
    simp only [Bool.or_eq_true, List.contains_eq_mem, decide_eq_true_eq, not_or, Bool.not_eq_true] at append
    split
    · exact ⟨Nat.zero_le _, List.nodup_nil, fun _ hu => absurd hu List.not_mem_nil, fun _ => rfl⟩
    next space =>
      refine ⟨?_, ?_, ?_, fun o => absurd o (by simp [append.1])⟩
      · simpa using Nat.lt_of_not_le space
      · simpa [List.nodup_append, nodup] using fun u hu (e : u = t) => append.2 (e ▸ hu)
      · intro u hu
        rcases List.mem_append.mp hu with old | new
        · exact stale u old
        · rw [List.mem_singleton.mp new]
          exact ht

/-- An entry that was not queued becomes STALE and is appended. -/
theorem noticesSound_becomeStale {s : State} {t : TileNo} (h : NoticesSound s.pcd) (ht : dirOf t s ≠ .stale) :
    NoticesSound (appendNotice t (setDir t .stale s)).pcd :=
  noticesSound_appendNotice (noticesSound_setDir _ h (not_mem_notices h ht)) (by simp [dirOf_setDir])

theorem noticesSound_markChanged {s : State} (t : TileNo) (h : NoticesSound s.pcd) :
    NoticesSound (markChanged t s).pcd := by
  unfold markChanged
  split
  next current => exact noticesSound_becomeStale h (by simp [current])
  next sending => exact noticesSound_setDir _ h (not_mem_notices h (by rw [← dirOf, sending]; decide))
  all_goals exact h

/-- A tile that becomes WAITING leaves the queue (R125). -/
theorem noticesSound_awaitTiles {s : State} (ts : List TileNo) (h : NoticesSound s.pcd) :
    NoticesSound (awaitTiles ts s).pcd := by
  have kept : ∀ (us : List TileNo) (d : Vector DirState 504) (u : TileNo), u ∉ us →
      (us.foldl (fun (d : Vector DirState 504) (t : TileNo) => d.set t .waiting) d)[u] = d[u] := by
    intro us
    induction us with
    | nil => exact fun d u _ => rfl
    | cons v us ih =>
      intro d u hu
      have ne : ¬(v : Nat) = u := fun e => hu (by simp [Fin.ext e])
      rw [List.foldl_cons, ih _ _ (fun mem => hu (List.mem_cons_of_mem v mem))]
      simp [ne]
  obtain ⟨room, nodup, stale, overflow⟩ := h
  refine ⟨(List.length_filter_le _ _).trans room, nodup.filter _, fun u hu => ?_, fun o => ?_⟩
  · obtain ⟨mem, left⟩ := List.mem_filter.mp hu
    exact (kept ts s.pcd.dir u (by simpa using left)).trans (stale u mem)
  · simp [awaitTiles, overflow o]

theorem noticesSound_leaveWaiting {s : State} (t : TileNo) (d : DirState) (h : NoticesSound s.pcd) :
    NoticesSound (leaveWaiting t d s).pcd := by
  unfold leaveWaiting
  split
  next waiting => exact noticesSound_setDir _ h (not_mem_notices h (by rw [← dirOf, waiting]; decide))
  · exact h

theorem noticesSound_deliverTile {s : State} (x : RunTile) (h : NoticesSound s.pcd) :
    NoticesSound (deliverTile x s).pcd := by
  unfold deliverTile
  split
  next sending => exact noticesSound_setDir _ h (not_mem_notices h (by rw [← dirOf, sending]; decide))
  next changed => exact noticesSound_becomeStale h (by simp [changed])
  all_goals exact h

theorem noticesSound_deliverPanel {s : State} (r : Reply) (h : NoticesSound s.pcd) :
    NoticesSound (deliverPanel r s).pcd := by
  have delivered : ∀ (xs : List RunTile) (s : State), NoticesSound s.pcd →
      NoticesSound (xs.foldl (fun (s : State) (x : RunTile) => deliverTile x s) s).pcd := by
    intro xs
    induction xs with
    | nil => exact fun _ h => h
    | cons x xs ih => exact fun s h => ih _ (noticesSound_deliverTile x h)
  unfold deliverPanel
  dsimp only
  split
  · simpa [deliverRun] using delivered _ _ (by simpa using h)
  · simpa using h

/-! ## Tile operations -/

theorem noticesSound_loseTile {s : State} (t : TileNo) (w : Fin 8) (h : NoticesSound s.pcd) :
    NoticesSound (loseTile t w s).pcd :=
  noticesSound_markChanged t (by simpa using h)

theorem noticesSound_storeWhole {s : State} (t : TileNo) (w : Fin 8) (v : TileValues) (h : NoticesSound s.pcd) :
    NoticesSound (storeWhole t w v s).pcd :=
  noticesSound_markChanged t (by simpa using h)

theorem noticesSound_entryRead {t : TileNo} {w : Fin 8} {s u : State} {o : ReadOutcome} (read : EntryRead t w s u o)
    (h : NoticesSound s.pcd) : NoticesSound u.pcd := by
  cases read with
  | lost => exact noticesSound_loseTile t w h
  | held | repaired => simpa using h
  | faulty | filling => exact h

theorem noticesSound_tileRead {t : TileNo} {s u : State} {o : ReadOutcome} (read : TileRead t s u o)
    (h : NoticesSound s.pcd) : NoticesSound u.pcd := by
  cases read with
  | hit w _ read => exact noticesSound_entryRead read h
  | copied w c _ _ _ read => exact noticesSound_entryRead read (by simpa using h)
  | noWay => exact h
  | fetched => simpa using h

theorem noticesSound_tileWrite {t : TileNo} {v : TileValues} {s u : State} {o : WriteOutcome} (write : TileWrite t v s u o)
    (h : NoticesSound s.pcd) : NoticesSound u.pcd := by
  cases write with
  | hit w => exact noticesSound_storeWhole t w v h
  | missed w => exact noticesSound_storeWhole t w v (by simpa using h)
  | filling | noWay => exact h

theorem noticesSound_readAccess {s : State} (o : AccessOp) (h : NoticesSound s.pcd) :
    NoticesSound (readAccess o s).pcd := by
  unfold readAccess
  have read := noticesSound_tileRead (readTileAt_tileRead o.tile (grantOther s)) (by simpa using h)
  generalize readTileAt o.tile (grantOther s) = r at read
  obtain ⟨u, outcome⟩ := r
  split <;> simp_all

theorem noticesSound_writeAccess {s : State} (o : AccessOp) (v : TileValues) (n : Nat) (h : NoticesSound s.pcd) :
    NoticesSound (writeAccess o v n s).pcd := by
  unfold writeAccess
  dsimp only
  have write := noticesSound_tileWrite (writeTileAt_tileWrite o.tile v (grantOther s)) (by simpa using h)
  generalize writeTileAt o.tile v (grantOther s) = r at write
  obtain ⟨u, outcome⟩ := r
  (repeat' split) <;> simp_all

theorem noticesSound_snapshotPoint {s : State} (o : PanelOp) (x : RunTile) (d : DirState) (h : NoticesSound s.pcd) :
    NoticesSound (snapshotPoint o x d s).pcd := by
  have left : NoticesSound (leaveWaiting o.tile d (setPanelOp none s)).pcd :=
    noticesSound_leaveWaiting _ _ (by simpa using h)
  unfold snapshotPoint
  dsimp only
  (repeat' split) <;> simp_all

theorem noticesSound_snapshot {s : State} (o : PanelOp) (h : NoticesSound s.pcd) :
    NoticesSound (snapshot o s).pcd := by
  unfold snapshot
  have read := noticesSound_tileRead (readTileAt_tileRead o.tile (grantOther s)) (by simpa using h)
  generalize readTileAt o.tile (grantOther s) = r at read
  obtain ⟨u, outcome⟩ := r
  cases outcome with
  | waits p => simpa using read
  | values | faulty | refused => exact noticesSound_snapshotPoint _ _ _ read

theorem noticesSound_writePassTile {s : State} (b : Fin 16) (x : Box) (a : PassArgs) (sh : Shape) (w : PassWork)
    (way : Fin 8) (old : TileValues) (lost : Bool) (h : NoticesSound s.pcd) :
    NoticesSound (writePassTile b x a sh w way old lost s).pcd := by
  simpa [writePassTile] using noticesSound_storeWhole _ _ _ h

theorem noticesSound_passTile {s : State} (b : Fin 16) (x : Box) (a : PassArgs) (sh : Shape) (w : PassWork)
    (h : NoticesSound s.pcd) : NoticesSound (passTile b x a sh w s).pcd := by
  unfold passTile
  have read := noticesSound_tileRead (readTileAt_tileRead w.next (grantJob s)) (by simpa using h)
  generalize readTileAt w.next (grantJob s) = r at read
  obtain ⟨u, outcome⟩ := r
  cases outcome with
  | values | faulty => exact noticesSound_writePassTile _ _ _ _ _ _ _ _ read
  | waits p => dsimp only; split <;> simpa using read
  | refused => simpa using read

theorem noticesSound_clearTile {s : State} (b : Fin 16) (x : Box) (t : TileNo) (h : NoticesSound s.pcd) :
    NoticesSound (clearTile b x t s).pcd := by
  unfold clearTile
  have write := noticesSound_tileWrite (writeTileAt_tileWrite t (Vector.replicate 32 0) (grantJob s)) (by simpa using h)
  generalize writeTileAt t (Vector.replicate 32 0) (grantJob s) = r at write
  obtain ⟨u, outcome⟩ := r
  (repeat' split) <;> simp_all

theorem noticesSound_installHead {s : State} (f : Fill) (rest : List Fill) (h : NoticesSound s.pcd) :
    NoticesSound (installHead f rest s).pcd := by
  unfold installHead
  dsimp only
  split
  next w _ =>
    unfold installFill
    split
    next => simpa using h
    next => simpa using h
    next => simpa using noticesSound_loseTile f.tile w (by simpa using h)
  · simpa using h

/-! ## The commands -/

theorem noticesSound_reset : NoticesSound Pcd.reset :=
  ⟨Nat.zero_le _, List.nodup_nil, fun _ hu => absurd hu List.not_mem_nil, fun _ => rfl⟩

theorem noticesSound_panelHello {s : State} (req : Request) (h : NoticesSound s.pcd) :
    NoticesSound (panelHello req s).pcd := by
  have emptied : NoticesSound (resetPanelSide req s).pcd := by simpa [resetPanelSide] using noticesSound_reset
  unfold panelHello
  (repeat' split) <;> simpa

theorem noticesSound_panelRequestTransaction {s : State} (mosi : List Byte) (h : NoticesSound s.pcd) :
    NoticesSound (panelRequestTransaction mosi s).pcd := by
  unfold panelRequestTransaction
  split
  case h_4 kind tag body _ =>
    unfold panelRecord
    dsimp only
    repeat' split
    case _ => simpa using h
    case _ => simpa [takeHello] using noticesSound_panelHello _ (by simpa using h)
    all_goals simpa using h
  all_goals simpa using h

theorem noticesSound_panelReplyTransaction {s : State} (clocks : Nat) (h : NoticesSound s.pcd) :
    NoticesSound (panelReplyTransaction clocks s).pcd := by
  unfold panelReplyTransaction
  dsimp only
  repeat' split
  case _ => simpa using h
  case _ => exact noticesSound_deliverPanel _ (by simpa using h)
  case _ => simpa using h

theorem noticesSound_fetchRun {s : State} (req : Request) (h : NoticesSound s.pcd) :
    NoticesSound (fetchRun req s).pcd := by
  have waiting := fun ts => noticesSound_awaitTiles ts h
  unfold fetchRun
  dsimp only
  (repeat' split) <;> simp_all

theorem noticesSound_readNotices {s : State} (req : Request) (h : NoticesSound s.pcd) :
    NoticesSound (readNotices req s).pcd := by
  unfold readNotices
  dsimp only
  repeat' split
  case _ => simpa using h
  case _ => simpa using h
  case _ => simpa using h
  case _ =>
    obtain ⟨room, nodup, stale, overflow⟩ := h
    have fewer : (s.pcd.notices.drop 8).Sublist s.pcd.notices := List.drop_sublist _ _
    simpa using show NoticesSound { s.pcd with notices := s.pcd.notices.drop 8 } from
      ⟨fewer.length_le.trans room, nodup.sublist fewer, fun t mem => stale t (fewer.subset mem),
        fun o => by simp [overflow o]⟩

theorem noticesSound_nextStale {s : State} (req : Request) (h : NoticesSound s.pcd) :
    NoticesSound (nextStale req s).pcd := by
  obtain ⟨room, nodup, stale, overflow⟩ := h
  unfold nextStale answerStale
  (repeat' split) <;> simp <;> exact ⟨room, nodup, stale, by simp_all⟩

theorem noticesSound_passTileOperation {s : State} (h : NoticesSound s.pcd) :
    NoticesSound (passTileOperation s).pcd := by
  unfold passTileOperation
  repeat' split
  case _ => exact noticesSound_passTile _ _ _ _ _ h
  all_goals exact h

theorem noticesSound_clearTileOperation {s : State} (h : NoticesSound s.pcd) :
    NoticesSound (clearTileOperation s).pcd := by
  unfold clearTileOperation
  repeat' split
  case _ => exact noticesSound_clearTile _ _ _ h
  all_goals exact h

theorem noticesSound_readTileAccess {s : State} (h : NoticesSound s.pcd) : NoticesSound (readTileAccess s).pcd := by
  unfold readTileAccess
  repeat' split
  case _ => exact noticesSound_readAccess _ h
  all_goals exact h

theorem noticesSound_writeTileAccess {s : State} (h : NoticesSound s.pcd) : NoticesSound (writeTileAccess s).pcd := by
  unfold writeTileAccess
  repeat' split
  case _ => exact h
  case _ => exact noticesSound_writeAccess _ _ _ h
  case _ => exact h

theorem noticesSound_panelSnapshot {s : State} (h : NoticesSound s.pcd) : NoticesSound (panelSnapshot s).pcd := by
  unfold panelSnapshot
  split
  · exact noticesSound_snapshot _ h
  · exact h

theorem noticesSound_fillInstall {s : State} (h : NoticesSound s.pcd) : NoticesSound (fillInstall s).pcd := by
  unfold fillInstall
  split
  · exact noticesSound_installHead _ _ h
  · exact h

theorem noticesSound_serve {f : Request → State → State} {k : Kind} {m : Master} {s : State}
    (answer : ∀ req s, NoticesSound s.pcd → NoticesSound (f req s).pcd) (h : NoticesSound s.pcd) :
    NoticesSound (serve k m f s).pcd :=
  serve_keeps (P := fun s => NoticesSound s.pcd) (fun _ _ h => h) answer k m h

/-- Every command keeps the notice queue sound; most do not touch the directory. -/
theorem noticesSound_effect (c : Instr) (s : State) (h : NoticesSound s.pcd) : NoticesSound (effect c s).pcd := by
  cases c with
  | powerOn | resetAssert => exact noticesSound_reset
  | panelRequestTransaction mosi => exact noticesSound_panelRequestTransaction mosi h
  | panelReplyTransaction n => exact noticesSound_panelReplyTransaction n h
  | passTileOperation => exact noticesSound_passTileOperation h
  | clearTileOperation => exact noticesSound_clearTileOperation h
  | readTileAccess => exact noticesSound_readTileAccess h
  | writeTileAccess => exact noticesSound_writeTileAccess h
  | panelSnapshot => exact noticesSound_panelSnapshot h
  | fillInstall => exact noticesSound_fillInstall h
  | panelHello m => exact noticesSound_serve (fun req _ => noticesSound_panelHello req) h
  | fetchRun m => exact noticesSound_serve (fun req _ => noticesSound_fetchRun req) h
  | readNotices m => exact noticesSound_serve (fun req _ => noticesSound_readNotices req) h
  | nextStale m => exact noticesSound_serve (fun req _ => noticesSound_nextStale req) h
  | openCapture m | putRow m | discardCapture m | captureState m | submitJob m | readBox m | holdBox m | editBox m
  | releaseBox m | cancelJob m | freeBox m | readTile m | writeTile m | lockWays m | drain m | readProfile m
  | loadKey m | fixKey m | eraseKey m | checkKey m | releaseKey m | readRegion m | readLabel m | writeRegion m
  | writeLabel m | stageQuery m | closeSet m | reopenSet m | linkResume m | ackEvents m | setEventMask m
  | readCounters m | clearCounters m | writeConfig m =>
    exact noticesSound_serve (by simp) h
  | resetRelease | startupConfigRead | spareScan | headerLoad | keyHomeLoad | regionLabelLoad | stageLoad
  | panelStatusTransaction | systemRequestTransaction | systemReplyTransaction | systemStatusTransaction
  | requestFrame | idleMark | badFrame | frameGapTimeout | droppingIdleEnd | replyFrameStart | replyFrameSent
  | fixtureBreak | syncCharacterReceived | holdExpiry | jobStart | commitCopyOut | drainReply | storageFault
  | flashGrant | fillReadComplete | tileProgramComplete | uncommitProgramComplete | headerCheckReadComplete
  | commitDrainDone | commitHeaderComplete | keyFixComplete | keyEraseComplete | recordWriteComplete
  | closeProgramComplete | reopenProgramComplete | configProgramComplete =>
    simpa using h

/-- Settles O3: every command keeps the notice queue sound, and it depends on neither the queue of commands nor the
clock. -/
theorem noticesStaySound : Obligations.NoticesStaySound :=
  step_keeps (P := fun s => NoticesSound s.pcd) (fun _ _ h => h) (fun _ _ h => h) noticesSound_effect

end Sys2Proof.Proofs.Notices
end

section
/-! The fixture link (R166, R170, R172, R173): the counter with the link state, and the reply queue with the places. -/

namespace Sys2Proof.Proofs.Link

open Sys2Proof Sys2Proof.Machine Sys2Proof.Proofs.Frames Sys2Proof.Proofs.Steps

/-- The link interface is sound. -/
def FxlSound (f : Fxl) : Prop :=
  LinkSound f ∧ ReplyQueueSound f

/-! ## The reply queue -/

/-- A vector that takes an entry at `i` has one there, and elsewhere what it had. -/
theorem isSome_set_some {α : Type} (v : Vector (Option α) 4) (i j : Station) (x : α) :
    ((v.set i (some x))[j]).isSome = true ↔ j = i ∨ (v[j]).isSome = true := by
  by_cases h : j = i
  · subst h
    simp
  · have ne : ¬(i : Nat) = j := fun e => h (Fin.ext e.symm)
    simp [ne, h]

/-- A vector that loses its entry at `i` has none there, and elsewhere what it had. -/
theorem isSome_set_none {α : Type} (v : Vector (Option α) 4) (i j : Station) :
    ((v.set i none)[j]).isSome = true ↔ j ≠ i ∧ (v[j]).isSome = true := by
  by_cases h : j = i
  · subst h
    simp
  · have ne : ¬(i : Nat) = j := fun e => h (Fin.ext e.symm)
    simp [ne, h]

/-- A reply in an empty place, with its station at the tail of the queue (R172). -/
theorem replyQueueSound_place {f : Fxl} {st : Station} (p : Placed) (empty : f.place[st] = none)
    (h : ReplyQueueSound f) :
    ReplyQueueSound { f with place := f.place.set st (some p), queue := f.queue ++ [st] } := by
  obtain ⟨nodup, placed, deferred, sending⟩ := h
  have absent : st ∉ f.queue := fun mem => by simpa [empty] using (placed st).1 mem
  refine ⟨?_, fun i => ?_, fun i hi => (isSome_set_some ..).2 (.inr (deferred i hi)), fun hs => ⟨(sending hs).1, by simp⟩⟩
  · simpa [List.nodup_append, nodup] using fun i hi (e : i = st) => absent (e ▸ hi)
  · rw [isSome_set_some, List.mem_append, List.mem_singleton, placed i, or_comm]

/-- A deferred reply behind the answer that the place holds (R172). -/
theorem replyQueueSound_defer {f : Fxl} {st : Station} (r : Reply) (held : (f.place[st]).isSome = true)
    (h : ReplyQueueSound f) : ReplyQueueSound { f with deferred := f.deferred.set st (some r) } := by
  obtain ⟨nodup, placed, deferred, sending⟩ := h
  refine ⟨nodup, placed, fun i hi => ?_, sending⟩
  rcases (isSome_set_some ..).1 hi with rfl | old
  · exact held
  · exact deferred i old

/-- The places and the queue are emptied while no reply is sent (R175, R179). -/
theorem replyQueueSound_letGo {f : Fxl} (idle : f.sending = false) : ReplyQueueSound (letGo f) :=
  ⟨List.nodup_nil, fun i => by simp [letGo], fun i hi => by simp [letGo] at hi, fun hs => by simp [letGo, idle] at hs⟩

/-- The head of the queue has been sent (R173). -/
theorem replyQueueSound_sent {f : Fxl} {st : Station} {rest : List Station} {p : Placed} (head : f.queue = st :: rest)
    (h : ReplyQueueSound f) : ReplyQueueSound (replySent st p f) := by
  obtain ⟨nodup, placed, deferred, -⟩ := h
  rw [head, List.nodup_cons] at nodup
  have members : ∀ i : Station, i ∈ rest ↔ ((f.place.set st none)[i]).isSome = true := by
    intro i
    rw [isSome_set_none, ← placed i, head, List.mem_cons]
    constructor
    · exact fun mem => ⟨fun e => nodup.1 (e ▸ mem), .inr mem⟩
    · exact fun ⟨ne, mem⟩ => mem.resolve_left ne
  unfold replySent placeDeferred
  dsimp only
  split
  next none =>
    refine ⟨by simpa [head] using nodup.2, fun i => by simpa [head] using members i, fun i hi => ?_, fun hs => by simp at hs⟩
    refine (isSome_set_none ..).2 ⟨fun e => ?_, deferred i hi⟩
    subst e
    simp [none] at hi
  next r some =>
    refine replyQueueSound_place _ (by simp)
      (f := { f with sending := false, out := replyFrame st p.reply, queue := f.queue.tail, place := f.place.set st none,
                     outstanding := if p.own then f.outstanding.set st none else f.outstanding,
                     deferred := f.deferred.set st none })
      ⟨by simpa [head] using nodup.2, fun i => by simpa [head] using members i, fun i hi => ?_, fun hs => by simp at hs⟩
    obtain ⟨ne, held⟩ := (isSome_set_none ..).1 hi
    exact (isSome_set_none ..).2 ⟨ne, deferred i held⟩

/-! ## Replies and answers -/

theorem fxlSound_placeAnswer {s : State} (st : Station) (r : Reply) (h : FxlSound s.fxl) :
    FxlSound (placeAnswer st r s).fxl := by
  unfold placeAnswer
  split
  next empty => exact ⟨h.1, replyQueueSound_place _ empty h.2⟩
  next => exact h

/-- What the owner's reply to a request makes of the link interface (R172). -/
def afterReply (m : Master) (ticket : Nat) (r : Reply) (f : Fxl) : Fxl :=
  match m with
  | .station st =>
    if ticket ∈ f.abandoned then { f with abandoned := f.abandoned.erase ticket }
    else if f.outstanding[st] = some ticket then
      if f.place[st] = none then
        { f with place := f.place.set st (some { reply := r, own := true }), queue := f.queue ++ [st] }
      else { f with deferred := f.deferred.set st (some r) }
    else f
  | .system | .panel => f

theorem routeReply_fxl (m : Master) (n : Nat) (r : Reply) (s : State) :
    (routeReply m n r s).fxl = afterReply m n r s.fxl := by
  cases m with
  | station st =>
    unfold routeReply stationReply placeOwn afterReply
    cases s.fxl.place[st] <;> dsimp only <;> (repeat' split) <;> simp_all
  | system | panel => simp [routeReply, afterReply]

@[simp] theorem reply_fxl (req : Request) (st : Status) (b : ReplyBody) (s : State) :
    (reply req st b s).fxl =
      afterReply req.master req.ticket { kind := kindCode req.kind, tag := req.tag, status := st, body := b } s.fxl := by
  rw [reply, routeReply_fxl]
  simp

@[simp] theorem refuse_fxl (req : Request) (st : Status) (s : State) :
    (refuse req st s).fxl =
      afterReply req.master req.ticket { kind := kindCode req.kind, tag := req.tag, status := st, body := .empty }
        s.fxl :=
  reply_fxl ..

/-- The owning block's reply keeps the link interface sound. -/
@[simp] theorem fxlSound_afterReply {f : Fxl} (m : Master) (n : Nat) (r : Reply) (h : FxlSound f) :
    FxlSound (afterReply m n r f) := by
  unfold afterReply
  split
  next st =>
    repeat' split
    case _ => exact h
    case _ empty => exact ⟨h.1, replyQueueSound_place _ empty h.2⟩
    case _ held => exact ⟨h.1, replyQueueSound_defer r (Option.isSome_iff_ne_none.2 held) h.2⟩
    case _ => exact h
  all_goals exact h

theorem fxlSound_routeReply {s : State} (m : Master) (n : Nat) (r : Reply) (h : FxlSound s.fxl) :
    FxlSound (routeReply m n r s).fxl :=
  routeReply_fxl m n r s ▸ fxlSound_afterReply m n r h

theorem fxlSound_fxlAnswer {s : State} (st : Station) (k tag : Byte) (x : Status) (h : FxlSound s.fxl) :
    FxlSound (fxlAnswer st k tag x s).fxl :=
  fxlSound_placeAnswer _ _ (by simpa using h)

theorem fxlSound_answerRequest {s : State} (r : FrameRequest) (x : Status) (h : FxlSound s.fxl) :
    FxlSound (answerRequest r x s).fxl := by
  unfold answerRequest
  split
  · exact fxlSound_fxlAnswer _ _ _ _ h
  · exact fxlSound_fxlAnswer _ _ _ _ h

theorem fxlSound_takeRequest {s : State} (m : Master) (k tag : Byte) (body : List Byte) (h : FxlSound s.fxl) :
    FxlSound (takeRequest m k tag body s).fxl := by
  unfold takeRequest
  dsimp only
  split
  · simpa using h
  · exact fxlSound_routeReply _ _ _ (by simpa using h)

/-! ## The counter and the link state -/

theorem noReleases : 0 < Config.releaseFrames := by decide

theorem fxlSound_setLec {s : State} {n : Nat} (room : n ≤ 255) (live : s.fxl.link ≠ .silent) (h : FxlSound s.fxl) :
    FxlSound (setLec n s).fxl := by
  obtain ⟨⟨-, release, -, follows⟩, queue⟩ := h
  have notSilent : linkStateOf n ≠ .silent := by
    unfold linkStateOf
    repeat' split
    all_goals decide
  have after : (setLec n s).fxl = { s.fxl with lec := n, link := linkStateOf n } := by
    unfold setLec raiseIf
    split <;> simp
  rw [after]
  exact ⟨⟨room, release, fun e => absurd e notSilent, fun _ => ⟨rfl, (follows live).2⟩⟩, queue⟩

theorem fxlSound_goodFrameEffect {s : State} (h : FxlSound s.fxl) : FxlSound (goodFrameEffect s).fxl := by
  unfold goodFrameEffect
  split
  · exact h
  next live => exact fxlSound_setLec ((Nat.sub_le _ _).trans h.1.1) live h

theorem fxlSound_badFrameEffect {s : State} (idle : s.fxl.sending = false) (h : FxlSound s.fxl) :
    FxlSound (badFrameEffect s).fxl := by
  unfold badFrameEffect
  split
  next silent =>
    obtain ⟨⟨room, -, at255, follows⟩, queue⟩ := h
    exact ⟨⟨room, noReleases, at255, fun live => absurd silent live⟩, queue⟩
  next live =>
    split
    next room => exact fxlSound_setLec room live h
    next =>
      have after : (enterSilent s).fxl = { letGo s.fxl with lec := 255, link := .silent, release := 0 } := by
        simp [enterSilent]
      rw [after]
      exact ⟨⟨Nat.le_refl _, noReleases, fun _ => rfl, fun live => absurd rfl live⟩, replyQueueSound_letGo idle⟩

/-- A receiver that does not hunt sends nothing (R173). -/
theorem not_sending {f : Fxl} (h : FxlSound f) (busy : f.receiver ≠ .hunting) : f.sending = false := by
  cases hs : f.sending with
  | false => rfl
  | true => exact absurd (h.2.2.2.2 hs).1 busy

/-- The receiver of a link that sends nothing may take any state. -/
theorem fxlSound_setReceiver {s : State} (r : Receiver) (idle : s.fxl.sending = false) (h : FxlSound s.fxl) :
    FxlSound (setReceiver r s).fxl := by
  obtain ⟨link, nodup, placed, deferred, -⟩ := h
  exact ⟨link, nodup, placed, deferred, fun hs => by simp [setReceiver, idle] at hs⟩

/-- A link with its counter at 0, NORMAL, with no release count. -/
theorem linkSound_zero (f : Fxl) : LinkSound { f with lec := 0, link := .normal, release := 0 } :=
  ⟨Nat.zero_le _, noReleases, fun e => by simp at e, fun _ => ⟨rfl, rfl⟩⟩

/-! ## Frames -/

theorem fxlSound_badFrame {s : State} (chars : List Byte) (e : Bool) (h : FxlSound s.fxl) :
    FxlSound (badFrame chars e s).fxl := by
  unfold badFrame
  split
  next inFrame =>
    have idle := not_sending h (by simp [inFrame])
    split
    · exact fxlSound_badFrameEffect idle (fxlSound_setReceiver _ idle h)
    · exact h
  · exact h

theorem fxlSound_frameGapTimeout {s : State} (h : FxlSound s.fxl) : FxlSound (frameGapTimeout s).fxl := by
  unfold frameGapTimeout
  split
  next inFrame =>
    have idle := not_sending h (by simp [inFrame])
    exact fxlSound_badFrameEffect idle (fxlSound_setReceiver _ idle h)
  · exact h

theorem fxlSound_requestEffect {s : State} (r : FrameRequest) (l : LinkState) (h : FxlSound s.fxl) :
    FxlSound (requestEffect r l s).fxl := by
  unfold requestEffect
  repeat' split
  case _ => exact fxlSound_answerRequest _ _ h
  case _ => exact fxlSound_answerRequest _ _ h
  case _ => exact fxlSound_answerRequest _ _ h
  case _ => exact fxlSound_answerRequest _ _ h
  case _ => exact fxlSound_takeRequest _ _ _ _ h

theorem fxlSound_requestFrame {s : State} (chars : List Byte) (h : FxlSound s.fxl) :
    FxlSound (requestFrame chars s).fxl := by
  unfold requestFrame
  split
  next inFrame =>
    split
    next =>
      have hunting := fxlSound_setReceiver .hunting (not_sending h (by simp [inFrame])) h
      unfold goodRequest
      split
      · exact hunting
      · exact fxlSound_requestEffect _ _ (fxlSound_goodFrameEffect hunting)
    · exact h
  · exact h

theorem fxlSound_goodIdleMark {s : State} (h : FxlSound s.fxl) : FxlSound (goodIdleMark s).fxl := by
  unfold goodIdleMark
  split
  next silent =>
    split
    next => exact ⟨linkSound_zero _, h.2⟩
    next more =>
      obtain ⟨⟨room, -, at255, -⟩, queue⟩ := h
      exact ⟨⟨room, Nat.lt_of_not_le more, at255, fun live => absurd silent live⟩, queue⟩
  next => exact fxlSound_goodFrameEffect h

theorem fxlSound_idleMark {s : State} (chars : List Byte) (h : FxlSound s.fxl) : FxlSound (idleMark chars s).fxl := by
  unfold idleMark
  split
  next inFrame =>
    split
    next => exact fxlSound_goodIdleMark (fxlSound_setReceiver .hunting (not_sending h (by simp [inFrame])) h)
    · exact h
  · exact h

theorem fxlSound_droppingIdleEnd {s : State} (h : FxlSound s.fxl) : FxlSound (droppingIdleEnd s).fxl := by
  unfold droppingIdleEnd
  split
  next dropping => exact fxlSound_setReceiver _ (not_sending h (by simp [dropping])) h
  · exact h

theorem fxlSound_syncCharacterReceived {s : State} (h : FxlSound s.fxl) : FxlSound (syncCharacterReceived s).fxl := by
  unfold syncCharacterReceived
  split
  next hunting => exact fxlSound_setReceiver _ hunting.2 h
  · exact h

theorem fxlSound_replyFrameStart {s : State} (h : FxlSound s.fxl) : FxlSound (replyFrameStart s).fxl := by
  unfold replyFrameStart
  split
  next start =>
    obtain ⟨link, nodup, placed, deferred, -⟩ := h
    exact ⟨link, nodup, placed, deferred, fun _ => ⟨start.1, start.2.2⟩⟩
  · exact h

theorem fxlSound_replyFrameSent {s : State} (h : FxlSound s.fxl) : FxlSound (replyFrameSent s).fxl := by
  unfold replyFrameSent
  repeat' split
  case _ => exact h
  case _ => exact h
  case _ st rest head _ p _ =>
    refine ⟨?_, replyQueueSound_sent head h.2⟩
    have same : (replySent st p s.fxl).lec = s.fxl.lec ∧ (replySent st p s.fxl).release = s.fxl.release ∧
        (replySent st p s.fxl).link = s.fxl.link := by
      unfold replySent placeDeferred
      dsimp only
      split <;> exact ⟨rfl, rfl, rfl⟩
    simpa [LinkSound, same] using h.1
  case _ => exact h

theorem fxlSound_resetLink (s : State) : FxlSound (resetLink s).fxl := by
  have after : (resetLink s).fxl =
      { letGo { s.fxl with sending := false, receiver := .hunting } with lec := 0, link := .normal, release := 0 } := by
    unfold resetLink
    dsimp only
    split <;> simp [letGo, outstandingTickets]
  rw [after]
  exact ⟨linkSound_zero (letGo { s.fxl with sending := false, receiver := .hunting }), replyQueueSound_letGo rfl⟩

theorem fxlSound_fixtureBreak (s : State) : FxlSound (fixtureBreak s).fxl :=
  fxlSound_resetLink _

/-! ## Requests at their owning blocks -/

theorem fxlSound_resumeLink {s : State} (h : FxlSound s.fxl) : FxlSound (resumeLink s).fxl := by
  unfold resumeLink
  dsimp only
  split
  · exact ⟨linkSound_zero _, h.2⟩
  · exact ⟨linkSound_zero _, h.2⟩

theorem fxlSound_openCapture {s : State} (req : Request) (h : FxlSound s.fxl) : FxlSound (openCapture req s).fxl := by
  unfold openCapture
  dsimp only
  (repeat' split) <;> simp [h]

theorem fxlSound_putRow {s : State} (req : Request) (h : FxlSound s.fxl) : FxlSound (putRow req s).fxl := by
  unfold putRow
  dsimp only
  (repeat' split) <;> simp [h]

theorem fxlSound_discardCapture {s : State} (req : Request) (h : FxlSound s.fxl) : FxlSound (discardCapture req s).fxl := by
  unfold discardCapture
  (repeat' split) <;> simp [h]

theorem fxlSound_captureState {s : State} (req : Request) (h : FxlSound s.fxl) : FxlSound (captureState req s).fxl := by
  unfold captureState
  (repeat' split) <;> simp [h]

theorem fxlSound_submitJob {s : State} (req : Request) (h : FxlSound s.fxl) : FxlSound (submitJob req s).fxl := by
  unfold submitJob
  dsimp only
  (repeat' split) <;> simp [h]

theorem fxlSound_readBox {s : State} (req : Request) (h : FxlSound s.fxl) : FxlSound (readBox req s).fxl := by
  unfold readBox
  (repeat' split) <;> simp [h]

theorem fxlSound_holdBox {s : State} (req : Request) (h : FxlSound s.fxl) : FxlSound (holdBox req s).fxl := by
  unfold holdBox
  (repeat' split) <;> simp [h]

theorem fxlSound_editBox {s : State} (req : Request) (h : FxlSound s.fxl) : FxlSound (editBox req s).fxl := by
  unfold editBox
  (repeat' split) <;> simp [h]

theorem fxlSound_releaseBox {s : State} (req : Request) (h : FxlSound s.fxl) : FxlSound (releaseBox req s).fxl := by
  unfold releaseBox
  (repeat' split) <;> simp [h]

theorem fxlSound_cancelJob {s : State} (req : Request) (h : FxlSound s.fxl) : FxlSound (cancelJob req s).fxl := by
  unfold cancelJob
  (repeat' split) <;> simp [h]

theorem fxlSound_freeBox {s : State} (req : Request) (h : FxlSound s.fxl) : FxlSound (freeBox req s).fxl := by
  unfold freeBox
  (repeat' split) <;> simp [h]

theorem fxlSound_readTile {s : State} (req : Request) (h : FxlSound s.fxl) : FxlSound (readTile req s).fxl := by
  unfold readTile
  (repeat' split) <;> simp [h]

theorem fxlSound_writeTile {s : State} (req : Request) (h : FxlSound s.fxl) : FxlSound (writeTile req s).fxl := by
  unfold writeTile
  (repeat' split) <;> simp [h]

theorem fxlSound_lockWays {s : State} (req : Request) (h : FxlSound s.fxl) : FxlSound (lockWays req s).fxl := by
  unfold lockWays
  dsimp only
  (repeat' split) <;> simp [h]

theorem fxlSound_drain {s : State} (req : Request) (h : FxlSound s.fxl) : FxlSound (drain req s).fxl := by
  unfold drain
  (repeat' split) <;> simp [h]

theorem fxlSound_panelHello {s : State} (req : Request) (h : FxlSound s.fxl) : FxlSound (panelHello req s).fxl := by
  unfold panelHello
  (repeat' split) <;> simp [h]

theorem fxlSound_fetchRun {s : State} (req : Request) (h : FxlSound s.fxl) : FxlSound (fetchRun req s).fxl := by
  unfold fetchRun
  dsimp only
  (repeat' split) <;> simp [h]

theorem fxlSound_readNotices {s : State} (req : Request) (h : FxlSound s.fxl) : FxlSound (readNotices req s).fxl := by
  unfold readNotices
  dsimp only
  (repeat' split) <;> simp [h]

theorem fxlSound_nextStale {s : State} (req : Request) (h : FxlSound s.fxl) : FxlSound (nextStale req s).fxl := by
  unfold nextStale answerStale
  (repeat' split) <;> simp [h]

theorem fxlSound_readProfile {s : State} (req : Request) (h : FxlSound s.fxl) : FxlSound (readProfile req s).fxl := by
  unfold readProfile
  (repeat' split) <;> simp [h]

theorem fxlSound_loadKey {s : State} (req : Request) (h : FxlSound s.fxl) : FxlSound (loadKey req s).fxl := by
  unfold loadKey loadSlot
  (repeat' split) <;> simp [h]

theorem fxlSound_fixKey {s : State} (req : Request) (h : FxlSound s.fxl) : FxlSound (fixKey req s).fxl := by
  unfold fixKey
  (repeat' split) <;> simp [h]

theorem fxlSound_eraseKey {s : State} (req : Request) (h : FxlSound s.fxl) : FxlSound (eraseKey req s).fxl := by
  unfold eraseKey
  (repeat' split) <;> simp [h]

theorem fxlSound_checkKey {s : State} (req : Request) (h : FxlSound s.fxl) : FxlSound (checkKey req s).fxl := by
  unfold checkKey
  (repeat' split) <;> simp [h]

theorem fxlSound_releaseKey {s : State} (req : Request) (h : FxlSound s.fxl) : FxlSound (releaseKey req s).fxl := by
  unfold releaseKey
  (repeat' split) <;> simp [h]

theorem fxlSound_readRegion {s : State} (req : Request) (h : FxlSound s.fxl) : FxlSound (readRegion req s).fxl := by
  unfold readRegion
  (repeat' split) <;> simp [h]

theorem fxlSound_readLabel {s : State} (req : Request) (h : FxlSound s.fxl) : FxlSound (readLabel req s).fxl := by
  unfold readLabel
  (repeat' split) <;> simp [h]

theorem fxlSound_writeRegion {s : State} (req : Request) (h : FxlSound s.fxl) : FxlSound (writeRegion req s).fxl := by
  unfold writeRegion loseReservation
  dsimp only
  (repeat' split) <;> simp [h]

theorem fxlSound_writeLabel {s : State} (req : Request) (h : FxlSound s.fxl) : FxlSound (writeLabel req s).fxl := by
  unfold writeLabel loseReservation
  dsimp only
  (repeat' split) <;> simp [h]

theorem fxlSound_stageQuery {s : State} (req : Request) (h : FxlSound s.fxl) : FxlSound (stageQuery req s).fxl := by
  unfold stageQuery
  (repeat' split) <;> simp [h]

theorem fxlSound_closeSet {s : State} (req : Request) (h : FxlSound s.fxl) : FxlSound (closeSet req s).fxl := by
  unfold closeSet
  (repeat' split) <;> simp [h]

theorem fxlSound_reopenSet {s : State} (req : Request) (h : FxlSound s.fxl) : FxlSound (reopenSet req s).fxl := by
  unfold reopenSet
  (repeat' split) <;> simp [h]

theorem fxlSound_linkResume {s : State} (req : Request) (h : FxlSound s.fxl) : FxlSound (linkResume req s).fxl := by
  unfold linkResume
  (repeat' split) <;> simp [h, fxlSound_resumeLink]

theorem fxlSound_ackEvents {s : State} (req : Request) (h : FxlSound s.fxl) : FxlSound (ackEvents req s).fxl := by
  unfold ackEvents replyFlags
  (repeat' split) <;> simp [h]

theorem fxlSound_setEventMask {s : State} (req : Request) (h : FxlSound s.fxl) : FxlSound (setEventMask req s).fxl := by
  unfold setEventMask replyFlags
  (repeat' split) <;> simp [h]

theorem fxlSound_readCounters {s : State} (req : Request) (h : FxlSound s.fxl) : FxlSound (readCounters req s).fxl := by
  unfold readCounters
  (repeat' split) <;> simp [h]

theorem fxlSound_clearCounters {s : State} (req : Request) (h : FxlSound s.fxl) : FxlSound (clearCounters req s).fxl := by
  unfold clearCounters
  (repeat' split) <;> simp [h]

theorem fxlSound_writeConfig {s : State} (req : Request) (h : FxlSound s.fxl) : FxlSound (writeConfig req s).fxl := by
  unfold writeConfig
  (repeat' split) <;> simp [h]

/-! ## Completions and tile operations that answer a withheld request -/

theorem fxlSound_keyFixComplete {s : State} (v : Bool) (h : FxlSound s.fxl) : FxlSound (keyFixComplete v s).fxl := by
  unfold keyFixComplete fixVerified fixFailed
  (repeat' split) <;> simp [h]

theorem fxlSound_keyEraseComplete {s : State} (v : Bool) (h : FxlSound s.fxl) : FxlSound (keyEraseComplete v s).fxl := by
  unfold keyEraseComplete eraseDone
  (repeat' split) <;> simp [h]

theorem fxlSound_recordWriteComplete {s : State} (v : Bool) (h : FxlSound s.fxl) : FxlSound (recordWriteComplete v s).fxl := by
  unfold recordWriteComplete regionDone labelDone
  (repeat' split) <;> simp [h]

theorem fxlSound_closeProgramComplete {s : State} (v : Bool) (h : FxlSound s.fxl) : FxlSound (closeProgramComplete v s).fxl := by
  unfold closeProgramComplete closeVerified stageFailed
  (repeat' split) <;> simp [h]

theorem fxlSound_reopenProgramComplete {s : State} (v : Bool) (h : FxlSound s.fxl) : FxlSound (reopenProgramComplete v s).fxl := by
  unfold reopenProgramComplete reopenVerified stageFailed
  (repeat' split) <;> simp [h]

theorem fxlSound_configProgramComplete {s : State} (v : Bool) (h : FxlSound s.fxl) : FxlSound (configProgramComplete v s).fxl := by
  unfold configProgramComplete
  (repeat' split) <;> simp [h]

theorem fxlSound_drainReply {s : State} (h : FxlSound s.fxl) : FxlSound (drainReply s).fxl := by
  unfold drainReply
  (repeat' split) <;> simp [h]

theorem fxlSound_readAccess {s : State} (o : AccessOp) (h : FxlSound s.fxl) : FxlSound (readAccess o s).fxl := by
  unfold readAccess
  have frame : (readTileAt o.tile (grantOther s)).1.fxl = s.fxl := by simp
  generalize readTileAt o.tile (grantOther s) = r at frame
  obtain ⟨u, outcome⟩ := r
  dsimp only at frame ⊢
  (repeat' split) <;> simp_all

theorem fxlSound_writeAccess {s : State} (o : AccessOp) (v : TileValues) (n : Nat) (h : FxlSound s.fxl) :
    FxlSound (writeAccess o v n s).fxl := by
  unfold writeAccess
  dsimp only
  have frame : (writeTileAt o.tile v (grantOther s)).1.fxl = s.fxl := by simp
  generalize writeTileAt o.tile v (grantOther s) = r at frame
  obtain ⟨u, outcome⟩ := r
  dsimp only at frame ⊢
  (repeat' split) <;> simp_all

theorem fxlSound_readTileAccess {s : State} (h : FxlSound s.fxl) : FxlSound (readTileAccess s).fxl := by
  unfold readTileAccess
  (repeat' split) <;> simp [h, fxlSound_readAccess]

theorem fxlSound_writeTileAccess {s : State} (h : FxlSound s.fxl) : FxlSound (writeTileAccess s).fxl := by
  unfold writeTileAccess
  (repeat' split) <;> simp [h, fxlSound_writeAccess]

theorem fxlSound_snapshotPoint {s : State} (o : PanelOp) (x : RunTile) (d : DirState) (h : FxlSound s.fxl) :
    FxlSound (snapshotPoint o x d s).fxl := by
  unfold snapshotPoint
  dsimp only
  (repeat' split) <;> simp [h]

theorem fxlSound_panelSnapshot {s : State} (h : FxlSound s.fxl) : FxlSound (panelSnapshot s).fxl := by
  unfold panelSnapshot snapshot
  split
  next o _ =>
    have frame : (readTileAt o.tile (grantOther s)).1.fxl = s.fxl := by simp
    generalize readTileAt o.tile (grantOther s) = r at frame
    obtain ⟨u, outcome⟩ := r
    have read : FxlSound u.fxl := frame ▸ h
    cases outcome with
    | waits p => simpa using read
    | values | faulty | refused => exact fxlSound_snapshotPoint _ _ _ read
  · exact h

/-! ## The SPI ports -/

/-- A request of an SPI port is nothing to the fixture link. -/
theorem takeRequest_fxl {m : Master} (spi : m = .system ∨ m = .panel) (k tag : Byte) (body : List Byte) (s : State) :
    (takeRequest m k tag body s).fxl = s.fxl := by
  unfold takeRequest
  dsimp only
  rcases spi with rfl | rfl <;> split <;> simp [routeReply]

theorem fxlSound_panelRequestTransaction {s : State} (mosi : List Byte) (h : FxlSound s.fxl) :
    FxlSound (panelRequestTransaction mosi s).fxl := by
  unfold panelRequestTransaction panelRecord takeHello
  dsimp only
  (repeat' split) <;> simp [h, fxlSound_panelHello, takeRequest_fxl]

theorem fxlSound_systemRequestTransaction {s : State} (mosi : List Byte) (h : FxlSound s.fxl) :
    FxlSound (systemRequestTransaction mosi s).fxl := by
  unfold systemRequestTransaction systemRecord
  dsimp only
  (repeat' split) <;> simp [h, takeRequest_fxl]

/-! ## The commands -/

theorem fxlSound_serve {f : Request → State → State} {k : Kind} {m : Master} {s : State}
    (answer : ∀ {s : State} (req : Request), FxlSound s.fxl → FxlSound (f req s).fxl) (h : FxlSound s.fxl) :
    FxlSound (serve k m f s).fxl :=
  serve_keeps (P := fun s => FxlSound s.fxl) (fun _ _ h => h) (fun req _ => answer req) k m h

theorem fxlSound_reset : FxlSound Fxl.reset := by
  refine ⟨⟨Nat.zero_le _, noReleases, fun e => ?_, fun _ => ⟨rfl, rfl⟩⟩, List.nodup_nil, fun i => ?_, fun i hi => ?_,
    fun hs => ?_⟩
  · cases e
  · simp [Fxl.reset]
  · simp [Fxl.reset] at hi
  · cases hs

/-- Every command keeps the link interface sound. -/
theorem fxlSound_effect (c : Instr) (s : State) (h : FxlSound s.fxl) : FxlSound (effect c s).fxl := by
  cases c with
  | powerOn | resetAssert => exact fxlSound_reset
  | openCapture m => exact fxlSound_serve fxlSound_openCapture h
  | putRow m => exact fxlSound_serve fxlSound_putRow h
  | discardCapture m => exact fxlSound_serve fxlSound_discardCapture h
  | captureState m => exact fxlSound_serve fxlSound_captureState h
  | submitJob m => exact fxlSound_serve fxlSound_submitJob h
  | readBox m => exact fxlSound_serve fxlSound_readBox h
  | holdBox m => exact fxlSound_serve fxlSound_holdBox h
  | editBox m => exact fxlSound_serve fxlSound_editBox h
  | releaseBox m => exact fxlSound_serve fxlSound_releaseBox h
  | cancelJob m => exact fxlSound_serve fxlSound_cancelJob h
  | freeBox m => exact fxlSound_serve fxlSound_freeBox h
  | readTile m => exact fxlSound_serve fxlSound_readTile h
  | writeTile m => exact fxlSound_serve fxlSound_writeTile h
  | lockWays m => exact fxlSound_serve fxlSound_lockWays h
  | drain m => exact fxlSound_serve fxlSound_drain h
  | panelHello m => exact fxlSound_serve fxlSound_panelHello h
  | fetchRun m => exact fxlSound_serve fxlSound_fetchRun h
  | readNotices m => exact fxlSound_serve fxlSound_readNotices h
  | nextStale m => exact fxlSound_serve fxlSound_nextStale h
  | readProfile m => exact fxlSound_serve fxlSound_readProfile h
  | loadKey m => exact fxlSound_serve fxlSound_loadKey h
  | fixKey m => exact fxlSound_serve fxlSound_fixKey h
  | eraseKey m => exact fxlSound_serve fxlSound_eraseKey h
  | checkKey m => exact fxlSound_serve fxlSound_checkKey h
  | releaseKey m => exact fxlSound_serve fxlSound_releaseKey h
  | readRegion m => exact fxlSound_serve fxlSound_readRegion h
  | readLabel m => exact fxlSound_serve fxlSound_readLabel h
  | writeRegion m => exact fxlSound_serve fxlSound_writeRegion h
  | writeLabel m => exact fxlSound_serve fxlSound_writeLabel h
  | stageQuery m => exact fxlSound_serve fxlSound_stageQuery h
  | closeSet m => exact fxlSound_serve fxlSound_closeSet h
  | reopenSet m => exact fxlSound_serve fxlSound_reopenSet h
  | linkResume m => exact fxlSound_serve fxlSound_linkResume h
  | ackEvents m => exact fxlSound_serve fxlSound_ackEvents h
  | setEventMask m => exact fxlSound_serve fxlSound_setEventMask h
  | readCounters m => exact fxlSound_serve fxlSound_readCounters h
  | clearCounters m => exact fxlSound_serve fxlSound_clearCounters h
  | writeConfig m => exact fxlSound_serve fxlSound_writeConfig h
  | requestFrame chars => exact fxlSound_requestFrame chars h
  | idleMark chars => exact fxlSound_idleMark chars h
  | badFrame chars e => exact fxlSound_badFrame chars e h
  | frameGapTimeout => exact fxlSound_frameGapTimeout h
  | droppingIdleEnd => exact fxlSound_droppingIdleEnd h
  | replyFrameStart => exact fxlSound_replyFrameStart h
  | replyFrameSent => exact fxlSound_replyFrameSent h
  | fixtureBreak => exact fxlSound_fixtureBreak s
  | syncCharacterReceived => exact fxlSound_syncCharacterReceived h
  | panelRequestTransaction mosi => exact fxlSound_panelRequestTransaction mosi h
  | systemRequestTransaction mosi => exact fxlSound_systemRequestTransaction mosi h
  | readTileAccess => exact fxlSound_readTileAccess h
  | writeTileAccess => exact fxlSound_writeTileAccess h
  | panelSnapshot => exact fxlSound_panelSnapshot h
  | drainReply => exact fxlSound_drainReply h
  | keyFixComplete v => exact fxlSound_keyFixComplete v h
  | keyEraseComplete v => exact fxlSound_keyEraseComplete v h
  | recordWriteComplete v => exact fxlSound_recordWriteComplete v h
  | closeProgramComplete v => exact fxlSound_closeProgramComplete v h
  | reopenProgramComplete v => exact fxlSound_reopenProgramComplete v h
  | configProgramComplete v => exact fxlSound_configProgramComplete v h
  | resetRelease | startupConfigRead | spareScan | headerLoad | keyHomeLoad | regionLabelLoad | stageLoad
  | panelReplyTransaction | panelStatusTransaction | systemReplyTransaction | systemStatusTransaction | holdExpiry
  | jobStart | passTileOperation | clearTileOperation | commitCopyOut | fillInstall | storageFault | flashGrant
  | fillReadComplete | tileProgramComplete | uncommitProgramComplete | headerCheckReadComplete | commitDrainDone
  | commitHeaderComplete =>
    simpa using h

/-- Settles O2: every command keeps the link interface sound, and it depends on neither the queue of commands nor the
clock. -/
theorem linkStaysSound : Obligations.LinkStaysSound :=
  step_keeps (P := fun s => FxlSound s.fxl) (fun _ _ h => h) (fun _ _ h => h) fxlSound_effect

end Sys2Proof.Proofs.Link
end

section
/-! The quiet of start-up (section 5.8, R182): before its end no request is inside the part and no block works. -/

namespace Sys2Proof.Proofs.Startup

open Sys2Proof Sys2Proof.Machine Sys2Proof.Proofs.Frames Sys2Proof.Proofs.Steps

/-- No request is inside the part, and the blocks stand as a reset left them. -/
structure Quiet (s : State) : Prop where
  inbox : s.inbox = []
  tlc : s.tlc = .reset
  jobs : s.jobs = .reset
  flash : s.mfc.flash = .idle
  reads : s.mfc.reads = []
  programs : s.mfc.programs = []
  wear : s.mfc.wear = .normal
  stage : s.srb.stage = .reset

theorem startupQuiet_iff (s : State) : StartupQuiet s ↔ (startupDone s = false → Quiet s) := by
  refine ⟨fun h d => ?_, fun h d => ?_⟩
  · obtain ⟨h1, h2, h3, h4, h5, h6, h7, h8⟩ := h d
    exact ⟨h1, h2, h3, h4, h5, h6, h7, h8⟩
  · obtain ⟨h1, h2, h3, h4, h5, h6, h7, h8⟩ := h d
    exact ⟨h1, h2, h3, h4, h5, h6, h7, h8⟩

theorem startupDone_congr {s t : State} (h : t.boot = s.boot) : startupDone t = startupDone s := by
  simp [startupDone, h]

/-- In a quiet start-up a command that moves only other parts leaves the quiet. -/
theorem Quiet.of_same {s t : State} (h : Quiet s)
    (same : t.inbox = s.inbox ∧ t.tlc = s.tlc ∧ t.jobs = s.jobs ∧ t.mfc.flash = s.mfc.flash ∧ t.mfc.reads = s.mfc.reads ∧
      t.mfc.programs = s.mfc.programs ∧ t.mfc.wear = s.mfc.wear ∧ t.srb.stage = s.srb.stage) : Quiet t := by
  obtain ⟨h1, h2, h3, h4, h5, h6, h7, h8⟩ := same
  exact ⟨h1 ▸ h.inbox, h2 ▸ h.tlc, h3 ▸ h.jobs, h4 ▸ h.flash, h5 ▸ h.reads, h6 ▸ h.programs, h7 ▸ h.wear, h8 ▸ h.stage⟩

theorem Quiet.running {s : State} (h : Quiet s) : s.jobs.running = none := by rw [h.jobs]; rfl

theorem Quiet.boxAt {s : State} (h : Quiet s) (b : Fin 16) : boxAt b s = none := by
  simp [Machine.boxAt, h.jobs, Jobs.reset]

theorem Quiet.entryAt {s : State} (h : Quiet s) (i : Fin 16) (w : Fin 8) : entryAt i w s = none := by
  simp [Machine.entryAt, h.tlc, Tlc.reset]

theorem Quiet.nextGrant {s : State} (h : Quiet s) : nextGrant s = none := by
  simp [Machine.nextGrant, jobPresented, accessTurn, h.tlc, Tlc.reset]

/-! ## The ports during start-up -/

theorem Quiet.panelRequestTransaction {s : State} (mosi : List Byte) (start : startupDone s = false) (h : Quiet s) :
    Quiet (panelRequestTransaction mosi s) := by
  refine h.of_same ?_
  unfold Machine.panelRequestTransaction panelRecord
  split <;> simp [start]

theorem Quiet.systemRequestTransaction {s : State} (mosi : List Byte) (start : startupDone s = false) (h : Quiet s) :
    Quiet (systemRequestTransaction mosi s) := by
  refine h.of_same ?_
  unfold Machine.systemRequestTransaction systemRecord
  split <;> simp [start]

theorem Quiet.requestFrame {s : State} (chars : List Byte) (start : startupDone s = false) (h : Quiet s) :
    Quiet (requestFrame chars s) := by
  refine h.of_same ?_
  have starting : ∀ u : State, u.boot = s.boot → startupDone u = false := fun u e => startupDone_congr e ▸ start
  unfold Machine.requestFrame goodRequest requestEffect
  (repeat' split) <;> simp_all

/-! ## The commands -/

/-- The reads of start-up keep the quiet until the last of them ends it. -/
theorem startupQuiet_bootReads {s : State} (h : StartupQuiet s) :
    StartupQuiet (resetRelease s) ∧ StartupQuiet (startupConfigRead s) ∧ StartupQuiet (spareScan s) ∧
      StartupQuiet (headerLoad s) ∧ StartupQuiet (keyHomeLoad s) ∧ StartupQuiet (regionLabelLoad s) ∧
      StartupQuiet (stageLoad s) := by
  have early : ∀ p, s.boot.phase = p → p ≠ .done → Quiet s := fun p e ne =>
    (startupQuiet_iff s).1 h (by simpa [startupDone, e] using ne)
  refine ⟨?_, ?_, ?_, ?_, ?_, ?_, ?_⟩
  · unfold resetRelease
    split
    next phase => exact (startupQuiet_iff _).2 fun _ => (early _ phase (by simp)).of_same (by simp)
    · exact h
  · unfold startupConfigRead
    split
    next phase => exact (startupQuiet_iff _).2 fun _ => (early _ phase (by simp)).of_same (by simp)
    · exact h
  · unfold spareScan
    split
    next phase => exact (startupQuiet_iff _).2 fun _ => (early _ phase (by simp)).of_same (by simp)
    · exact h
  · unfold headerLoad
    split
    next phase =>
      refine (startupQuiet_iff _).2 fun _ => (early _ phase (by simp)).of_same ?_
      (repeat' split) <;> simp
    · exact h
  · unfold keyHomeLoad
    split
    next phase => exact (startupQuiet_iff _).2 fun _ => (early _ phase (by simp)).of_same (by simp)
    · exact h
  · unfold regionLabelLoad
    split
    next phase => exact (startupQuiet_iff _).2 fun _ => (early _ phase (by simp)).of_same (by simp)
    next phase => exact (startupQuiet_iff _).2 fun _ => (early _ phase (by simp)).of_same (by simp)
    · exact h
  · unfold stageLoad
    split
    · exact fun d => by simp [finishStartup, startupDone, setPhase] at d
    · exact h

/-- A way that takes what it holds changes nothing. -/
theorem setEntry_same {i : Fin 16} {w : Fin 8} {e : Option Entry} {s : State} (h : Machine.entryAt i w s = e) :
    setEntry i w e s = s := by
  have ways : (s.tlc.sets[i]).ways.set w e = (s.tlc.sets[i]).ways := by simp [← h, Machine.entryAt]
  unfold setEntry
  dsimp only
  rw [ways]
  change s.setTlc { s.tlc with sets := s.tlc.sets.set i s.tlc.sets[i] } = s
  simp [State.setTlc]

/-- A reset leaves the quiet. -/
theorem quiet_resetPart (p : BootPhase) (s : State) : Quiet (resetPart p s) :=
  ⟨rfl, rfl, rfl, rfl, rfl, rfl, rfl, rfl⟩

/-- Every command leaves start-up quiet: no request waits, no job runs, no operation is presented and none is in flight. -/
theorem quiet_effect (c : Instr) (s : State) (start : startupDone s = false) (h : Quiet s)
    (still : startupDone (effect c s) = false) : Quiet (effect c s) := by
  have quiet : StartupQuiet s := (startupQuiet_iff s).2 fun _ => h
  obtain ⟨release, config, spares, header, keys, records, stage⟩ := startupQuiet_bootReads quiet
  cases c with
  | powerOn | resetAssert => exact quiet_resetPart _ s
  | resetRelease => exact (startupQuiet_iff _).1 release still
  | startupConfigRead => exact (startupQuiet_iff _).1 config still
  | spareScan => exact (startupQuiet_iff _).1 spares still
  | headerLoad => exact (startupQuiet_iff _).1 header still
  | keyHomeLoad => exact (startupQuiet_iff _).1 keys still
  | regionLabelLoad => exact (startupQuiet_iff _).1 records still
  | stageLoad => exact (startupQuiet_iff _).1 stage still
  | panelRequestTransaction mosi => exact h.panelRequestTransaction mosi start
  | systemRequestTransaction mosi => exact h.systemRequestTransaction mosi start
  | requestFrame chars => exact h.requestFrame chars start
  | openCapture | putRow | discardCapture | captureState | submitJob | readBox | holdBox | editBox | releaseBox
  | cancelJob | freeBox | readTile | writeTile | lockWays | drain | panelHello | fetchRun | readNotices | nextStale
  | readProfile | loadKey | fixKey | eraseKey | checkKey | releaseKey | readRegion | readLabel | writeRegion
  | writeLabel | stageQuery | closeSet | reopenSet | linkResume | ackEvents | setEventMask | readCounters
  | clearCounters | writeConfig =>
    simpa [serve_of_inbox_nil h.inbox] using h
  | passTileOperation | clearTileOperation | commitCopyOut | readTileAccess | writeTileAccess | panelSnapshot
  | fillInstall =>
    simpa [passTileOperation, clearTileOperation, commitCopyOut, readTileAccess, writeTileAccess, panelSnapshot,
      fillInstall, h.nextGrant] using h
  | holdExpiry b => simpa [holdExpiry, h.boxAt] using h
  | jobStart =>
    have noBox : oldestStartable s = none := by simp [oldestStartable, startable, h.boxAt]
    simpa [jobStart, noBox] using h
  | commitDrainDone => simpa [commitDrainDone, h.running] using h
  | drainReply => simpa [drainReply, h.tlc, Tlc.reset] using h
  | storageFault place changes =>
    refine h.of_same ?_
    cases place with
    | entry i w =>
      have invalid : setEntry i w ((Machine.entryAt i w s).map (strikeEntry changes)) s = s := by
        simpa [h.entryAt] using setEntry_same (h.entryAt i w)
      simp [storageFault, invalid]
    | queued n =>
      have empty : s.tlc.queue.modify n.val (strikeCopy changes) = s.tlc.queue := by simp [h.tlc, Tlc.reset]
      simp [storageFault, empty, State.setTlc]
  | flashGrant => simpa [flashGrant, h.flash, h.reads, h.programs, h.tlc, Tlc.reset] using h
  | fillReadComplete | tileProgramComplete | uncommitProgramComplete | headerCheckReadComplete | commitHeaderComplete
  | keyFixComplete | keyEraseComplete | recordWriteComplete | closeProgramComplete | reopenProgramComplete
  | configProgramComplete =>
    simpa [fillReadComplete, tileProgramComplete, uncommitProgramComplete, headerCheckReadComplete,
      commitHeaderComplete, keyFixComplete, keyEraseComplete, recordWriteComplete, closeProgramComplete,
      reopenProgramComplete, configProgramComplete, h.flash] using h
  | panelReplyTransaction | panelStatusTransaction | systemReplyTransaction | systemStatusTransaction | idleMark
  | badFrame | frameGapTimeout | droppingIdleEnd | replyFrameStart | replyFrameSent | fixtureBreak
  | syncCharacterReceived =>
    exact h.of_same (by simp)

/-- Once start-up is done only a reset undoes it. -/
theorem boot_effect {c : Instr} {s : State} (done : startupDone s = true) :
    c = .powerOn ∨ c = .resetAssert ∨ (effect c s).boot = s.boot := by
  have phase : s.boot.phase = .done := by simpa [startupDone] using done
  cases c with
  | powerOn => exact .inl rfl
  | resetAssert => exact .inr (.inl rfl)
  | openCapture | putRow | discardCapture | captureState | submitJob | readBox | holdBox | editBox | releaseBox
  | cancelJob | freeBox | readTile | writeTile | lockWays | drain | panelHello | fetchRun | readNotices | nextStale
  | readProfile | loadKey | fixKey | eraseKey | checkKey | releaseKey | readRegion | readLabel | writeRegion
  | writeLabel | stageQuery | closeSet | reopenSet | linkResume | ackEvents | setEventMask | readCounters
  | clearCounters | writeConfig =>
    exact .inr (.inr (serve_same State.boot (by simp) (by simp) ..))
  | resetRelease | startupConfigRead | spareScan | headerLoad | keyHomeLoad | regionLabelLoad | stageLoad =>
    simp [resetRelease, startupConfigRead, spareScan, headerLoad, keyHomeLoad, regionLabelLoad, stageLoad, phase]
  | _ => simp

theorem startupQuiet_effect (c : Instr) {s : State} (h : StartupQuiet s) : StartupQuiet (effect c s) := by
  rw [startupQuiet_iff]
  intro still
  cases start : startupDone s with
  | false => exact quiet_effect c s start ((startupQuiet_iff s).1 h start) still
  | true =>
    rcases boot_effect (c := c) start with rfl | rfl | same
    · exact quiet_resetPart _ s
    · exact quiet_resetPart _ s
    · rw [startupDone_congr same, start] at still
      cases still

end Sys2Proof.Proofs.Startup
end

section
/-! What the granted tile operations make of the tile cache: the read access or the whole-tile write alone changes its
entries, its queue, its fills and the faulty count. -/

namespace Sys2Proof.Proofs.TileAccess

open Sys2Proof Sys2Proof.Machine Sys2Proof.Proofs.Frames

/-- Two states agree in the cache's sets, its queue, its fills and the faulty count. -/
structure SameCache (s t : State) : Prop where
  sets : t.tlc.sets = s.tlc.sets
  queue : t.tlc.queue = s.tlc.queue
  fills : t.tlc.fills = s.tlc.fills
  faulty : t.mfc.header.faulty = s.mfc.header.faulty

theorem SameCache.refl (s : State) : SameCache s s := ⟨rfl, rfl, rfl, rfl⟩

theorem SameCache.entryAt {s t : State} (h : SameCache s t) (i : Fin 16) (w : Fin 8) : entryAt i w t = entryAt i w s :=
  entryAt_congr h.sets i w

theorem sameCache_grantOther (s : State) : SameCache s (grantOther s) := by constructor <;> simp

theorem sameCache_grantJob (s : State) : SameCache s (grantJob s) := ⟨rfl, rfl, rfl, rfl⟩

theorem sameCache_noteWrite (s : State) : SameCache s (noteWrite s) := by
  unfold noteWrite
  split <;> exact ⟨rfl, rfl, rfl, rfl⟩

/-- A granted READ_TILE makes of the cache what its read access does (R89). -/
theorem sameCache_readAccess (o : AccessOp) (s : State) :
    SameCache (readTileAt o.tile (grantOther s)).1 (readAccess o s) := by
  unfold readAccess
  generalize readTileAt o.tile (grantOther s) = r
  obtain ⟨u, outcome⟩ := r
  split <;> constructor <;> simp_all

/-- A granted WRITE_TILE makes of the cache what its whole-tile write does, or nothing when a job that writes the map runs
(R90). -/
theorem sameCache_writeAccess (o : AccessOp) (v : TileValues) (n : Nat) (s : State) :
    SameCache s (writeAccess o v n s) ∨ SameCache (writeTileAt o.tile v (grantOther s)).1 (writeAccess o v n s) := by
  unfold writeAccess
  dsimp only
  generalize writeTileAt o.tile v (grantOther s) = r
  obtain ⟨u, outcome⟩ := r
  split
  · left
    constructor <;> simp
  · right
    cases outcome with
    | written =>
      have note := sameCache_noteWrite (dropAccess o u)
      constructor <;> simp [note.faulty]
    | waits | refused => constructor <;> simp

/-- A granted panel snapshot makes of the cache what its read access does (R126). -/
theorem sameCache_snapshot (o : PanelOp) (s : State) :
    SameCache (readTileAt o.tile (grantOther s)).1 (snapshot o s) := by
  unfold snapshot
  generalize readTileAt o.tile (grantOther s) = r
  obtain ⟨u, outcome⟩ := r
  cases outcome <;> constructor <;> simp

theorem sameCache_clearWritten (b : Fin 16) (x : Box) (t : TileNo) (s : State) :
    SameCache s (clearWritten b x t s) := by
  unfold clearWritten completeClear
  dsimp only
  (repeat' split) <;> constructor <;> simp [setHeader]

/-- A granted clear tile operation makes of the cache what its whole-tile write does (R65). -/
theorem sameCache_clearTile (b : Fin 16) (x : Box) (t : TileNo) (s : State) :
    SameCache (writeTileAt t (Vector.replicate 32 0) (grantJob s)).1 (clearTile b x t s) := by
  unfold clearTile
  generalize writeTileAt t (Vector.replicate 32 0) (grantJob s) = r
  obtain ⟨u, outcome⟩ := r
  cases outcome with
  | written => exact sameCache_clearWritten b x t u
  | waits p => dsimp only; split <;> constructor <;> simp
  | refused => constructor <;> simp

theorem sameCache_writePassTile (b : Fin 16) (x : Box) (a : PassArgs) (sh : Shape) (w : PassWork) (way : Fin 8)
    (old : TileValues) (lost : Bool) (s : State) :
    SameCache
      (storeWhole w.next way
        (newValues { cap := s.cap, shape := sh, targets := w.targets, args := a } w.next old) s)
      (writePassTile b x a sh w way old lost s) := by
  unfold writePassTile passWritten completePass
  dsimp only
  (repeat' split) <;> constructor <;> simp [setHeader]

/-- A granted pass tile operation makes of the cache what its read access does, with the new values of the tile written
in its way when the access has come to the tile's values or to a lost tile (R21). -/
theorem sameCache_passTile (b : Fin 16) (x : Box) (a : PassArgs) (sh : Shape) (w : PassWork) (s : State) :
    let r := readTileAt w.next (grantJob s)
    SameCache r.1 (passTile b x a sh w s) ∨
      ∃ (way : Fin 8) (old : TileValues), (r.2 = .values way old ∨ r.2 = .faulty way ∧ old = Vector.replicate 32 0) ∧
        SameCache
          (storeWhole w.next way
            (newValues { cap := s.cap, shape := sh, targets := w.targets, args := a } w.next old) r.1)
          (passTile b x a sh w s) := by
  have frame := readTileAt_frame w.next (grantJob s)
  unfold passTile
  generalize readTileAt w.next (grantJob s) = r at frame
  obtain ⟨u, outcome⟩ := r
  have cap : u.cap = s.cap := frame.2.1
  dsimp only
  cases outcome with
  | values way old =>
    have write := sameCache_writePassTile b x a sh w way old false u
    rw [cap] at write
    exact .inr ⟨way, old, .inl rfl, write⟩
  | faulty way =>
    have write := sameCache_writePassTile b x a sh w way (Vector.replicate 32 0) true u
    rw [cap] at write
    exact .inr ⟨way, _, .inr ⟨rfl, rfl⟩, write⟩
  | waits p => left; dsimp only; split <;> constructor <;> simp
  | refused => left; constructor <;> simp

/-- A read access that comes to a way has found or made it the tile's. -/
theorem TileRead.way {t : TileNo} {s u : State} {o : ReadOutcome} (read : TileRead t s u o) {w : Fin 8}
    (way : (∃ v, o = .values w v) ∨ o = .faulty w) : ∃ e, entryAt (setOf t) w u = some e ∧ e.tile = t := by
  have entry : ∀ {x : Fin 8} {a : State}, EntryRead t x a u o →
      (∃ e, entryAt (setOf t) x a = some e ∧ e.tile = t) → ∃ e, entryAt (setOf t) w u = some e ∧ e.tile = t := by
    intro x a read holds
    cases read with
    | held =>
      obtain ⟨v, e⟩ | e := way
      · cases e
        simpa using holds
      · cases e
    | lost =>
      obtain ⟨v, e⟩ | e := way
      · cases e
      · cases e
        have made : entryAt (setOf t) w (loseTile t w a) = some { tile := t, state := .faulty } := by
          rw [entryAt_congr (by simp [loseTile] : (loseTile t w a).tlc.sets =
            (setEntry (setOf t) w (some { tile := t, state := .faulty }) a).tlc.sets), entryAt_setEntry_self]
        exact ⟨_, made, rfl⟩
    | faulty =>
      obtain ⟨v, e⟩ | e := way
      · cases e
      · cases e
        exact holds
    | repaired | filling =>
      obtain ⟨v, e⟩ | e := way <;> cases e
  cases read with
  | hit x found read => exact entry read (findWay_some found)
  | copied x c _ _ _ read => exact entry read ⟨_, (giveWay_wayGiven t x _ s).1, rfl⟩
  | noWay =>
    obtain ⟨v, e⟩ | e := way <;> split at e <;> cases e
  | fetched =>
    obtain ⟨v, e⟩ | e := way <;> cases e

/-! ## Properties of the cache -/

/-- A property of the cache that survives read accesses, whole-tile writes of fitting values, and whatever leaves the cache
alone. -/
structure KeptByTileOperations (fits : TileValues → Prop) (P : State → Prop) : Prop where
  same : ∀ {s t : State}, SameCache s t → P s → P t
  read : ∀ {t : TileNo} {s u : State} {o : ReadOutcome}, TileRead t s u o → P s → P u
  write : ∀ {t : TileNo} {v : TileValues} {s u : State} {o : WriteOutcome}, fits v → TileWrite t v s u o → P s → P u
  store : ∀ {t : TileNo} {w : Fin 8} {s : State} {e : Entry} {v : TileValues}, fits v → entryAt (setOf t) w s = some e →
    e.tile = t → P s → P (storeWhole t w v s)

section TileOperations

variable {fits : TileValues → Prop} {P : State → Prop} (kept : KeptByTileOperations fits P) {s : State} (h : P s)
include kept h

theorem KeptByTileOperations.readTileAccess : P (readTileAccess s) := by
  unfold Machine.readTileAccess
  repeat' split
  case _ o _ _ _ =>
    exact kept.same (sameCache_readAccess o s)
      (kept.read (readTileAt_tileRead ..) (kept.same (sameCache_grantOther s) h))
  all_goals exact h

theorem KeptByTileOperations.writeTileAccess
    (values : ∀ o v n, nextGrant s = some (.access o) → o.kind = .write v n → fits v) : P (writeTileAccess s) := by
  unfold Machine.writeTileAccess
  repeat' split
  case _ => exact h
  case _ o grant _ v n kind =>
    rcases sameCache_writeAccess o v n s with idle | written
    · exact kept.same idle h
    · exact kept.same written
        (kept.write (values o v n grant kind) (writeTileAt_tileWrite ..) (kept.same (sameCache_grantOther s) h))
  case _ => exact h

theorem KeptByTileOperations.panelSnapshot : P (panelSnapshot s) := by
  unfold Machine.panelSnapshot
  split
  next o _ =>
    exact kept.same (sameCache_snapshot o s)
      (kept.read (readTileAt_tileRead ..) (kept.same (sameCache_grantOther s) h))
  · exact h

theorem KeptByTileOperations.clearTileOperation (zeros : fits (Vector.replicate 32 0)) : P (clearTileOperation s) := by
  unfold Machine.clearTileOperation
  repeat' split
  case _ b t _ _ _ x _ =>
    exact kept.same (sameCache_clearTile b x t s)
      (kept.write zeros (writeTileAt_tileWrite ..) (kept.same (sameCache_grantJob s) h))
  all_goals exact h

theorem KeptByTileOperations.passTileOperation
    (values : ∀ b x a (i : PassInput) t old, boxAt b s = some x → x.args = some a → i.args = a → fits (newValues i t old)) :
    P (passTileOperation s) := by
  unfold Machine.passTileOperation
  repeat' split
  case _ b w _ _ _ _ x sh box _ _ a args =>
    have read := readTileAt_tileRead w.next (grantJob s)
    have after := kept.read read (kept.same (sameCache_grantJob s) h)
    rcases sameCache_passTile b x a sh w s with still | ⟨way, old, outcome, written⟩
    · exact kept.same still after
    · obtain ⟨e, entry, tile⟩ := read.way (w := way) (outcome.imp (fun e => ⟨old, e⟩) And.left)
      exact kept.same written (kept.store (values b x a _ _ _ box args rfl) entry tile after)
  all_goals exact h

end TileOperations

end Sys2Proof.Proofs.TileAccess
end

section
/-! The tile cache (R68, R85, R86): the queue's room, one entry for a tile, and the faulty count. -/

namespace Sys2Proof.Proofs.Cache

open Sys2Proof Sys2Proof.Machine Sys2Proof.Proofs.Frames Sys2Proof.Proofs.Steps Sys2Proof.Proofs.TileAccess
  Sys2Proof.Proofs.Startup

/-! ## The write-back queue -/

theorem queueSound_congr {s t : State} (same : t.tlc.queue = s.tlc.queue) (h : QueueSound s) : QueueSound t := by
  simpa [QueueSound, same] using h

/-- A way is given to a tile only when the copy of a DIRTY victim has room (R78). -/
theorem queueSound_giveWay {i : Fin 16} {w : Fin 8} {s : State} (t : TileNo) (st : EntryState)
    (victim : chooseVictim i s = some w) (h : QueueSound s) : QueueSound (giveWay i w t st s) := by
  have queue : (giveWay i w t st s).tlc.queue = s.tlc.queue ++ copyOfWay i w s := by rw [giveWay_eq]; rfl
  unfold QueueSound
  rw [queue]
  rcases chooseVictim_some victim with invalid | able
  · simpa [copyOfWay, invalid, QueueSound] using h
  · obtain ⟨-, ⟨u, st⟩, entry, ⟨v, c, clean⟩ | ⟨-, room⟩⟩ := (eligible_iff ..).1 able
    · subst clean
      simpa [copyOfWay, entry, QueueSound] using h
    · have one : (copyOfWay i w s).length ≤ 1 := by
        unfold copyOfWay
        split <;> simp
      rw [List.length_append]
      exact Nat.add_le_add (Nat.le_of_lt_succ room) one

theorem queueSound_entryRead {t : TileNo} {w : Fin 8} {s u : State} {o : ReadOutcome} (read : EntryRead t w s u o)
    (h : QueueSound s) : QueueSound u := by
  cases read with
  | held | repaired | lost => exact queueSound_congr (by simp) h
  | faulty | filling => exact h

theorem queueSound_tileRead {t : TileNo} {s u : State} {o : ReadOutcome} (read : TileRead t s u o)
    (h : QueueSound s) : QueueSound u := by
  cases read with
  | hit _ _ read => exact queueSound_entryRead read h
  | noWay => exact h
  | copied _ _ _ victim _ read => exact queueSound_entryRead read (queueSound_giveWay _ _ victim h)
  | fetched _ _ victim => exact queueSound_congr (by simp) (queueSound_giveWay t .filling victim h)

theorem queueSound_tileWrite {t : TileNo} {v : TileValues} {s u : State} {o : WriteOutcome} (write : TileWrite t v s u o)
    (h : QueueSound s) : QueueSound u := by
  cases write with
  | hit => exact queueSound_congr (by simp) h
  | filling | noWay => exact h
  | missed w _ victim => exact queueSound_congr (by simp) (queueSound_giveWay t (.dirty v (codeOf t v)) victim h)

/-! ## Entries -/

/-- Each tile is held by at most one entry, in its set, and the faulty count is the number of FAULTY entries. -/
def EntriesCounted (s : State) : Prop :=
  OneEntryPerTile s ∧ s.mfc.header.faulty = faultyEntries s

/-- The FAULTY entries by set and way. -/
def faultySet (s : State) : Finset (Fin 16 × Fin 8) :=
  Finset.univ.filter fun p => isFaulty p.1 p.2 s = true

theorem faultyEntries_eq_card (s : State) : faultyEntries s = (faultySet s).card := by
  have perSet : ∀ i : Fin 16, (List.finRange 8).countP (fun w => isFaulty i w s) =
      ∑ w : Fin 8, if isFaulty i w s = true then 1 else 0 := by
    intro i
    rw [← Finset.card_filter, List.countP_eq_length_filter,
      ← List.toFinset_card_of_nodup ((List.nodup_finRange 8).filter _)]
    congr 1
    ext w
    simp
  rw [faultySet, Finset.card_filter, Fintype.sum_prod_type, faultyEntries, Fin.sum_univ_def]
  simp only [perSet]

theorem mem_faultySet {p : Fin 16 × Fin 8} {s : State} : p ∈ faultySet s ↔ isFaulty p.1 p.2 s = true := by
  simp [faultySet]

/-- A state whose ways hold the same has the same FAULTY entries. -/
theorem faultyEntries_congr {s t : State} (same : ∀ i w, isFaulty i w t = isFaulty i w s) :
    faultyEntries t = faultyEntries s := by
  simp [faultyEntries, same]

theorem isFaulty_setEntry_self (i : Fin 16) (w : Fin 8) (t : TileNo) (st : EntryState) (s : State) :
    isFaulty i w (setEntry i w (some { tile := t, state := st }) s) = (st == .faulty) := by
  simp [isFaulty, entryAt_setEntry_self]

theorem isFaulty_setEntry_other {i j : Fin 16} {w x : Fin 8} (e : Option Entry) (s : State) (h : ¬(j = i ∧ x = w)) :
    isFaulty j x (setEntry i w e s) = isFaulty j x s := by
  simp [isFaulty, entryAt_setEntry_other e s h]

/-- The number of FAULTY entries after a way takes an entry. -/
theorem faultyEntries_setEntry (i : Fin 16) (w : Fin 8) (t : TileNo) (st : EntryState) (s : State) :
    faultyEntries (setEntry i w (some { tile := t, state := st }) s) =
      faultyEntries s - (if isFaulty i w s then 1 else 0) + (if st = .faulty then 1 else 0) := by
  have others : (faultySet (setEntry i w (some { tile := t, state := st }) s)).erase (i, w) =
      (faultySet s).erase (i, w) := by
    ext ⟨j, x⟩
    rw [Finset.mem_erase, Finset.mem_erase, mem_faultySet, mem_faultySet]
    refine and_congr_right fun ne => ?_
    rw [isFaulty_setEntry_other _ _ fun e => ne (Prod.ext e.1 e.2)]
  have after := Finset.card_erase_add_one (s := faultySet (setEntry i w (some { tile := t, state := st }) s)) (a := (i, w))
  have before := Finset.card_erase_add_one (s := faultySet s) (a := (i, w))
  have afterNot := Finset.erase_eq_of_notMem (s := faultySet (setEntry i w (some { tile := t, state := st }) s)) (a := (i, w))
  have beforeNot := Finset.erase_eq_of_notMem (s := faultySet s) (a := (i, w))
  rw [others] at after afterNot
  simp only [mem_faultySet, isFaulty_setEntry_self, beq_iff_eq] at after before afterNot beforeNot
  rw [faultyEntries_eq_card, faultyEntries_eq_card]
  by_cases now : st = .faulty <;> by_cases old : isFaulty i w s = true
  · rw [if_pos now, if_pos old, ← after now, ← before old]
    rfl
  · rw [if_pos now, if_neg old, ← after now, beforeNot old]
    rfl
  · rw [if_neg now, if_pos old, ← afterNot now, ← before old]
    rfl
  · rw [if_neg now, if_neg old, ← afterNot now, beforeNot old]
    rfl

/-- No way of the tile's set but `w` holds the tile. -/
def FreeElsewhere (t : TileNo) (w : Fin 8) (s : State) : Prop :=
  ∀ x : Fin 8, x ≠ w → ∀ e : Entry, entryAt (setOf t) x s = some e → e.tile ≠ t

theorem freeElsewhere_of_entry {t : TileNo} {w : Fin 8} {e : Entry} {s : State} (h : OneEntryPerTile s)
    (entry : entryAt (setOf t) w s = some e) (tile : e.tile = t) : FreeElsewhere t w s :=
  fun _ ne _ other same => ne (h.2 _ _ _ _ _ other entry (same.trans tile.symm))

theorem freeElsewhere_of_missing {t : TileNo} {s : State} (missing : findWay t s = none) (w : Fin 8) :
    FreeElsewhere t w s := by
  intro x _ e entry same
  have test := List.find?_eq_none.1 missing x (List.mem_finRange x)
  simp [entry, same] at test

/-- A way takes an entry of a tile that no other way of the set holds. -/
theorem oneEntryPerTile_setEntry {t : TileNo} {w : Fin 8} {s : State} (st : EntryState) (h : OneEntryPerTile s)
    (free : FreeElsewhere t w s) : OneEntryPerTile (setEntry (setOf t) w (some { tile := t, state := st }) s) := by
  obtain ⟨home, one⟩ := h
  have self := entryAt_setEntry_self (setOf t) w (some { tile := t, state := st }) s
  refine ⟨fun i x e entry => ?_, fun i x y e f first second same => ?_⟩
  · by_cases here : i = setOf t ∧ x = w
    · obtain ⟨rfl, rfl⟩ := here
      cases self.symm.trans entry
      rfl
    · rw [entryAt_setEntry_other _ _ here] at entry
      exact home i x e entry
  · by_cases set : i = setOf t
    · subst set
      by_cases atX : x = w <;> by_cases atY : y = w
      · exact atX.trans atY.symm
      · subst atX
        cases self.symm.trans first
        rw [entryAt_setEntry_other _ _ fun c => atY c.2] at second
        exact absurd same.symm (free y atY f second)
      · subst atY
        cases self.symm.trans second
        rw [entryAt_setEntry_other _ _ fun c => atX c.2] at first
        exact absurd same (free x atX e first)
      · rw [entryAt_setEntry_other _ _ fun c => atX c.2] at first
        rw [entryAt_setEntry_other _ _ fun c => atY c.2] at second
        exact one _ _ _ _ _ first second same
    · rw [entryAt_setEntry_other _ _ fun c => set c.1] at first second
      exact one _ _ _ _ _ first second same

/-- States whose ways hold the same, with the same faulty count. -/
theorem entriesCounted_congr {s t : State} (ways : ∀ i w, entryAt i w t = entryAt i w s)
    (faulty : t.mfc.header.faulty = s.mfc.header.faulty) (h : EntriesCounted s) : EntriesCounted t := by
  obtain ⟨⟨home, one⟩, count⟩ := h
  refine ⟨⟨fun i w e => ?_, fun i w x e f => ?_⟩, ?_⟩
  · rw [ways]; exact home i w e
  · rw [ways, ways]; exact one i w x e f
  · rw [faulty, count]
    exact (faultyEntries_congr fun i w => by simp [isFaulty, ways]).symm

/-- A way takes an entry of a tile that no other way of the set holds, and the faulty count follows. -/
theorem entriesCounted_setEntry {t : TileNo} {w : Fin 8} {st : EntryState} {s u : State} (h : EntriesCounted s)
    (free : FreeElsewhere t w s)
    (ways : ∀ i x, entryAt i x u = entryAt i x (setEntry (setOf t) w (some { tile := t, state := st }) s))
    (faulty : u.mfc.header.faulty =
      s.mfc.header.faulty - (if isFaulty (setOf t) w s then 1 else 0) + (if st = .faulty then 1 else 0)) :
    EntriesCounted u := by
  have one := oneEntryPerTile_setEntry st h.1 free
  refine ⟨⟨fun i w e => ?_, fun i w x e f => ?_⟩, ?_⟩
  · rw [ways]; exact one.1 i w e
  · rw [ways, ways]; exact one.2 i w x e f
  · rw [faulty, h.2, ← faultyEntries_setEntry _ _ t]
    exact (faultyEntries_congr fun i w => by simp [isFaulty, ways]).symm

/-! ## The cache's operations on entries -/

theorem not_isFaulty_of_entry {i : Fin 16} {w : Fin 8} {s : State} {e : Entry} (entry : entryAt i w s = some e)
    (state : e.state ≠ .faulty) : isFaulty i w s = false := by
  simpa [isFaulty, entry] using state

theorem entriesCounted_loseTile {t : TileNo} {w : Fin 8} {s : State} {e : Entry} (h : EntriesCounted s)
    (entry : entryAt (setOf t) w s = some e) (free : FreeElsewhere t w s) (state : e.state ≠ .faulty) :
    EntriesCounted (loseTile t w s) := by
  refine entriesCounted_setEntry (st := .faulty) h free (fun i x => entryAt_congr (by simp [loseTile]) i x) ?_
  simp [loseTile, setHeader, not_isFaulty_of_entry entry state]

theorem entriesCounted_repairTile {t : TileNo} {w : Fin 8} {s : State} {e : Entry} (h : EntriesCounted s)
    (entry : entryAt (setOf t) w s = some e) (free : FreeElsewhere t w s) (state : e.state ≠ .faulty) :
    EntriesCounted (repairTile t w s) := by
  refine entriesCounted_setEntry (st := .filling) h free (fun i x => entryAt_congr (by simp [repairTile]) i x) ?_
  simp [repairTile, not_isFaulty_of_entry entry state]

theorem entriesCounted_storeWhole {t : TileNo} {w : Fin 8} {s : State} (v : TileValues) (h : EntriesCounted s)
    (free : FreeElsewhere t w s) : EntriesCounted (storeWhole t w v s) := by
  refine entriesCounted_setEntry (st := .dirty v (codeOf t v)) h free (fun i x => ?_) ?_
  · rw [entryAt_congr (congrArg Tlc.sets (storeWhole_sets t w v s)), entryAt_touch]
  · rw [storeWhole_header]
    simp

/-- A victim is given to a tile that the cache does not hold. -/
theorem entriesCounted_giveWay {t : TileNo} {w : Fin 8} {st : EntryState} {s : State} (h : EntriesCounted s)
    (missing : findWay t s = none) (victim : chooseVictim (setOf t) s = some w) (state : st ≠ .faulty) :
    EntriesCounted (giveWay (setOf t) w t st s) := by
  have sound : isFaulty (setOf t) w s = false := by
    rcases chooseVictim_some victim with invalid | able
    · simp [isFaulty, invalid]
    · obtain ⟨-, e, entry, ⟨v, c, st⟩ | ⟨⟨v, c, st⟩, -⟩⟩ := (eligible_iff ..).1 able <;>
        exact not_isFaulty_of_entry entry (by simp [st])
  refine entriesCounted_setEntry (st := st) h (freeElsewhere_of_missing missing w) (fun i x => ?_) ?_
  · simp only [giveWay, entryAt_touch, copyVictim_eq]
    rfl
  · simp [sound, state]

theorem entriesCounted_entryRead {t : TileNo} {w : Fin 8} {s u : State} {o : ReadOutcome} (read : EntryRead t w s u o)
    (free : FreeElsewhere t w s) (h : EntriesCounted s) : EntriesCounted u := by
  cases read with
  | held => exact entriesCounted_congr (by simp) (by simp) h
  | repaired e v c entry clean => exact entriesCounted_repairTile h entry free (by simp [clean])
  | lost e v c entry dirty => exact entriesCounted_loseTile h entry free (by simp [dirty])
  | faulty | filling => exact h

theorem entriesCounted_tileRead {t : TileNo} {s u : State} {o : ReadOutcome} (read : TileRead t s u o)
    (h : EntriesCounted s) : EntriesCounted u := by
  cases read with
  | hit w found read =>
    obtain ⟨e, entry, tile⟩ := findWay_some found
    exact entriesCounted_entryRead read (freeElsewhere_of_entry h.1 entry tile) h
  | noWay => exact h
  | copied w c missing victim _ read =>
    have given := entriesCounted_giveWay (st := .dirty c.values c.code) h missing victim (by simp)
    exact entriesCounted_entryRead read (freeElsewhere_of_entry given.1 (giveWay_wayGiven t w _ s).1 rfl) given
  | fetched w missing victim =>
    exact entriesCounted_congr (fun i x => entryAt_congr (by simp) i x) (by simp)
      (entriesCounted_giveWay (st := .filling) h missing victim (by simp))

theorem entriesCounted_tileWrite {t : TileNo} {v : TileValues} {s u : State} {o : WriteOutcome}
    (write : TileWrite t v s u o) (h : EntriesCounted s) : EntriesCounted u := by
  cases write with
  | hit w e found =>
    obtain ⟨e, entry, tile⟩ := findWay_some found
    exact entriesCounted_storeWhole v h (freeElsewhere_of_entry h.1 entry tile)
  | filling | noWay => exact h
  | missed w missing victim =>
    have given := entriesCounted_giveWay (st := .dirty v (codeOf t v)) h missing victim (by simp)
    exact entriesCounted_storeWhole v given (freeElsewhere_of_entry given.1 (giveWay_wayGiven t w _ s).1 rfl)

theorem entriesCounted_installFill {t : TileNo} {w : Fin 8} {s : State} (r : FillResult) (h : EntriesCounted s)
    (filling : entryAt (setOf t) w s = some { tile := t, state := .filling }) : EntriesCounted (installFill t w r s) := by
  have free := freeElsewhere_of_entry h.1 filling rfl
  have sound := not_isFaulty_of_entry filling (by simp)
  cases r with
  | values v =>
    exact entriesCounted_setEntry (st := .clean v (codeOf t v)) h free (fun _ _ => rfl) (by simp [installFill, sound])
  | erased =>
    exact entriesCounted_setEntry (st := .clean zeroTile (codeOf t zeroTile)) h free (fun _ _ => rfl)
      (by simp [installFill, sound])
  | failed => exact entriesCounted_loseTile h filling free (by simp)

/-! ## The granted tile operations -/

theorem EntriesCounted.of_sameCache {s t : State} (same : SameCache s t) (h : EntriesCounted s) : EntriesCounted t :=
  entriesCounted_congr same.entryAt same.faulty h

theorem entriesCounted_kept : KeptByTileOperations (fun _ => True) EntriesCounted where
  same same h := h.of_sameCache same
  read read h := entriesCounted_tileRead read h
  write _ write h := entriesCounted_tileWrite write h
  store _ entry tile h := entriesCounted_storeWhole _ h (freeElsewhere_of_entry h.1 entry tile)

theorem queueSound_kept : KeptByTileOperations (fun _ => True) QueueSound where
  same same h := queueSound_congr same.queue h
  read read h := queueSound_tileRead read h
  write _ write h := queueSound_tileWrite write h
  store _ _ _ h := queueSound_congr (by simp) h

/-! ## The other commands of the cache -/

theorem fillingWay_some {t : TileNo} {w : Fin 8} {s : State} (h : fillingWay t s = some w) :
    entryAt (setOf t) w s = some { tile := t, state := .filling } := by
  simpa using List.find?_some h

theorem entriesCounted_fillInstall {s : State} (h : EntriesCounted s) : EntriesCounted (fillInstall s) := by
  unfold fillInstall
  split
  next f _ =>
    unfold installHead
    dsimp only
    have granted : EntriesCounted ((grantOther s).setTlc { (grantOther s).tlc with fills := s.tlc.fills.tail }) :=
      entriesCounted_congr (fun i x => entryAt_congr (by simp) i x) (by simp) h
    split
    next w found =>
      exact entriesCounted_congr (fun i x => entryAt_congr (by simp) i x) (by simp)
        (entriesCounted_installFill f.result granted (fillingWay_some found))
    · exact granted
  · exact h

theorem entriesCounted_storageFault {s : State} (place : FaultPlace) (changes : List (Fin 32 × Int))
    (h : EntriesCounted s) : EntriesCounted (storageFault place changes s) := by
  unfold storageFault
  split
  · cases place with
    | queued n => exact entriesCounted_congr (fun _ _ => rfl) rfl h
    | entry i w =>
      dsimp only
      cases entry : entryAt i w s with
      | none => simpa [setEntry_same entry] using h
      | some e =>
        obtain ⟨t, st⟩ := e
        obtain rfl : setOf t = i := h.1.1 i w _ entry
        have free := freeElsewhere_of_entry h.1 entry rfl
        cases st with
        | clean v c =>
          exact entriesCounted_setEntry (st := .clean (changeValues changes v) c) h free (fun _ _ => rfl)
            (by simp [not_isFaulty_of_entry entry])
        | dirty v c =>
          exact entriesCounted_setEntry (st := .dirty (changeValues changes v) c) h free (fun _ _ => rfl)
            (by simp [not_isFaulty_of_entry entry])
        | filling | faulty => simpa [strikeEntry, setEntry_same entry] using h
  · exact h

theorem sameCache_failCommit (b : Fin 16) (w : CommitWork) (r : Reason) (c : Option Bool) (s : State) :
    SameCache s (failCommit b w r c s) := by
  constructor <;> simp [failCommit, setHeader]

theorem sameCache_nextCopyOut (b : Fin 16) (w : CommitWork) (t : TileNo) (s : State) :
    SameCache s (nextCopyOut b w t s) := by
  constructor <;> simp

theorem sameCache_setJobOp (p : Option OpPhase) (s : State) : SameCache s (setJobOp p s) := by
  constructor <;> simp

theorem entriesCounted_copyOut {t : TileNo} {w : Fin 8} {s : State} {e : Entry} (b : Fin 16) (v : TileValues)
    (c : CheckCode) (h : EntriesCounted s) (entry : entryAt (setOf t) w s = some e) (tile : e.tile = t)
    (dirty : e.state = .dirty v c) : EntriesCounted (copyOut b t w v c s) :=
  entriesCounted_setEntry (st := .clean v c) h (freeElsewhere_of_entry h.1 entry tile) (fun _ _ => rfl)
    (by simp [copyOut, not_isFaulty_of_entry entry, dirty])

/-- A copy-out changes the cache only when it copies the tile's DIRTY entry, with room in the queue (R88). -/
theorem commitCopyOut_cases (s : State) :
    SameCache s (commitCopyOut s) ∨
      ∃ (b : Fin 16) (t : TileNo) (w : Fin 8) (e : Entry) (v : TileValues) (c : CheckCode),
        entryAt (setOf t) w s = some e ∧ e.tile = t ∧ e.state = .dirty v c ∧ queueFull s = false ∧
          SameCache (copyOut b t w v c (grantJob s)) (commitCopyOut s) := by
  have job := sameCache_grantJob s
  have trans : ∀ {u}, SameCache (grantJob s) u → SameCache s u := fun h =>
    ⟨h.sets.trans job.sets, h.queue.trans job.queue, h.fills.trans job.fills, h.faulty.trans job.faulty⟩
  unfold commitCopyOut
  split
  next b w _ _ =>
    split
    next t _ =>
      unfold copyOutTile
      split
      · exact .inl (trans (sameCache_nextCopyOut ..))
      next way found =>
        split
        next u v c entry =>
          unfold copyOutDirty
          split
          · split
            · exact .inl (trans (sameCache_failCommit ..))
            · exact .inl (trans (sameCache_setJobOp ..))
          next room =>
            obtain ⟨e, held, tile⟩ := findWay_some found
            cases held.symm.trans entry
            exact .inr ⟨b, t, way, _, v, c, held, tile, rfl, Bool.eq_false_iff.2 room, sameCache_nextCopyOut ..⟩
        · exact .inl (trans (sameCache_nextCopyOut ..))
    all_goals exact .inl (.refl s)
  · exact .inl (.refl s)

theorem entriesCounted_commitCopyOut {s : State} (h : EntriesCounted s) : EntriesCounted (commitCopyOut s) := by
  rcases commitCopyOut_cases s with same | ⟨b, t, w, e, v, c, entry, tile, dirty, -, copied⟩
  · exact h.of_sameCache same
  · exact (entriesCounted_copyOut b v c (h.of_sameCache (sameCache_grantJob s)) entry tile dirty).of_sameCache copied

theorem queueSound_commitCopyOut {s : State} (h : QueueSound s) : QueueSound (commitCopyOut s) := by
  rcases commitCopyOut_cases s with same | ⟨b, t, w, e, v, c, -, -, -, room, copied⟩
  · exact queueSound_congr same.queue h
  · refine queueSound_congr copied.queue ?_
    have spare : s.tlc.queue.length < Config.queueRoom := Nat.lt_of_not_le (of_decide_eq_false room)
    simpa [QueueSound, copyOut] using spare

/-! ## Commands that leave the cache's entries -/

theorem faulty_jobStart (s : State) : (jobStart s).mfc.header.faulty = s.mfc.header.faulty := by
  unfold jobStart startBox startPass startClear startCommit
  (repeat' split) <;> simp [setHeader]

theorem faulty_wornCommit (s : State) : (wornCommit s).mfc.header.faulty = s.mfc.header.faulty := by
  unfold wornCommit
  split
  · simp [failCommit, setHeader]
  · rfl

theorem faulty_tileProgramComplete (v : Bool) (s : State) :
    (tileProgramComplete v s).mfc.header.faulty = s.mfc.header.faulty := by
  unfold tileProgramComplete tileVerified tileFailed enterWorn
  dsimp only
  (repeat' split) <;> simp [faulty_wornCommit]

theorem faulty_commitDrainDone (s : State) : (commitDrainDone s).mfc.header.faulty = s.mfc.header.faulty := by
  unfold commitDrainDone endDrain failCommit
  (repeat' split) <;> simp [setHeader]

theorem faulty_commitHeaderComplete (v : Bool) (s : State) :
    (commitHeaderComplete v s).mfc.header.faulty = s.mfc.header.faulty := by
  unfold commitHeaderComplete headerVerified failCommit
  dsimp only
  (repeat' split) <;> simp [setHeader]

/-- A state of which start-up is not done holds no entry and counts none. -/
theorem entriesCounted_of_reset {s : State} (tlc : s.tlc = .reset) (faulty : s.mfc.header.faulty = 0) :
    EntriesCounted s := by
  have ways : ∀ i w, entryAt i w s = none := fun i w => by simp [entryAt, tlc, Tlc.reset]
  refine ⟨⟨fun i w e entry => ?_, fun i w x e f entry => ?_⟩, ?_⟩
  · simp [ways] at entry
  · simp [ways] at entry
  · simp [faulty, faultyEntries, isFaulty, ways]

/-- Start-up reads the header while the cache is still as a reset left it, and counts no FAULTY entry (R114). -/
theorem entriesCounted_headerLoad {s : State} (quiet : StartupQuiet s) (h : EntriesCounted s) :
    EntriesCounted (headerLoad s) := by
  by_cases phase : s.boot.phase = .header
  · have tlc := ((startupQuiet_iff s).1 quiet (by simp [startupDone, phase])).tlc
    refine entriesCounted_of_reset (by simpa using tlc) ?_
    unfold headerLoad
    rw [phase]
    dsimp only
    repeat' split
    all_goals simp [loadHeader, headerLost, Header.lost]
  · have same : headerLoad s = s := by
      unfold headerLoad
      split
      · contradiction
      · rfl
    rwa [same]

/-! ## Every command -/

theorem queueSound_tileProgramComplete {s : State} (v : Bool) (h : QueueSound s) : QueueSound (tileProgramComplete v s) := by
  have shorter : (tileProgramComplete v s).tlc.queue.length ≤ s.tlc.queue.length := by
    unfold tileProgramComplete tileVerified
    dsimp only
    repeat' split
    all_goals simp
  exact shorter.trans h

theorem queueSound_storageFault {s : State} (place : FaultPlace) (changes : List (Fin 32 × Int)) (h : QueueSound s) :
    QueueSound (storageFault place changes s) := by
  unfold storageFault
  repeat' split
  · exact queueSound_congr (by simp) h
  · simpa [QueueSound] using h
  · exact h

theorem queueSound_serve {f : Request → State → State} {k : Kind} {m : Master} {s : State}
    (answer : ∀ req s, (f req s).tlc.queue = s.tlc.queue) (h : QueueSound s) : QueueSound (serve k m f s) :=
  queueSound_congr (serve_same (fun s => s.tlc.queue) (fun _ _ => rfl) answer k m s) h

theorem queueSound_effect (c : Instr) (s : State) (h : QueueSound s) : QueueSound (effect c s) := by
  cases c with
  | powerOn | resetAssert => exact Nat.zero_le _
  | readTileAccess => exact queueSound_kept.readTileAccess h
  | writeTileAccess => exact queueSound_kept.writeTileAccess h fun _ _ _ _ _ => trivial
  | panelSnapshot => exact queueSound_kept.panelSnapshot h
  | clearTileOperation => exact queueSound_kept.clearTileOperation h trivial
  | passTileOperation => exact queueSound_kept.passTileOperation h fun _ _ _ _ _ _ _ _ _ => trivial
  | commitCopyOut => exact queueSound_commitCopyOut h
  | storageFault place changes => exact queueSound_storageFault place changes h
  | tileProgramComplete v => exact queueSound_tileProgramComplete v h
  | openCapture m | putRow m | discardCapture m | captureState m | submitJob m | readBox m | holdBox m | editBox m
  | releaseBox m | cancelJob m | freeBox m | readTile m | writeTile m | lockWays m | drain m | panelHello m | fetchRun m
  | readNotices m | nextStale m | readProfile m | loadKey m | fixKey m | eraseKey m | checkKey m | releaseKey m
  | readRegion m | readLabel m | writeRegion m | writeLabel m | stageQuery m | closeSet m | reopenSet m | linkResume m
  | ackEvents m | setEventMask m | readCounters m | clearCounters m | writeConfig m =>
    exact queueSound_serve (by simp) h
  | resetRelease | startupConfigRead | spareScan | headerLoad | keyHomeLoad | regionLabelLoad | stageLoad
  | panelRequestTransaction | panelReplyTransaction | panelStatusTransaction | systemRequestTransaction
  | systemReplyTransaction | systemStatusTransaction | requestFrame | idleMark | badFrame | frameGapTimeout
  | droppingIdleEnd | replyFrameStart | replyFrameSent | fixtureBreak | syncCharacterReceived | holdExpiry | jobStart
  | fillInstall | drainReply | flashGrant | fillReadComplete | uncommitProgramComplete | headerCheckReadComplete
  | commitDrainDone | commitHeaderComplete | keyFixComplete | keyEraseComplete | recordWriteComplete
  | closeProgramComplete | reopenProgramComplete | configProgramComplete =>
    exact queueSound_congr (by simp) h

theorem entriesCounted_same {s t : State} (sets : t.tlc.sets = s.tlc.sets)
    (faulty : t.mfc.header.faulty = s.mfc.header.faulty) (h : EntriesCounted s) : EntriesCounted t :=
  entriesCounted_congr (entryAt_congr sets) faulty h

theorem entriesCounted_serve {f : Request → State → State} {k : Kind} {m : Master} {s : State}
    (answer : ∀ req s, (f req s).tlc.sets = s.tlc.sets ∧ (f req s).mfc.header = s.mfc.header) (h : EntriesCounted s) :
    EntriesCounted (serve k m f s) :=
  serve_keeps (fun _ _ h => entriesCounted_same rfl rfl h)
    (fun req s h => entriesCounted_same (answer req s).1 (by rw [(answer req s).2]) h) k m h

theorem entriesCounted_effect (c : Instr) (s : State) (quiet : StartupQuiet s) (h : EntriesCounted s) :
    EntriesCounted (effect c s) := by
  cases c with
  | powerOn | resetAssert => exact entriesCounted_of_reset rfl rfl
  | headerLoad => exact entriesCounted_headerLoad quiet h
  | readTileAccess => exact entriesCounted_kept.readTileAccess h
  | writeTileAccess => exact entriesCounted_kept.writeTileAccess h fun _ _ _ _ _ => trivial
  | panelSnapshot => exact entriesCounted_kept.panelSnapshot h
  | clearTileOperation => exact entriesCounted_kept.clearTileOperation h trivial
  | passTileOperation => exact entriesCounted_kept.passTileOperation h fun _ _ _ _ _ _ _ _ _ => trivial
  | commitCopyOut => exact entriesCounted_commitCopyOut h
  | fillInstall => exact entriesCounted_fillInstall h
  | storageFault place changes => exact entriesCounted_storageFault place changes h
  | jobStart => exact entriesCounted_same (by simp) (faulty_jobStart s) h
  | tileProgramComplete v => exact entriesCounted_same (by simp) (faulty_tileProgramComplete v s) h
  | commitDrainDone => exact entriesCounted_same (by simp) (faulty_commitDrainDone s) h
  | commitHeaderComplete v => exact entriesCounted_same (by simp) (faulty_commitHeaderComplete v s) h
  | openCapture m | putRow m | discardCapture m | captureState m | submitJob m | readBox m | holdBox m | editBox m
  | releaseBox m | cancelJob m | freeBox m | readTile m | writeTile m | lockWays m | drain m | panelHello m | fetchRun m
  | readNotices m | nextStale m | readProfile m | loadKey m | fixKey m | eraseKey m | checkKey m | releaseKey m
  | readRegion m | readLabel m | writeRegion m | writeLabel m | stageQuery m | closeSet m | reopenSet m | linkResume m
  | ackEvents m | setEventMask m | readCounters m | clearCounters m | writeConfig m =>
    exact entriesCounted_serve (by simp) h
  | resetRelease | startupConfigRead | spareScan | keyHomeLoad | regionLabelLoad | stageLoad
  | panelRequestTransaction | panelReplyTransaction | panelStatusTransaction | systemRequestTransaction
  | systemReplyTransaction | systemStatusTransaction | requestFrame | idleMark | badFrame | frameGapTimeout
  | droppingIdleEnd | replyFrameStart | replyFrameSent | fixtureBreak | syncCharacterReceived | holdExpiry
  | drainReply | flashGrant | fillReadComplete | uncommitProgramComplete | headerCheckReadComplete
  | keyFixComplete | keyEraseComplete | recordWriteComplete
  | closeProgramComplete | reopenProgramComplete | configProgramComplete =>
    exact entriesCounted_same (by simp) (by simp) h

/-- Settles O4: every command keeps the queue's room and, with the quiet of start-up, the count of the entries. -/
theorem theCacheStaysSound : Obligations.TheCacheStaysSound := fun s t hstep =>
  ⟨fun h => step_keeps (P := QueueSound) (fun _ _ h => h) (fun _ _ h => h) queueSound_effect s t h hstep,
    fun h => step_keeps (P := EntriesSound) (fun _ _ h => h) (fun _ _ h => h)
      (fun c s ⟨quiet, counted⟩ => ⟨startupQuiet_effect c quiet, entriesCounted_effect c s quiet counted⟩) s t h hstep⟩

end Sys2Proof.Proofs.Cache
end

section
/-! What the flash holds after each command: a completion leaves it IDLE, a grant and the repeat of a tile program start
something, and nothing else moves it (R97, R98, R102). -/

namespace Sys2Proof.Proofs.FlashPrograms

open Sys2Proof Sys2Proof.Machine Sys2Proof.Proofs.Frames Sys2Proof.Proofs.Steps

@[simp] theorem programDone_flash (s : State) : (programDone s).mfc.flash = .idle := by
  simp [programDone, setFlash]

@[simp] theorem enterWorn_flash (s : State) : (enterWorn s).mfc.flash = .idle := by
  simp [enterWorn]

/-- A command other than a grant and the completion of a tile program leaves the flash as it is, or IDLE. -/
theorem flash_effect (c : Instr) (s : State) (grant : c ≠ .flashGrant) (tile : ∀ v, c ≠ .tileProgramComplete v) :
    (effect c s).mfc.flash = s.mfc.flash ∨ (effect c s).mfc.flash = .idle := by
  cases c with
  | flashGrant => contradiction
  | tileProgramComplete v => exact absurd rfl (tile v)
  | powerOn | resetAssert => exact .inr rfl
  | fillReadComplete =>
    simp only [effect_fillReadComplete, fillReadComplete]
    split
    · exact .inr rfl
    all_goals exact .inl rfl
  | headerCheckReadComplete =>
    simp only [effect_headerCheckReadComplete, headerCheckReadComplete]
    split
    · exact .inr (by simp [setFlash])
    all_goals exact .inl rfl
  | uncommitProgramComplete v =>
    simp only [effect_uncommitProgramComplete, uncommitProgramComplete]
    split
    · exact .inr (by simp)
    · exact .inl rfl
  | commitHeaderComplete v =>
    simp only [effect_commitHeaderComplete, commitHeaderComplete]
    split
    · right
      repeat' split
      all_goals simp [headerVerified, failCommit, setHeader]
    · exact .inl rfl
  | keyFixComplete v =>
    simp only [effect_keyFixComplete, keyFixComplete, fixVerified, fixFailed]
    repeat' split
    · exact .inr (by simp)
    · exact .inr (by simp)
    · exact .inl rfl
  | keyEraseComplete v =>
    simp only [effect_keyEraseComplete, keyEraseComplete, eraseDone]
    split
    · exact .inr (by simp)
    · exact .inl rfl
  | recordWriteComplete v =>
    simp only [effect_recordWriteComplete, recordWriteComplete, regionDone, labelDone]
    repeat' split
    · exact .inr (by simp)
    · exact .inr (by simp)
    · exact .inr (by simp)
    · exact .inr (by simp)
    · exact .inl rfl
  | closeProgramComplete v =>
    simp only [effect_closeProgramComplete, closeProgramComplete, closeVerified, stageFailed]
    repeat' split
    · exact .inr (by simp)
    · exact .inr (by simp)
    · exact .inl rfl
  | reopenProgramComplete v =>
    simp only [effect_reopenProgramComplete, reopenProgramComplete, reopenVerified, stageFailed]
    repeat' split
    · exact .inr (by simp)
    · exact .inr (by simp)
    · exact .inl rfl
  | configProgramComplete v =>
    simp only [effect_configProgramComplete, configProgramComplete]
    repeat' split
    · exact .inr (by simp)
    · exact .inr (by simp)
    · exact .inl rfl
  | openCapture m | putRow m | discardCapture m | captureState m | submitJob m | readBox m | holdBox m | editBox m
  | releaseBox m | cancelJob m | freeBox m | readTile m | writeTile m | lockWays m | drain m | panelHello m
  | fetchRun m | readNotices m | nextStale m | readProfile m | loadKey m | fixKey m | eraseKey m | checkKey m
  | releaseKey m | readRegion m | readLabel m | writeRegion m | writeLabel m | stageQuery m | closeSet m | reopenSet m
  | linkResume m | ackEvents m | setEventMask m | readCounters m | clearCounters m | writeConfig m =>
    exact .inl (serve_same (fun s => s.mfc.flash) (fun _ _ => rfl) (by simp) _ _ s)
  | resetRelease | startupConfigRead | spareScan | headerLoad | keyHomeLoad | regionLabelLoad | stageLoad
  | panelRequestTransaction | panelReplyTransaction | panelStatusTransaction | systemRequestTransaction
  | systemReplyTransaction | systemStatusTransaction | requestFrame | idleMark | badFrame | frameGapTimeout
  | droppingIdleEnd | replyFrameStart | replyFrameSent | fixtureBreak | syncCharacterReceived | holdExpiry | jobStart
  | passTileOperation | clearTileOperation | commitCopyOut | readTileAccess | writeTileAccess | panelSnapshot
  | fillInstall | drainReply | storageFault | commitDrainDone =>
    exact .inl (by simp)

/-- The completion of a tile program leaves the flash IDLE, or programming the tile again at the next unused spare
(R102). -/
theorem flash_tileProgramComplete (v : Bool) (s : State) :
    (tileProgramComplete v s).mfc.flash = s.mfc.flash ∨ (tileProgramComplete v s).mfc.flash = .idle ∨
      ∃ (c : TileCopy) (home : TileHome) (seq : BitVec 32) (k : Fin 24), s.mfc.flash = .programming (.tile c home) seq ∧
        nextSpare (setTileHome c.tile home .failing s) = some k ∧ v = false ∧
        (tileProgramComplete v s).mfc.flash = .programming (.tile c (.spare k)) s.mfc.seq := by
  unfold tileProgramComplete
  split
  next c home seq flash =>
    split
    · exact .inr (.inl (by simp [tileVerified]))
    next unverified =>
      unfold tileFailed
      dsimp only
      split
      next k spare =>
        exact .inr (.inr ⟨c, home, seq, k, flash, spare, by simpa using unverified, by simp [startProgram]⟩)
      · exact .inr (.inl (by simp))
  · exact .inl rfl

end Sys2Proof.Proofs.FlashPrograms
end

section
/-! The remap table (R101, R102, R113): no tile is mapped twice, and a tile program is at the home that the table names. -/

namespace Sys2Proof.Proofs.RemapTable

open Sys2Proof Sys2Proof.Machine Sys2Proof.Proofs.Frames Sys2Proof.Proofs.Steps Sys2Proof.Proofs.Startup
  Sys2Proof.Proofs.FlashPrograms

/-- No tile appears twice in the remap table. -/
def MappedOnce (s : State) : Prop :=
  ∀ (j k : Fin 24) (t : TileNo), s.mfc.spares[j] = .mapped t → s.mfc.spares[k] = .mapped t → j = k

/-- No spare is MAPPED for the tile. -/
def Unmapped (t : TileNo) (s : State) : Prop :=
  ∀ j : Fin 24, s.mfc.spares[j] ≠ .mapped t

theorem spares_setSpare (j k : Fin 24) (x : SpareState) (s : State) :
    (setSpare k x s).mfc.spares[j] = if j = k then x else s.mfc.spares[j] := by
  by_cases same : j = k
  · simp [setSpare, same]
  · have apart : k.val ≠ j.val := fun e => same (Fin.ext e.symm)
    simp [setSpare, same, apart]

/-! ## The table under a change of one spare -/

theorem mappedOnce_congr {s t : State} (same : t.mfc.spares = s.mfc.spares) (h : MappedOnce s) : MappedOnce t := by
  simpa [MappedOnce, same] using h

/-- A spare that becomes UNUSED or DEAD maps nothing. -/
theorem mappedOnce_setSpare_free {k : Fin 24} {x : SpareState} {s : State} (free : ∀ t, x ≠ .mapped t)
    (h : MappedOnce s) : MappedOnce (setSpare k x s) := by
  intro i j t first second
  rw [spares_setSpare] at first second
  split at first
  · exact absurd first (free t)
  · split at second
    · exact absurd second (free t)
    · exact h i j t first second

/-- A spare may be MAPPED for a tile that no spare is MAPPED for. -/
theorem mappedOnce_setSpare_mapped {k : Fin 24} {t : TileNo} {s : State} (free : Unmapped t s) (h : MappedOnce s) :
    MappedOnce (setSpare k (.mapped t) s) := by
  intro i j u first second
  rw [spares_setSpare] at first second
  split at first <;> split at second
  next here there => rw [here, there]
  next => cases first; exact absurd second (free j)
  next => cases second; exact absurd first (free i)
  next => exact h i j u first second

/-- Once the spare of a tile is no longer MAPPED for it, none is. -/
theorem unmapped_setSpare {k : Fin 24} {t : TileNo} {x : SpareState} {s : State} (h : MappedOnce s)
    (mapped : s.mfc.spares[k] = .mapped t) (free : x ≠ .mapped t) : Unmapped t (setSpare k x s) := by
  intro j here
  rw [spares_setSpare] at here
  split at here
  · exact free here
  next other => exact other (h j k t here mapped)

/-! ## The home that the table names -/

theorem homeOf_congr {s t : State} (same : t.mfc.spares = s.mfc.spares) (u : TileNo) : homeOf u t = homeOf u s := by
  simp [homeOf, same]

theorem mapped_of_homeOf {t : TileNo} {k : Fin 24} {s : State} (h : homeOf t s = .spare k) :
    s.mfc.spares[k] = .mapped t := by
  unfold homeOf at h
  split at h
  next j found =>
    cases h
    simpa using List.find?_some found
  · cases h

theorem unmapped_of_homeOf {t : TileNo} {s : State} (h : homeOf t s = .own) : Unmapped t s := by
  unfold homeOf at h
  split at h
  · cases h
  next none =>
    intro j here
    simpa [here] using List.find?_eq_none.1 none j (List.mem_finRange j)

theorem homeOf_of_mapped {t : TileNo} {k : Fin 24} {s : State} (h : MappedOnce s) (mapped : s.mfc.spares[k] = .mapped t) :
    homeOf t s = .spare k := by
  cases home : homeOf t s with
  | own => exact absurd mapped (unmapped_of_homeOf home k)
  | spare j => rw [h j k t (mapped_of_homeOf home) mapped]

/-! ## Tile programs -/

theorem mappedOnce_leaveHome {home : TileHome} {s : State} (h : MappedOnce s) : MappedOnce (leaveHome home s) := by
  cases home with
  | own => exact h
  | spare k => exact mappedOnce_setSpare_free (by simp) h

theorem unmapped_leaveHome {t : TileNo} {home : TileHome} {s : State} (h : MappedOnce s) (atHome : homeOf t s = home) :
    Unmapped t (leaveHome home s) := by
  cases home with
  | own => exact unmapped_of_homeOf atHome
  | spare k => exact unmapped_setSpare h (mapped_of_homeOf atHome) (by simp)

/-- The repeat of a failed tile program (R102): the tile is MAPPED to the next unused spare alone, and programmed there. -/
theorem mappedOnce_tileFailed {c : TileCopy} {home : TileHome} {s : State} (h : MappedOnce s)
    (atHome : homeOf c.tile s = home) : MappedOnce (tileFailed c home s) ∧ tileProgramAtHome (tileFailed c home s) := by
  unfold tileFailed
  dsimp only
  split
  next k _ =>
    have left : MappedOnce (leaveHome home (setTileHome c.tile home .failing s)) :=
      mappedOnce_leaveHome (mappedOnce_congr (by simp) h)
    have free : Unmapped c.tile (leaveHome home (setTileHome c.tile home .failing s)) :=
      unmapped_leaveHome (mappedOnce_congr (by simp) h) ((homeOf_congr (by simp) _).trans atHome)
    have mapped := mappedOnce_setSpare_mapped (k := k) free left
    have here := homeOf_of_mapped mapped (t := c.tile) (k := k) (by rw [spares_setSpare, if_pos rfl])
    refine ⟨mappedOnce_congr (by simp [startProgram]) mapped, ?_⟩
    unfold tileProgramAtHome
    simp only [startProgram]
    exact (homeOf_congr (by simp) _).trans here
  · exact ⟨mappedOnce_congr (by simp) h, by simp [tileProgramAtHome]⟩

/-! ## The spare scan -/

theorem mappedOnce_claimTile {k : Fin 24} {t : TileNo} {seq : BitVec 32} {s : State} (h : MappedOnce s) :
    MappedOnce (claimTile k t seq s) := by
  unfold claimTile claimant
  split
  next none =>
    refine mappedOnce_setSpare_mapped (fun j here => ?_) h
    simpa [here] using List.find?_eq_none.1 none j (List.mem_finRange j)
  next j found =>
    have mapped : s.mfc.spares[j] = .mapped t := by simpa using List.find?_some found
    split
    · exact mappedOnce_setSpare_mapped (unmapped_setSpare h mapped (by simp)) (mappedOnce_setSpare_free (by simp) h)
    · exact mappedOnce_setSpare_free (by simp) h

theorem mappedOnce_spareScan {s : State} (h : MappedOnce s) : MappedOnce (spareScan s) := by
  unfold spareScan
  split
  next k _ =>
    refine mappedOnce_congr (s := scanSpare k s) (by simp) ?_
    unfold scanSpare
    repeat' split
    · exact mappedOnce_setSpare_free (by simp) h
    · exact mappedOnce_setSpare_free (by simp) h
    · exact mappedOnce_claimTile (mappedOnce_congr (by simp) h)
    · exact mappedOnce_setSpare_free (by simp) h
  · exact h

/-! ## The home of the tile program in flight -/

theorem tileProgramAtHome_congr {s t : State} (spares : t.mfc.spares = s.mfc.spares)
    (flash : t.mfc.flash = s.mfc.flash ∨ t.mfc.flash = .idle) (h : tileProgramAtHome s) : tileProgramAtHome t := by
  unfold tileProgramAtHome at *
  rcases flash with same | idle
  · rw [same]
    split
    next flash =>
      rw [flash] at h
      exact (homeOf_congr spares _).trans h
    · trivial
  · simp [idle]

theorem tileProgramAtHome_of_idle {s : State} (idle : s.mfc.flash = .idle) : tileProgramAtHome s := by
  simp [tileProgramAtHome, idle]

/-- A granted tile program is at the home that the table names (R102). -/
theorem tileProgramAtHome_flashGrant {s : State} (h : tileProgramAtHome s) : tileProgramAtHome (flashGrant s) := by
  unfold flashGrant grantRead grantRecord grantTile
  (repeat' split) <;> simp_all [tileProgramAtHome, setFlash, startProgram, homeOf]

theorem tileProgramComplete_cases (v : Bool) (s : State) :
    tileProgramComplete v s = s ∨
      ∃ (c : TileCopy) (home : TileHome) (seq : BitVec 32), s.mfc.flash = .programming (.tile c home) seq ∧
        (tileProgramComplete v s = tileVerified c home seq s ∨ tileProgramComplete v s = tileFailed c home s) := by
  unfold tileProgramComplete
  split
  next c home seq flash =>
    refine .inr ⟨c, home, seq, flash, ?_⟩
    split
    · exact .inl rfl
    · exact .inr rfl
  · exact .inl rfl

theorem remap_tileProgramComplete {s : State} (v : Bool) (once : MappedOnce s) (atHome : tileProgramAtHome s) :
    MappedOnce (tileProgramComplete v s) ∧ tileProgramAtHome (tileProgramComplete v s) := by
  rcases tileProgramComplete_cases v s with same | ⟨c, home, seq, flash, verified | failed⟩
  · rw [same]
    exact ⟨once, atHome⟩
  · rw [verified]
    exact ⟨mappedOnce_congr (by simp) once, tileProgramAtHome_of_idle (by simp [tileVerified])⟩
  · rw [failed]
    refine mappedOnce_tileFailed once ?_
    unfold tileProgramAtHome at atHome
    rwa [flash] at atHome

/-! ## Every command -/

/-- A command that leaves the spares keeps the table, and the program in flight at its home. -/
theorem remap_same {c : Instr} {s : State} (grant : c ≠ .flashGrant) (tile : ∀ v, c ≠ .tileProgramComplete v)
    (spares : (effect c s).mfc.spares = s.mfc.spares) (once : MappedOnce s) (atHome : tileProgramAtHome s) :
    MappedOnce (effect c s) ∧ tileProgramAtHome (effect c s) :=
  ⟨mappedOnce_congr spares once, tileProgramAtHome_congr spares (flash_effect c s grant tile) atHome⟩

theorem remap_effect (c : Instr) (s : State) (quiet : StartupQuiet s) (once : MappedOnce s) (atHome : tileProgramAtHome s) :
    MappedOnce (effect c s) ∧ tileProgramAtHome (effect c s) := by
  cases c with
  | powerOn | resetAssert =>
    have none : ∀ j : Fin 24, State.reset.mfc.spares[j] = .unused := by decide
    refine ⟨fun j k t here => ?_, trivial⟩
    exact absurd ((none j).symm.trans here) (by simp)
  | spareScan =>
    refine ⟨mappedOnce_spareScan once, ?_⟩
    rcases flash_effect .spareScan s (by simp) (by simp) with same | idle
    · by_cases scanning : ∃ k, s.boot.phase = .spare k
      · obtain ⟨k, phase⟩ := scanning
        have idle := ((startupQuiet_iff s).1 quiet (by simp [startupDone, phase])).flash
        exact tileProgramAtHome_of_idle (same.trans idle)
      · have still : spareScan s = s := by
          unfold spareScan
          split
          next k phase => exact absurd ⟨k, phase⟩ scanning
          · rfl
        rwa [effect_spareScan, still]
    · exact tileProgramAtHome_of_idle idle
  | flashGrant => exact ⟨mappedOnce_congr (by simp) once, tileProgramAtHome_flashGrant atHome⟩
  | tileProgramComplete v => exact remap_tileProgramComplete v once atHome
  | openCapture m | putRow m | discardCapture m | captureState m | submitJob m | readBox m | holdBox m | editBox m
  | releaseBox m | cancelJob m | freeBox m | readTile m | writeTile m | lockWays m | drain m | panelHello m
  | fetchRun m | readNotices m | nextStale m | readProfile m | loadKey m | fixKey m | eraseKey m | checkKey m
  | releaseKey m | readRegion m | readLabel m | writeRegion m | writeLabel m | stageQuery m | closeSet m | reopenSet m
  | linkResume m | ackEvents m | setEventMask m | readCounters m | clearCounters m | writeConfig m =>
    exact remap_same (by simp) (by simp)
      (serve_same (fun s => s.mfc.spares) (fun _ _ => rfl) (by simp) _ _ s) once atHome
  | resetRelease | startupConfigRead | headerLoad | keyHomeLoad | regionLabelLoad | stageLoad
  | panelRequestTransaction | panelReplyTransaction | panelStatusTransaction | systemRequestTransaction
  | systemReplyTransaction | systemStatusTransaction | requestFrame | idleMark | badFrame | frameGapTimeout
  | droppingIdleEnd | replyFrameStart | replyFrameSent | fixtureBreak | syncCharacterReceived | holdExpiry | jobStart
  | passTileOperation | clearTileOperation | commitCopyOut | readTileAccess | writeTileAccess | panelSnapshot
  | fillInstall | drainReply | storageFault | fillReadComplete | uncommitProgramComplete | headerCheckReadComplete
  | commitDrainDone | commitHeaderComplete | keyFixComplete | keyEraseComplete | recordWriteComplete
  | closeProgramComplete | reopenProgramComplete | configProgramComplete =>
    exact remap_same (by simp) (by simp) (by simp) once atHome

/-- Settles O7: every command keeps the quiet of start-up, the remap table and the home of the program in flight. -/
theorem remapTableStaysSound : Obligations.RemapTableStaysSound := by
  refine step_keeps (P := RemapSound) (fun _ _ h => h) (fun _ _ h => h) fun c s ⟨quiet, atHome, once⟩ => ?_
  obtain ⟨onceAfter, atHomeAfter⟩ := remap_effect c s quiet once atHome
  exact ⟨startupQuiet_effect c quiet, atHomeAfter, onceAfter⟩

end Sys2Proof.Proofs.RemapTable
end

section
/-! The committed promise (R104): the marker follows the header record in flash, and no tile is programmed while it is
set. -/

namespace Sys2Proof.Proofs.CommittedPromise

open Sys2Proof Sys2Proof.Machine Sys2Proof.Proofs.Frames Sys2Proof.Proofs.Steps Sys2Proof.Proofs.Startup
  Sys2Proof.Proofs.FlashPrograms Sys2Proof.Proofs.RemapTable

/-- What the invariant says beside the quiet of start-up. -/
structure Promised (s : State) : Prop where
  job : headerJobSound s.mfc.flash
  marker : headerRead s.boot.phase = true → s.mfc.marker = claimsCommitted s.homes.header
  tile : programmingTile s.mfc.flash = true → s.mfc.marker = false

theorem promiseSound_iff (s : State) : PromiseSound s ↔ StartupQuiet s ∧ Promised s :=
  ⟨fun ⟨quiet, job, marker, tile⟩ => ⟨quiet, job, marker, tile⟩,
    fun ⟨quiet, job, marker, tile⟩ => ⟨quiet, job, marker, tile⟩⟩

/-- With the flash IDLE only the marker matters. -/
theorem promised_of_idle {s : State} (idle : s.mfc.flash = .idle)
    (marker : headerRead s.boot.phase = true → s.mfc.marker = claimsCommitted s.homes.header) : Promised s :=
  ⟨by simp [headerJobSound, idle], marker, by simp [programmingTile, idle]⟩

/-- A command that leaves marker and header home, brings the flash at most to IDLE, and start-up at most to a read before the
header's. -/
theorem promised_congr {s t : State} (flash : t.mfc.flash = s.mfc.flash ∨ t.mfc.flash = .idle)
    (marker : t.mfc.marker = s.mfc.marker) (home : t.homes.header = s.homes.header)
    (phase : headerRead t.boot.phase = true → headerRead s.boot.phase = true) (h : Promised s) : Promised t := by
  have claim : headerRead t.boot.phase = true → t.mfc.marker = claimsCommitted t.homes.header := by
    rw [marker, home]
    exact fun read => h.marker (phase read)
  rcases flash with same | idle
  · exact ⟨same ▸ h.job, claim, by rw [same, marker]; exact h.tile⟩
  · exact promised_of_idle idle claim

/-! ## The start-up reads -/

theorem headerRead_spareScan (s : State) (h : headerRead (spareScan s).boot.phase = true) :
    headerRead s.boot.phase = true := by
  unfold spareScan at h
  split at h
  next k _ =>
    simp only [setPhase, State.setBoot_boot] at h
    unfold afterSpare at h
    split at h <;> cases h
  · exact h

theorem headerRead_startupConfigRead (s : State) (h : headerRead (startupConfigRead s).boot.phase = true) :
    headerRead s.boot.phase = true := by
  unfold startupConfigRead at h
  split at h
  · cases h
  · exact h

theorem headerRead_resetRelease (s : State) (h : headerRead (resetRelease s).boot.phase = true) :
    headerRead s.boot.phase = true := by
  unfold resetRelease at h
  split at h
  · cases h
  · exact h

theorem headerRead_keyHomeLoad (s : State) (h : headerRead (keyHomeLoad s).boot.phase = true) :
    headerRead s.boot.phase = true := by
  unfold keyHomeLoad at h
  split at h
  next phase => simp [phase, headerRead]
  · exact h

theorem headerRead_regionLabelLoad (s : State) (h : headerRead (regionLabelLoad s).boot.phase = true) :
    headerRead s.boot.phase = true := by
  unfold regionLabelLoad at h
  split at h
  next phase => simp [phase, headerRead]
  next phase => simp [phase, headerRead]
  · exact h

theorem headerRead_stageLoad (s : State) (h : headerRead (stageLoad s).boot.phase = true) :
    headerRead s.boot.phase = true := by
  unfold stageLoad at h
  split at h
  next phase => simp [phase, headerRead]
  · exact h

/-- The marker takes the committed flag of the header that start-up reads, or is clear with the header lost (R114). -/
theorem marker_headerLoad {s : State} (phase : s.boot.phase = .header) :
    (headerLoad s).mfc.marker = claimsCommitted (headerLoad s).homes.header := by
  have home : (headerLoad s).homes = s.homes := by simp
  rw [home]
  unfold headerLoad
  rw [phase]
  simp only [setPhase]
  unfold claimsCommitted
  repeat' split
  all_goals simp_all [loadHeader, headerLost]

theorem promised_headerLoad {s : State} (quiet : StartupQuiet s) (h : Promised s) : Promised (headerLoad s) := by
  by_cases phase : s.boot.phase = .header
  · have idle := ((startupQuiet_iff s).1 quiet (by simp [startupDone, phase])).flash
    exact promised_of_idle (by simpa using idle) fun _ => marker_headerLoad phase
  · have same : headerLoad s = s := by
      unfold headerLoad
      split
      · contradiction
      · rfl
    rwa [same]

/-! ## Flash programs -/

/-- A commit's header is granted signed and committed, an uncommit's not committed, and a tile only with the marker clear
(R104, R112). -/
theorem promised_flashGrant {s : State} (h : Promised s) : Promised (flashGrant s) := by
  obtain ⟨job, marker, tile⟩ := h
  refine ⟨?_, by simpa using marker, ?_⟩
  · unfold flashGrant grantRead grantRecord grantTile
    (repeat' split) <;>
      simp_all [headerJobSound, setFlash, startProgram, commitHeader, uncommitHeader]
  · unfold flashGrant grantRead grantRecord grantTile
    (repeat' split) <;> simp_all [programmingTile, setFlash, startProgram]

/-- A tile program is repeated with the marker as it was at the first grant. -/
theorem promised_tileProgramComplete {s : State} (v : Bool) (h : Promised s) : Promised (tileProgramComplete v s) := by
  have marker : headerRead (tileProgramComplete v s).boot.phase = true →
      (tileProgramComplete v s).mfc.marker = claimsCommitted (tileProgramComplete v s).homes.header := by
    simpa using h.marker
  rcases flash_tileProgramComplete v s with same | idle | ⟨c, home, seq, k, flash, -, -, again⟩
  · exact promised_congr (.inl same) (by simp) (by simp) (by simp) h
  · exact promised_of_idle idle marker
  · refine ⟨by simp [headerJobSound, again], marker, fun _ => ?_⟩
    simpa using h.tile (by simp [programmingTile, flash])

/-- The header home and the marker follow a commit's header together. -/
theorem promised_commitHeaderComplete {s : State} (v : Bool) (h : Promised s) : Promised (commitHeaderComplete v s) := by
  by_cases program : ∃ r seq, s.mfc.flash = .programming (.header r) seq
  · obtain ⟨r, seq, flash⟩ := program
    obtain ⟨signed, committed⟩ : r.signed = true ∧ r.committed = true := by simpa [headerJobSound, flash] using h.job
    have after : (commitHeaderComplete v s).mfc.flash = .idle ∧ (commitHeaderComplete v s).mfc.marker = v ∧
        (commitHeaderComplete v s).homes.header = if v = true then .holds r else .failing := by
      unfold commitHeaderComplete
      rw [flash]
      dsimp only
      split
      · split <;> simp [headerVerified, failCommit, setHeader, setHeaderHome]
      · simp [setHeaderHome]
    obtain ⟨idle, marker, home⟩ := after
    refine promised_of_idle idle fun _ => ?_
    rw [marker, home]
    cases v <;> simp [claimsCommitted, signed, committed]
  · have same : commitHeaderComplete v s = s := by
      unfold commitHeaderComplete
      split
      next r seq flash => exact absurd ⟨r, seq, flash⟩ program
      · rfl
    rwa [same]

/-- After an uncommit, verified or not, the header home claims nothing and the marker is clear. -/
theorem promised_uncommitProgramComplete {s : State} (v : Bool) (h : Promised s) :
    Promised (uncommitProgramComplete v s) := by
  unfold uncommitProgramComplete
  split
  next r _ flash =>
    have open_ : r.committed = false := by simpa [headerJobSound, flash] using h.job
    refine promised_of_idle (by simp) fun _ => ?_
    cases v <;> simp [setHeaderHome, claimsCommitted, open_]
  · exact h

/-! ## Every command -/

theorem promised_same {c : Instr} {s : State} (grant : c ≠ .flashGrant) (tile : ∀ v, c ≠ .tileProgramComplete v)
    (marker : (effect c s).mfc.marker = s.mfc.marker) (home : (effect c s).homes.header = s.homes.header)
    (phase : headerRead (effect c s).boot.phase = true → headerRead s.boot.phase = true) (h : Promised s) :
    Promised (effect c s) :=
  promised_congr (flash_effect c s grant tile) marker home phase h

/-- A served request leaves marker, header home and start-up. -/
theorem serve_promise {f : Request → State → State} (k : Kind) (m : Master) (s : State)
    (answer : ∀ req s, (f req s).mfc.marker = s.mfc.marker ∧ (f req s).homes = s.homes ∧ (f req s).boot = s.boot) :
    (serve k m f s).mfc.marker = s.mfc.marker ∧ (serve k m f s).homes = s.homes ∧ (serve k m f s).boot = s.boot :=
  ⟨serve_same (fun s => s.mfc.marker) (fun _ _ => rfl) (fun req s => (answer req s).1) k m s,
    serve_same (fun s => s.homes) (fun _ _ => rfl) (fun req s => (answer req s).2.1) k m s,
    serve_same (fun s => s.boot) (fun _ _ => rfl) (fun req s => (answer req s).2.2) k m s⟩

theorem promised_serve {f : Request → State → State} {k : Kind} {m : Master} {s : State} {c : Instr}
    (served : effect c s = serve k m f s) (grant : c ≠ .flashGrant) (tile : ∀ v, c ≠ .tileProgramComplete v)
    (answer : ∀ req s, (f req s).mfc.marker = s.mfc.marker ∧ (f req s).homes = s.homes ∧ (f req s).boot = s.boot)
    (h : Promised s) : Promised (effect c s) := by
  obtain ⟨marker, home, boot⟩ := serve_promise k m s answer
  rw [← served] at marker home boot
  exact promised_same grant tile marker (by rw [home]) (by rw [boot]; exact id) h

theorem promised_effect (c : Instr) (s : State) (quiet : StartupQuiet s) (h : Promised s) : Promised (effect c s) := by
  cases c with
  | powerOn | resetAssert => exact promised_of_idle rfl (by simp [resetPart, headerRead])
  | headerLoad => exact promised_headerLoad quiet h
  | flashGrant => exact promised_flashGrant h
  | tileProgramComplete v => exact promised_tileProgramComplete v h
  | commitHeaderComplete v => exact promised_commitHeaderComplete v h
  | uncommitProgramComplete v => exact promised_uncommitProgramComplete v h
  | resetRelease => exact promised_same (by simp) (by simp) (by simp) (by simp) (headerRead_resetRelease s) h
  | startupConfigRead => exact promised_same (by simp) (by simp) (by simp) (by simp) (headerRead_startupConfigRead s) h
  | spareScan => exact promised_same (by simp) (by simp) (by simp) (by simp) (headerRead_spareScan s) h
  | keyHomeLoad => exact promised_same (by simp) (by simp) (by simp) (by simp) (headerRead_keyHomeLoad s) h
  | regionLabelLoad => exact promised_same (by simp) (by simp) (by simp) (by simp) (headerRead_regionLabelLoad s) h
  | stageLoad => exact promised_same (by simp) (by simp) (by simp) (by simp) (headerRead_stageLoad s) h
  | openCapture m | putRow m | discardCapture m | captureState m | submitJob m | readBox m | holdBox m | editBox m
  | releaseBox m | cancelJob m | freeBox m | readTile m | writeTile m | lockWays m | drain m | panelHello m
  | fetchRun m | readNotices m | nextStale m | readProfile m | loadKey m | fixKey m | eraseKey m | checkKey m
  | releaseKey m | readRegion m | readLabel m | writeRegion m | writeLabel m | stageQuery m | closeSet m | reopenSet m
  | linkResume m | ackEvents m | setEventMask m | readCounters m | clearCounters m | writeConfig m =>
    exact promised_serve rfl (by simp) (by simp) (by simp) h
  | panelRequestTransaction | panelReplyTransaction | panelStatusTransaction | systemRequestTransaction
  | systemReplyTransaction | systemStatusTransaction | requestFrame | idleMark | badFrame | frameGapTimeout
  | droppingIdleEnd | replyFrameStart | replyFrameSent | fixtureBreak | syncCharacterReceived | holdExpiry | jobStart
  | passTileOperation | clearTileOperation | commitCopyOut | readTileAccess | writeTileAccess | panelSnapshot
  | fillInstall | drainReply | storageFault | fillReadComplete | headerCheckReadComplete | commitDrainDone
  | keyFixComplete | keyEraseComplete | recordWriteComplete | closeProgramComplete | reopenProgramComplete
  | configProgramComplete =>
    exact promised_same (by simp) (by simp) (by simp) (by simp) (by simp) h

/-- Settles O6: every command keeps the quiet of start-up and the promise. -/
theorem committedPromiseHolds : Obligations.CommittedPromiseHolds := by
  refine step_keeps (P := PromiseSound) (fun _ _ h => h) (fun _ _ h => h) fun c s h => ?_
  obtain ⟨quiet, promised⟩ := (promiseSound_iff s).1 h
  exact (promiseSound_iff _).2 ⟨startupQuiet_effect c quiet, promised_effect c s quiet promised⟩

end Sys2Proof.Proofs.CommittedPromise
end

section
/-! The RUNNING box and the capture's lock (R43, R51, R52), through what matters of them: which box the engine works on, for
a job of which kind; and each box's state, kind, started flag and arguments. -/

namespace Sys2Proof.Proofs.RunningJob

open Sys2Proof Sys2Proof.Machine Sys2Proof.Proofs.Frames Sys2Proof.Proofs.Steps

/-! ## What matters of the job table -/

/-- What the invariant says of a box. -/
structure BoxRun where
  state : BoxState
  kind : JobKind
  started : Bool
  args : Option PassArgs

def runOf (x : Box) : BoxRun :=
  { state := x.state, kind := x.kind, started := x.started, args := x.args }

def boxRun (b : Fin 16) (s : State) : Option BoxRun :=
  (boxAt b s).map runOf

/-- The box that the engine works on, and the kind of its work. -/
def engineJob (s : State) : Option (Fin 16 × JobKind) :=
  s.jobs.running.map fun r => (r.box, kindOfWork r.work)

/-- What `RunningSound` says, in these terms. -/
structure Runs (s : State) : Prop where
  box : ∀ b r, boxRun b s = some r → r.state = .running → ∃ k, engineJob s = some (b, k)
  engine : ∀ b k, engineJob s = some (b, k) → ∃ r, boxRun b s = some r ∧ r.state = .running ∧ r.kind = k ∧ r.started = true
  args : ∀ b r, boxRun b s = some r → r.kind = .runPass → r.args.isSome = true
  capture : s.cap.state = .locked ↔ ∃ b, engineJob s = some (b, .runPass)

theorem boxRun_of_boxAt {b : Fin 16} {x : Box} {s : State} (h : boxAt b s = some x) : boxRun b s = some (runOf x) := by
  simp [boxRun, h]

theorem boxRun_eq_some {b : Fin 16} {r : BoxRun} {s : State} (h : boxRun b s = some r) :
    ∃ x, boxAt b s = some x ∧ runOf x = r := by
  simpa [boxRun] using h

theorem engine_of_running {b : Fin 16} {w : Work} {s : State} (h : s.jobs.running = some { box := b, work := w }) :
    engineJob s = some (b, kindOfWork w) := by
  simp [engineJob, h]

theorem engine_eq_some {b : Fin 16} {k : JobKind} {s : State} (h : engineJob s = some (b, k)) :
    ∃ w, s.jobs.running = some { box := b, work := w } ∧ kindOfWork w = k := by
  obtain ⟨⟨c, w⟩, running, e⟩ := Option.map_eq_some_iff.1 h
  cases e
  exact ⟨w, running, rfl⟩

theorem kindOfWork_runPass {w : Work} : kindOfWork w = .runPass ↔ ∃ p, w = .pass p := by
  cases w <;> simp [kindOfWork]

theorem engine_runPass (b : Fin 16) (s : State) :
    engineJob s = some (b, .runPass) ↔ ∃ p, s.jobs.running = some { box := b, work := .pass p } := by
  refine ⟨fun h => ?_, fun ⟨p, h⟩ => engine_of_running h⟩
  obtain ⟨w, running, kind⟩ := engine_eq_some h
  obtain ⟨p, rfl⟩ := kindOfWork_runPass.1 kind
  exact ⟨p, running⟩

theorem runningSound_iff (s : State) : RunningSound s ↔ Runs s := by
  constructor
  · rintro ⟨box, work, args, capture⟩
    refine ⟨fun b r here running => ?_, fun b k on => ?_, fun b r here kind => ?_, ?_⟩
    · obtain ⟨x, held, rfl⟩ := boxRun_eq_some here
      obtain ⟨w, on⟩ := box b x held running
      exact ⟨_, engine_of_running on⟩
    · obtain ⟨w, running, rfl⟩ := engine_eq_some on
      obtain ⟨x, held, state, kind, started⟩ := work b w running
      exact ⟨runOf x, boxRun_of_boxAt held, state, kind, started⟩
    · obtain ⟨x, held, rfl⟩ := boxRun_eq_some here
      exact args b x held kind
    · simpa only [engine_runPass] using capture
  · rintro ⟨box, work, args, capture⟩
    refine ⟨fun b x held running => ?_, fun b w on => ?_, fun b x held => ?_, ?_⟩
    · obtain ⟨k, on⟩ := box b _ (boxRun_of_boxAt held) running
      obtain ⟨w, on, -⟩ := engine_eq_some on
      exact ⟨w, on⟩
    · obtain ⟨r, here, state, kind, started⟩ := work b _ (engine_of_running on)
      obtain ⟨x, held, rfl⟩ := boxRun_eq_some here
      exact ⟨x, held, state, kind, started⟩
    · exact args b _ (boxRun_of_boxAt held)
    · simpa only [engine_runPass] using capture

theorem boxRun_congr {s t : State} (h : t.jobs.boxes = s.jobs.boxes) (b : Fin 16) : boxRun b t = boxRun b s := by
  simp [boxRun, boxAt_congr h]

theorem engine_congr {s t : State} (h : t.jobs.running = s.jobs.running) : engineJob t = engineJob s := by
  simp [engineJob, h]

theorem boxRun_setBox_self (b : Fin 16) (x : Option Box) (s : State) : boxRun b (setBox b x s) = x.map runOf := by
  simp [boxRun, boxAt_setBox_self]

theorem boxRun_setBox_other {b c : Fin 16} (x : Option Box) (s : State) (h : c ≠ b) :
    boxRun c (setBox b x s) = boxRun c s := by
  simp [boxRun, boxAt_setBox_other x s h]

/-- A box that takes a content with the same run stays as it was, as far as the run goes. -/
theorem boxRun_setBox_same {b : Fin 16} {x y : Box} {s : State} (held : boxAt b s = some x) (same : runOf y = runOf x)
    (c : Fin 16) : boxRun c (setBox b (some y) s) = boxRun c s := by
  by_cases here : c = b
  · rw [here, boxRun_setBox_self, boxRun_of_boxAt held, ← same]
    rfl
  · exact boxRun_setBox_other _ _ here

/-! ## The four moves -/

/-- While no RUN_PASS is RUNNING the capture is not LOCKED. -/
theorem Runs.not_locked {s : State} (h : Runs s) {b : Fin 16} {k : JobKind} (on : engineJob s = some (b, k))
    (other : k ≠ .runPass) : s.cap.state ≠ .locked := by
  intro locked
  obtain ⟨c, pass⟩ := h.capture.1 locked
  rw [on] at pass
  cases pass
  exact other rfl

theorem Runs.of_same {s t : State} (h : Runs s) (boxes : ∀ b, boxRun b t = boxRun b s)
    (works : engineJob t = engineJob s)
    (capture : t.cap.state = .locked ↔ s.cap.state = .locked) : Runs t := by
  refine ⟨?_, ?_, ?_, ?_⟩
  · simpa only [boxes, works] using h.box
  · simpa only [boxes, works] using h.engine
  · simpa only [boxes] using h.args
  · rw [capture, works]
    exact h.capture

/-- A box that is not RUNNING takes a content that is not RUNNING, or none. -/
theorem Runs.of_replaced {s t : State} {b : Fin 16} (h : Runs s) (others : ∀ c, c ≠ b → boxRun c t = boxRun c s)
    (works : engineJob t = engineJob s)
    (capture : t.cap.state = .locked ↔ s.cap.state = .locked)
    (before : ∀ r, boxRun b s = some r → r.state ≠ .running)
    (after : ∀ r, boxRun b t = some r → r.state ≠ .running ∧ (r.kind = .runPass → r.args.isSome = true)) : Runs t := by
  refine ⟨fun c r here running => ?_, fun c k on => ?_, fun c r here => ?_, ?_⟩
  · by_cases at_ : c = b
    · subst at_
      exact absurd running (after r here).1
    · rw [others c at_] at here
      rw [works]
      exact h.box c r here running
  · rw [works] at on
    obtain ⟨r, here, running, rest⟩ := h.engine c k on
    have away : c ≠ b := fun at_ => before r (at_ ▸ here) running
    exact ⟨r, (others c away).trans here, running, rest⟩
  · by_cases at_ : c = b
    · subst at_
      exact (after r here).2
    · exact h.args c r ((others c at_).symm.trans here)
  · rw [capture, works]
    exact h.capture

/-- With no box RUNNING a box is started, and the capture is LOCKED if it is a RUN_PASS. -/
theorem Runs.of_started {s t : State} {b : Fin 16} {r : BoxRun} (h : Runs s) (free : engineJob s = none)
    (others : ∀ c, c ≠ b → boxRun c t = boxRun c s) (here : boxRun b t = some r)
    (state : r.state = .running) (started : r.started = true) (args : r.kind = .runPass → r.args.isSome = true)
    (works : engineJob t = some (b, r.kind)) (capture : t.cap.state = .locked ↔ r.kind = .runPass) :
    Runs t := by
  refine ⟨fun c q there running => ?_, fun c k on => ?_, fun c q there kind => ?_, ?_⟩
  · by_cases at_ : c = b
    · exact ⟨r.kind, at_ ▸ works⟩
    · obtain ⟨k, on⟩ := h.box c q ((others c at_).symm.trans there) running
      rw [free] at on
      cases on
  · rw [works] at on
    cases on
    exact ⟨r, here, state, rfl, started⟩
  · by_cases at_ : c = b
    · subst at_
      cases here.symm.trans there
      exact args kind
    · exact h.args c q ((others c at_).symm.trans there) kind
  · rw [capture, works]
    exact ⟨fun kind => ⟨b, by rw [kind]⟩, fun ⟨c, e⟩ => congrArg Prod.snd (Option.some.inj e)⟩

/-- The RUNNING box ends, and the capture is not LOCKED. -/
theorem Runs.of_ended {s t : State} {b : Fin 16} {k : JobKind} {st : BoxState} (h : Runs s)
    (on : engineJob s = some (b, k)) (others : ∀ c, c ≠ b → boxRun c t = boxRun c s)
    (here : boxRun b t = (boxRun b s).map fun r => { r with state := st }) (ended : st ≠ .running)
    (works : engineJob t = none) (capture : t.cap.state ≠ .locked) : Runs t := by
  refine ⟨fun c r there running => ?_, fun c k on => ?_, fun c r there kind => ?_, ?_⟩
  · by_cases at_ : c = b
    · subst at_
      rw [here] at there
      obtain ⟨q, -, rfl⟩ := Option.map_eq_some_iff.1 there
      exact absurd running ended
    · obtain ⟨j, away⟩ := h.box c r ((others c at_).symm.trans there) running
      rw [on] at away
      cases away
      exact absurd rfl at_
  · rw [works] at on
    cases on
  · by_cases at_ : c = b
    · subst at_
      rw [here] at there
      obtain ⟨q, before, rfl⟩ := Option.map_eq_some_iff.1 there
      exact h.args c q before kind
    · exact h.args c r ((others c at_).symm.trans there) kind
  · simp [works, capture]

/-! ## The ends of jobs -/

theorem boxRun_raise (b : Fin 16) (e : Event) (s : State) : boxRun b (raise e s) = boxRun b s :=
  boxRun_congr (by simp) b

theorem boxRun_endBox_self (b : Fin 16) (st : BoxState) (r : JobResult) (s : State) :
    boxRun b (endBox b st r s) = (boxRun b s).map fun q => { q with state := st } := by
  unfold endBox
  split
  next free => simp [boxRun, free]
  next x held =>
    rw [boxRun_raise, boxRun_setBox_self, boxRun_of_boxAt held]
    rfl

theorem boxRun_endBox_other {b c : Fin 16} (st : BoxState) (r : JobResult) (s : State) (h : c ≠ b) :
    boxRun c (endBox b st r s) = boxRun c s := by
  unfold endBox
  split
  · rfl
  · rw [boxRun_raise, boxRun_setBox_other _ _ h]

theorem engine_endBox (b : Fin 16) (st : BoxState) (r : JobResult) (s : State) : engineJob (endBox b st r s) = engineJob s :=
  engine_congr (by simp)

/-- The RUNNING box ends, from a state that differs from a sound one in nothing that matters but the capture. -/
theorem Runs.endRunning {s u : State} {b : Fin 16} {k : JobKind} {st : BoxState} (h : Runs s)
    (on : engineJob s = some (b, k)) (boxes : ∀ c, boxRun c u = boxRun c s) (ended : st ≠ .running)
    (r : JobResult) (capture : u.cap.state ≠ .locked) : Runs (endRunning b st r u) := by
  refine h.of_ended on (fun c away => ?_) ?_ ended rfl (by simpa using capture)
  · exact (boxRun_endBox_other st r u away).trans (boxes c)
  · exact (boxRun_endBox_self b st r u).trans (by rw [boxes])

theorem Runs.endPassEarly {s u : State} {b : Fin 16} {k : JobKind} {st : BoxState} (h : Runs s)
    (on : engineJob s = some (b, k)) (boxes : ∀ c, boxRun c u = boxRun c s) (ended : st ≠ .running)
    (tiles : Nat) : Runs (endPassEarly b st tiles u) :=
  h.endRunning on (u := consumeCapture u) boxes ended _ (by simp [consumeCapture])

theorem Runs.failCommit {s u : State} {b : Fin 16} {k : JobKind} (h : Runs s)
    (on : engineJob s = some (b, k)) (boxes : ∀ c, boxRun c u = boxRun c s) (w : CommitWork)
    (reason : Reason) (converged : Option Bool) (capture : u.cap.state ≠ .locked) :
    Runs (failCommit b w reason converged u) :=
  h.endRunning on (u := setHeader { u.mfc.header with committed := false } u) boxes (by simp) _ capture

end Sys2Proof.Proofs.RunningJob
end

section
/-! Every command keeps the RUNNING box, the engine's work and the capture's lock together (R43, R51, R52). -/

namespace Sys2Proof.Proofs.RunningJob

open Sys2Proof Sys2Proof.Machine Sys2Proof.Proofs.Frames Sys2Proof.Proofs.Steps

/-- A command that leaves the boxes, the engine and the capture keeps what matters. -/
theorem Runs.of_parts {s t : State} (h : Runs s) (boxes : t.jobs.boxes = s.jobs.boxes)
    (running : t.jobs.running = s.jobs.running) (capture : t.cap = s.cap) : Runs t :=
  h.of_same (boxRun_congr boxes) (engine_congr running) (by rw [capture])

/-- A command that leaves the boxes and the capture, and changes at most the state of the work. -/
theorem Runs.of_work {s t : State} (h : Runs s) (boxes : t.jobs.boxes = s.jobs.boxes)
    (works : engineJob t = engineJob s) (capture : t.cap = s.cap) : Runs t :=
  h.of_same (boxRun_congr boxes) works (by rw [capture])

/-- A reply moves neither box, engine nor capture. -/
theorem Runs.reply {s : State} (h : Runs s) (req : Request) (st : Status) (body : ReplyBody) : Runs (reply req st body s) :=
  h.of_parts (by simp) (by simp) (by simp)

theorem Runs.refuse {s : State} (h : Runs s) (req : Request) (st : Status) : Runs (refuse req st s) :=
  h.reply req st .empty

/-- A box of the table takes a content of the same run. -/
theorem Runs.setBox_same {s : State} {b : Fin 16} {x y : Box} (h : Runs s) (held : boxAt b s = some x)
    (same : runOf y = runOf x) : Runs (setBox b (some y) s) :=
  h.of_same (boxRun_setBox_same held same) rfl Iff.rfl

/-! ## The capture -/

/-- The capture changes while it is not LOCKED, and does not become LOCKED. -/
theorem Runs.setCap {s : State} {c : Cap} (h : Runs s) (before : s.cap.state ≠ .locked) (after : c.state ≠ .locked) :
    Runs (s.setCap c) :=
  h.of_same (fun _ => rfl) rfl (by simp [before, after])

theorem storeRow_state (a : RowArgs) (sh : Shape) (cap : Cap) :
    (storeRow a sh cap).state = cap.state ∨ (storeRow a sh cap).state = .complete := by
  unfold storeRow
  dsimp only
  repeat' split
  · exact .inr rfl
  · exact .inl rfl
  · exact .inr rfl
  · exact .inl rfl

theorem runs_openCapture (req : Request) {s : State} (h : Runs s) : Runs (openCapture req s) := by
  unfold openCapture
  split
  · exact h.refuse req _
  · split
    · exact h.refuse req _
    · split
      · exact h.refuse req _
      next unlocked =>
        split
        · exact (h.setCap (by simpa using unlocked) (by simp)).reply ..
        · exact h.refuse req _

theorem runs_putRow (req : Request) {s : State} (h : Runs s) : Runs (putRow req s) := by
  unfold putRow
  repeat' split
  all_goals try exact h.refuse req _
  all_goals
    next state _ _ a sh _ _ _ =>
    refine (h.setCap (by simp [state]) ?_).reply ..
    rcases storeRow_state a sh s.cap with same | complete
    · simp [same, state]
    · simp [complete]

theorem runs_discardCapture (req : Request) {s : State} (h : Runs s) : Runs (discardCapture req s) := by
  unfold discardCapture
  repeat' split
  all_goals try exact h.refuse req _
  all_goals
    next state _ => exact (h.setCap (by simp [state]) (by simp)).reply ..

/-! ## The job table -/

/-- A RUN_PASS is taken and edited with its arguments alone (R50, R55). -/
theorem isSome_of_parseJobArgs {bytes : Option (List Byte)} {a : Option PassArgs}
    (h : parseJobArgs .runPass bytes = some a) : a.isSome = true := by
  unfold parseJobArgs at h
  split at h
  · obtain ⟨args, -, rfl⟩ := Option.map_eq_some_iff.1 h
    rfl
  · cases h
  · contradiction
  · contradiction

theorem parseSubmit_args {body : List Byte} {k : JobKind} {a : Option PassArgs} (h : parseSubmit body = some (k, a)) :
    ∃ bytes, parseJobArgs k bytes = some a := by
  simp only [parseSubmit, Option.bind_eq_bind, Option.bind_eq_some_iff] at h
  obtain ⟨fs, -, kind, -, args, parsed, e⟩ := h
  cases e
  exact ⟨_, parsed⟩

theorem highestFree_some {s : State} {b : Fin 16} (h : highestFree s = some b) : boxAt b s = none := by
  simpa using List.find?_some h

theorem ownBox_ok {req : Request} {s : State} {b : Fin 16} {x : Box} (h : ownBox req s = .ok (b, x)) :
    boxAt b s = some x := by
  unfold ownBox at h
  repeat' split at h
  all_goals cases h
  assumption

theorem runs_submitJob (req : Request) {s : State} (h : Runs s) : Runs (submitJob req s) := by
  unfold submitJob
  repeat' split
  all_goals try exact h.refuse req _
  next k a i parsed _ _ _ b free =>
    dsimp only
    refine Runs.reply ?_ ..
    refine h.of_replaced (b := b) (fun c away => ?_) rfl Iff.rfl ?_ ?_
    · exact boxRun_setBox_other _ _ away
    · simp [boxRun, highestFree_some free]
    · intro r here
      cases (boxRun_setBox_self b _ s).symm.trans here
      refine ⟨by simp [runOf, queuedBox], fun kind => ?_⟩
      obtain ⟨bytes, args⟩ := parseSubmit_args parsed
      cases (show k = JobKind.runPass from kind)
      exact isSome_of_parseJobArgs args

theorem runs_readBox (req : Request) {s : State} (h : Runs s) : Runs (readBox req s) := by
  unfold readBox
  split
  · exact h.refuse req _
  · refine Runs.reply ?_ ..
    unfold markRead
    repeat' split
    next held _ => exact h.setBox_same held rfl
    all_goals exact h

theorem runs_holdBox (req : Request) {s : State} (h : Runs s) : Runs (holdBox req s) := by
  unfold holdBox
  repeat' split
  all_goals try exact h.refuse req _
  next own _ _ _ _ =>
    refine Runs.reply ?_ ..
    exact h.setBox_same (ownBox_ok own) rfl

/-- A held box is QUEUED or not, but an edit leaves its state: only its arguments change, and a RUN_PASS keeps some. -/
theorem Runs.setBox_args {s : State} {b : Fin 16} {x : Box} {a : Option PassArgs} (h : Runs s) (held : boxAt b s = some x)
    (args : x.kind = .runPass → a.isSome = true) : Runs (setBox b (some { x with args := a }) s) := by
  refine ⟨fun c r here running => ?_, fun c k on => ?_, fun c r here kind => ?_, h.capture⟩
  all_goals by_cases at_ : c = b
  · subst at_
    cases (boxRun_setBox_self c _ s).symm.trans here
    exact h.box c _ (boxRun_of_boxAt held) running
  · exact h.box c r ((boxRun_setBox_other _ s at_).symm.trans here) running
  · subst at_
    obtain ⟨r, here, rest⟩ := h.engine c k on
    cases (boxRun_of_boxAt held).symm.trans here
    exact ⟨_, boxRun_setBox_self c _ s, rest⟩
  · obtain ⟨r, here, rest⟩ := h.engine c k on
    exact ⟨r, (boxRun_setBox_other _ s at_).trans here, rest⟩
  · subst at_
    cases (boxRun_setBox_self c _ s).symm.trans here
    exact args kind
  · exact h.args c r ((boxRun_setBox_other _ s at_).symm.trans here) kind

theorem runs_editBox (req : Request) {s : State} (h : Runs s) : Runs (editBox req s) := by
  unfold editBox
  repeat' split
  all_goals try exact h.refuse req _
  next x held _ _ a parsed =>
    refine Runs.reply ?_ ..
    exact h.setBox_args held fun kind => isSome_of_parseJobArgs (kind ▸ parsed)

theorem runs_releaseBox (req : Request) {s : State} (h : Runs s) : Runs (releaseBox req s) := by
  unfold releaseBox
  repeat' split
  all_goals try exact h.refuse req _
  next held _ =>
    refine Runs.reply ?_ ..
    exact h.setBox_same held rfl

theorem runs_freeBox (req : Request) {s : State} (h : Runs s) : Runs (freeBox req s) := by
  unfold freeBox
  repeat' split
  all_goals try exact h.refuse req _
  next b x own ended =>
    refine Runs.reply ?_ ..
    refine h.of_replaced (b := b) (fun c away => boxRun_setBox_other _ _ away) rfl Iff.rfl ?_ ?_
    · intro r here running
      cases (boxRun_of_boxAt (ownBox_ok own)).symm.trans here
      simp_all [runOf, boxEnded]
    · intro r here
      cases (boxRun_setBox_self b none s).symm.trans here

theorem runs_holdExpiry (b : Fin 16) {s : State} (h : Runs s) : Runs (holdExpiry b s) := by
  have same : ∀ now x, runOf (holdAt now x) = runOf x := fun now x => by
    unfold holdAt
    repeat' split
    all_goals rfl
  cases held : boxAt b s with
  | none => rwa [holdExpiry_unheld (by simp [held])]
  | some x =>
    cases hold : x.hold with
    | none => rwa [holdExpiry_unheld (by simp [held, hold])]
    | some d =>
      obtain ⟨-, here, others⟩ := holdExpiry_held held hold
      refine h.of_same (fun c => ?_) (engine_congr (by simp)) (by simp)
      by_cases at_ : c = b
      · rw [at_, boxRun_of_boxAt here, boxRun_of_boxAt held]
        rfl
      · rw [boxRun, others c at_, boxRun, Option.map_map]
        congr 1
        exact funext (same _)

/-! ## Cancelling -/

/-- The box of a RUNNING job is the engine's, for a job of the box's kind. -/
theorem Runs.engine_of_box {s : State} {b : Fin 16} {x : Box} (h : Runs s) (held : boxAt b s = some x)
    (running : x.state = .running) : engineJob s = some (b, x.kind) := by
  obtain ⟨k, on⟩ := h.box b _ (boxRun_of_boxAt held) running
  obtain ⟨r, here, -, rfl, -⟩ := h.engine b k on
  cases (boxRun_of_boxAt held).symm.trans here
  exact on

theorem runs_noteCancel {b : Fin 16} {x : Box} {s : State} (h : Runs s) (held : boxAt b s = some x)
    (running : x.state = .running) : Runs (noteCancel b x s) := by
  have on := h.engine_of_box held running
  have noted : ∀ c, boxRun c (setBox b (some { x with cancelNoted := true }) s) = boxRun c s :=
    boxRun_setBox_same held rfl
  have same : Runs (setBox b (some { x with cancelNoted := true }) s) := h.setBox_same held rfl
  unfold noteCancel
  dsimp only
  split
  · split
    · exact h.endPassEarly on noted (by simp) _
    next kind => exact h.endRunning on noted (by simp) _ (h.not_locked on (by simp [kind]))
    · exact same
  · exact same

theorem runs_cancelJob (req : Request) {s : State} (h : Runs s) : Runs (cancelJob req s) := by
  unfold cancelJob
  repeat' split
  all_goals try exact h.refuse req _
  next b x own _ state =>
    refine Runs.reply ?_ ..
    have held := ownBox_ok own
    have queued : ∀ r, boxRun b s = some r → r.state ≠ .running := by
      intro r here
      cases (boxRun_of_boxAt held).symm.trans here
      simp [runOf, state]
    refine h.of_replaced (b := b) (fun c away => boxRun_endBox_other _ _ s away) (engine_endBox ..) (by simp) queued ?_
    intro r here
    rw [boxRun_endBox_self] at here
    obtain ⟨q, before, rfl⟩ := Option.map_eq_some_iff.1 here
    exact ⟨by simp, h.args b q before⟩
  all_goals
    next own _ state _ _ =>
    refine Runs.reply ?_ ..
    exact runs_noteCancel h (ownBox_ok own) state

/-! ## Starting -/

theorem engine_none_of_free {s : State} (h : engineFree s = true) : engineJob s = none := by
  simp_all [engineFree, engineJob]

/-- A box that is started RUNNING, with everything else of the table as it was. -/
theorem Runs.started {s t : State} {b : Fin 16} {x : Box} (h : Runs s) (free : engineJob s = none)
    (held : boxAt b s = some x) (boxes : t.jobs.boxes = (runBox b x true s).jobs.boxes)
    (works : engineJob t = some (b, x.kind)) (capture : t.cap.state = .locked ↔ x.kind = .runPass) : Runs t := by
  have here := (boxRun_congr boxes b).trans (boxRun_setBox_self b _ s)
  refine h.of_started free (fun c away => ?_) here rfl rfl ?_ works capture
  · exact (boxRun_congr boxes c).trans (boxRun_setBox_other _ s away)
  · exact h.args b (runOf x) (boxRun_of_boxAt held)

/-- A box that fails its start checks ends FAILED, with everything else as it was. -/
theorem Runs.startFailed {s : State} {b : Fin 16} {x : Box} (h : Runs s) (free : engineJob s = none)
    (held : boxAt b s = some x) (r : Reason) (res : JobResult) :
    Runs (endBox b (.failed r) res (runBox b x false s)) := by
  refine h.of_replaced (b := b) (fun c away => ?_) ?_ (by simp) ?_ ?_
  · exact (boxRun_endBox_other _ _ _ away).trans (boxRun_setBox_other _ s away)
  · exact engine_endBox ..
  · intro q here running
    obtain ⟨k, on⟩ := h.box b q here running
    rw [free] at on
    cases on
  · intro q here
    rw [boxRun_endBox_self, runBox, boxRun_setBox_self] at here
    cases here
    exact ⟨by simp, h.args b (runOf x) (boxRun_of_boxAt held)⟩

/-- While nothing runs the capture is not LOCKED. -/
theorem Runs.unlocked {s : State} (h : Runs s) (free : engineJob s = none) : s.cap.state ≠ .locked := by
  intro locked
  obtain ⟨b, on⟩ := h.capture.1 locked
  rw [free] at on
  cases on

theorem runs_jobStart {s : State} (h : Runs s) : Runs (jobStart s) := by
  unfold jobStart
  split
  next engine =>
    have free := engine_none_of_free engine
    have unlocked := h.unlocked free
    split
    · exact h
    next b _ =>
      split
      · exact h
      next x held =>
        unfold startBox
        repeat' split
        next _ _ a kind _ _ _ sh _ _ =>
          exact h.started free held rfl (by rw [kind]; rfl) (by simp [kind, startPass])
        · exact h.startFailed free held ..
        · exact h
        · exact h
        next _ _ kind =>
          exact h.started free held rfl (by rw [kind]; rfl) (by simpa [kind, startClear] using unlocked)
        next _ _ kind _ _ =>
          exact h.started free held rfl (by rw [kind]; rfl) (by simpa [kind, startCommit] using unlocked)
        · exact h.startFailed free held ..
  · exact h

/-! ## Tile operations -/

/-- A job that goes on with work of the same kind, in the same box. -/
theorem Runs.goesOn {s u : State} {b : Fin 16} {w v : Work} (h : Runs s)
    (on : s.jobs.running = some { box := b, work := w }) (boxes : ∀ c, boxRun c u = boxRun c s)
    (works : u.jobs.running = some { box := b, work := v }) (kind : kindOfWork v = kindOfWork w)
    (capture : u.cap = s.cap) : Runs u :=
  h.of_same boxes (by rw [engine_of_running works, engine_of_running on, kind]) (by rw [capture])

theorem Runs.completePass {s u : State} {b : Fin 16} {k : JobKind} (h : Runs s) (on : engineJob s = some (b, k))
    (boxes : ∀ c, boxRun c u = boxRun c s) (a : PassArgs) (w : PassWork) : Runs (completePass b a w u) := by
  unfold Machine.completePass
  dsimp only
  refine h.endRunning on (st := .done) ?_ (by simp) _ ?_
  · exact boxes
  · simp [consumeCapture]

theorem Runs.completeClear {s u : State} {b : Fin 16} {k : JobKind} (h : Runs s) (on : engineJob s = some (b, k))
    (boxes : ∀ c, boxRun c u = boxRun c s) (tiles : Nat) (capture : u.cap.state ≠ .locked) :
    Runs (completeClear b tiles u) := by
  unfold Machine.completeClear
  dsimp only
  refine h.endRunning on (st := .done) ?_ (by simp) _ ?_
  · exact boxes
  · exact capture

theorem Runs.headerVerified {s u : State} {b : Fin 16} {k : JobKind} (h : Runs s) (on : engineJob s = some (b, k))
    (boxes : ∀ c, boxRun c u = boxRun c s) (w : CommitWork) (r : HeaderRecord) (capture : u.cap.state ≠ .locked) :
    Runs (headerVerified b w r u) := by
  unfold Machine.headerVerified
  dsimp only
  refine h.endRunning on (st := .done) ?_ (by simp) _ ?_
  · exact boxes
  · exact capture

/-- A box takes a content of the same run, in a later state with the same boxes. -/
theorem boxRun_setBox_later {s u : State} {b : Fin 16} {x y : Box} (boxes : u.jobs.boxes = s.jobs.boxes)
    (held : boxAt b s = some x) (same : runOf y = runOf x) (c : Fin 16) :
    boxRun c (setBox b (some y) u) = boxRun c s :=
  (boxRun_setBox_same ((boxAt_congr boxes b).trans held) same c).trans (boxRun_congr boxes c)

theorem runs_passWritten {s u : State} {b : Fin 16} {x : Box} {a : PassArgs} {w v : PassWork} (h : Runs s)
    (on : s.jobs.running = some { box := b, work := .pass w }) (boxes : ∀ c, boxRun c u = boxRun c s)
    (capture : u.cap = s.cap) (next : Option TileNo) : Runs (passWritten b x a v next u) := by
  have engine := engine_of_running on
  unfold passWritten
  repeat' split
  · exact h.completePass engine boxes a v
  · exact h.endPassEarly engine boxes (by simp) _
  · exact h.goesOn on (v := .pass _) boxes rfl rfl capture

theorem runs_writePassTile {s u : State} {b : Fin 16} {x : Box} {a : PassArgs} {w : PassWork} (h : Runs s)
    (held : boxAt b s = some x) (on : s.jobs.running = some { box := b, work := .pass w })
    (jobs : u.jobs = s.jobs) (capture : u.cap = s.cap) (sh : Shape) (way : Fin 8) (old : TileValues) (lost : Bool) :
    Runs (writePassTile b x a sh w way old lost u) := by
  unfold writePassTile
  dsimp only
  generalize countTile _ w.next old lost w = counted
  refine runs_passWritten h on ?_ ?_ _
  · exact boxRun_setBox_later (by simp [jobs]) held rfl
  · simp [capture]

theorem runs_passTileOperation {s : State} (h : Runs s) : Runs (passTileOperation s) := by
  unfold passTileOperation
  split
  next b w _ on =>
    split
    next x sh held _ =>
      split
      next a _ =>
        have jobs : (readTileAt w.next (grantJob s)).1.jobs = s.jobs := by simp
        have capture : (readTileAt w.next (grantJob s)).1.cap = s.cap := by simp
        have boxes : ∀ c, boxRun c (readTileAt w.next (grantJob s)).1 = boxRun c s := boxRun_congr (by rw [jobs])
        unfold passTile
        generalize readTileAt w.next (grantJob s) = r at jobs capture boxes
        obtain ⟨u, o⟩ := r
        cases o with
        | values way v => exact runs_writePassTile h held on jobs capture ..
        | faulty way => exact runs_writePassTile h held on jobs capture ..
        | waits p =>
          dsimp only
          split
          · exact h.endPassEarly (engine_of_running on) boxes (by simp) _
          · exact h.of_parts (by simpa using congrArg Jobs.boxes jobs) (by simpa using congrArg Jobs.running jobs)
              (by simpa using capture)
        | refused worn => exact h.endPassEarly (engine_of_running on) boxes (by simp) _
      · exact h
    · exact h
  · exact h

theorem runs_clearWritten {s u : State} {b : Fin 16} {x : Box} {t : TileNo} (h : Runs s)
    (held : boxAt b s = some x) (on : s.jobs.running = some { box := b, work := .clear t })
    (jobs : u.jobs = s.jobs) (capture : u.cap = s.cap) : Runs (clearWritten b x t u) := by
  have engine := engine_of_running on
  have unlocked : u.cap.state ≠ .locked := capture ▸ h.not_locked engine (by simp [kindOfWork])
  have boxes : ∀ c, boxRun c (setBox b (some { x with progress := x.progress + 1 })
      (rise (.station x.owner) .tiles 1 u)) = boxRun c s := boxRun_setBox_later (by simp [jobs]) held rfl
  unfold clearWritten
  dsimp only
  repeat' split
  · exact h.endRunning engine boxes (by simp) _ (by simpa using unlocked)
  · exact h.goesOn on (v := .clear _) boxes rfl rfl (by simpa using capture)
  · exact h.completeClear engine boxes _ (by simpa using unlocked)

theorem runs_clearTileOperation {s : State} (h : Runs s) : Runs (clearTileOperation s) := by
  unfold clearTileOperation
  split
  next b t _ on =>
    split
    next x held =>
      have engine := engine_of_running on
      have jobs : (writeTileAt t (Vector.replicate 32 0) (grantJob s)).1.jobs = s.jobs := by simp
      have capture : (writeTileAt t (Vector.replicate 32 0) (grantJob s)).1.cap = s.cap := by simp
      have boxes : ∀ c, boxRun c (writeTileAt t (Vector.replicate 32 0) (grantJob s)).1 = boxRun c s :=
        boxRun_congr (by rw [jobs])
      unfold clearTile
      generalize writeTileAt t (Vector.replicate 32 0) (grantJob s) = r at jobs capture boxes
      obtain ⟨u, o⟩ := r
      have unlocked : u.cap.state ≠ .locked := by
        rw [show u.cap = s.cap from capture]
        exact h.not_locked engine (by simp [kindOfWork])
      cases o with
      | written => exact runs_clearWritten h held on jobs capture
      | waits p =>
        dsimp only
        split
        · exact h.endRunning engine boxes (by simp) _ unlocked
        · exact h.of_parts (by simpa using congrArg Jobs.boxes jobs) (by simpa using congrArg Jobs.running jobs)
            (by simpa using capture)
      | refused worn => exact h.endRunning engine boxes (by simp) _ unlocked
    · exact h
  · exact h

/-- A WRITE_TILE carried out leaves the running pass RUNNING (R23). -/
theorem engine_noteWrite (s : State) : engineJob (noteWrite s) = engineJob s := by
  unfold noteWrite
  split
  next running =>
    rw [engine_of_running running]
    rfl
  · exact engine_congr (by simp [setHeader])

theorem runs_writeTileAccess {s : State} (h : Runs s) : Runs (writeTileAccess s) := by
  refine h.of_work (by simp) ?_ (by simp)
  unfold writeTileAccess
  repeat' split
  · rfl
  next o _ _ v n _ =>
    have works : engineJob (writeTileAt o.tile v (grantOther s)).1 = engineJob s := engine_congr (by simp)
    unfold writeAccess
    dsimp only
    split
    · exact engine_congr (by simp)
    · revert works
      generalize writeTileAt o.tile v (grantOther s) = r
      intro works
      obtain ⟨u, outcome⟩ := r
      cases outcome with
      | written =>
        refine (engine_congr (s := noteWrite (dropAccess o u)) (by simp)).trans ?_
        exact (engine_noteWrite _).trans ((engine_congr (by simp)).trans works)
      | waits p => exact (engine_congr (by simp)).trans works
      | refused worn => exact (engine_congr (by simp)).trans works
  all_goals rfl

/-! ## Commits -/

/-- A commit whose work moves on stays the engine's. -/
theorem engine_setCommit {s : State} {b : Fin 16} {w : CommitWork}
    (on : s.jobs.running = some { box := b, work := .commit w }) (v : CommitWork) :
    engineJob (setCommit b v s) = engineJob s := by
  rw [engine_of_running on]
  rfl

theorem engine_commitMoment (s : State) : engineJob (commitMoment s) = engineJob s := by
  unfold commitMoment
  repeat' split
  next on _ _ _ => exact engine_setCommit on _
  all_goals rfl

theorem engine_countForCommit (m n : Nat) (s : State) : engineJob (countForCommit m n s) = engineJob s := by
  unfold countForCommit
  split
  next on => exact engine_setCommit on _
  · rfl

theorem engine_testDrains (s : State) : engineJob (testDrains s) = engineJob s := by
  unfold testDrains
  split
  · exact (engine_commitMoment _).trans (engine_congr (by simp))
  · rfl

theorem engine_programDone (s : State) : engineJob (programDone s) = engineJob s :=
  engine_testDrains _

theorem engine_wakeQueue (s : State) : engineJob (wakeQueue s) = engineJob s :=
  engine_congr (by simp)

theorem engine_startProgram (j : FlashJob) (s : State) : engineJob (startProgram j s) = engineJob s :=
  rfl

theorem Runs.programDone {s u : State} (h : Runs s) (boxes : u.jobs.boxes = s.jobs.boxes)
    (running : u.jobs.running = s.jobs.running) (capture : u.cap = s.cap) : Runs (programDone u) :=
  h.of_work (by simpa using boxes) ((engine_programDone u).trans (engine_congr running)) (by simpa using capture)

theorem runs_nextCopyOut {s u : State} {b : Fin 16} {w v : CommitWork} (h : Runs s)
    (on : s.jobs.running = some { box := b, work := .commit w }) (boxes : ∀ c, boxRun c u = boxRun c s)
    (capture : u.cap = s.cap) (t : TileNo) : Runs (nextCopyOut b v t u) := by
  unfold nextCopyOut
  split
  · exact h.goesOn on (v := .commit _) boxes rfl rfl capture
  · exact h.goesOn on (v := .commit _) boxes rfl rfl capture

theorem boxRun_copyOut (b c : Fin 16) (t : TileNo) (way : Fin 8) (v : TileValues) (k : CheckCode) (s : State) :
    boxRun c (copyOut b t way v k s) = boxRun c s := by
  have progress : ∀ u : State, boxRun c (setBox b ((boxAt b u).map fun x => { x with progress := x.progress + 1 }) u) =
      boxRun c u := fun u => by
    by_cases at_ : c = b
    · subst at_
      rw [boxRun_setBox_self, boxRun, Option.map_map]
      rfl
    · exact boxRun_setBox_other _ _ at_
  exact (progress _).trans (boxRun_congr (by simp) c)

theorem runs_commitCopyOut {s : State} (h : Runs s) : Runs (commitCopyOut s) := by
  unfold commitCopyOut
  split
  next b w _ on =>
    have unlocked : s.cap.state ≠ .locked := h.not_locked (engine_of_running on) (by simp [kindOfWork])
    split
    next t _ =>
      unfold copyOutTile
      split
      · exact runs_nextCopyOut h on (fun _ => rfl) rfl t
      · split
        · unfold copyOutDirty
          repeat' split
          · exact h.failCommit (engine_of_running on) (u := grantJob s) (fun _ => rfl) _ _ _ unlocked
          · exact h.of_parts rfl rfl rfl
          · exact runs_nextCopyOut h on (fun c => boxRun_copyOut ..) (by simp) t
        · exact runs_nextCopyOut h on (fun _ => rfl) rfl t
    all_goals exact h
  · exact h

theorem runs_headerCheckReadComplete {s : State} (h : Runs s) : Runs (headerCheckReadComplete s) := by
  refine h.of_work (by simp) ?_ (by simp)
  unfold headerCheckReadComplete recordHeaderCheck
  repeat' split
  next on _ _ => exact engine_setCommit on _
  all_goals rfl

theorem runs_commitDrainDone {s : State} (h : Runs s) : Runs (commitDrainDone s) := by
  unfold commitDrainDone endDrain
  repeat' split
  next on _ _ _ =>
    exact h.failCommit (engine_of_running on) (fun _ => rfl) _ _ _
      (h.not_locked (engine_of_running on) (by simp [kindOfWork]))
  next on _ _ _ => exact h.of_work rfl (engine_setCommit on _) rfl
  all_goals exact h

theorem runs_commitHeaderComplete {s : State} (v : Bool) (h : Runs s) : Runs (commitHeaderComplete v s) := by
  unfold commitHeaderComplete
  split
  next r _ _ =>
    have done : Runs (programDone ((setHeaderHome (if v then .holds r else .failing) s).setMfc
        { (setHeaderHome (if v then .holds r else .failing) s).mfc with marker := v })) := h.programDone rfl rfl rfl
    dsimp only
    split
    next on =>
      have unlocked := done.not_locked (engine_of_running on) (by simp [kindOfWork])
      cases v with
      | true => exact done.headerVerified (engine_of_running on) (fun _ => rfl) _ r unlocked
      | false => exact done.failCommit (engine_of_running on) (fun _ => rfl) _ _ _ unlocked
    · exact done
  · exact h

theorem runs_wornCommit {s : State} (h : Runs s) : Runs (wornCommit s) := by
  unfold wornCommit
  split
  next on =>
    exact h.failCommit (engine_of_running on) (u := withdrawHeader s) (fun _ => rfl) _ _ _
      (h.not_locked (engine_of_running on) (by simp [kindOfWork]))
  · exact h

theorem runs_tileProgramComplete {s : State} (v : Bool) (h : Runs s) : Runs (tileProgramComplete v s) := by
  unfold tileProgramComplete tileVerified tileFailed enterWorn
  dsimp only
  repeat' split
  · refine Runs.of_work h (by simp) ?_ (by simp)
    rw [engine_programDone, engine_wakeQueue, engine_countForCommit]
    exact engine_congr (by simp)
  · refine Runs.of_work h (by simp) ?_ (by simp)
    rw [engine_startProgram, engine_countForCommit]
    exact engine_congr (by simp)
  · exact runs_wornCommit (h.of_parts (by simp) (by simp) (by simp))
  · exact h

/-! ## The completions of the other programs -/

theorem runs_uncommitProgramComplete {s : State} (v : Bool) (h : Runs s) : Runs (uncommitProgramComplete v s) := by
  unfold uncommitProgramComplete
  split
  · exact h.programDone rfl rfl rfl
  · exact h

theorem runs_keyFixComplete {s : State} (v : Bool) (h : Runs s) : Runs (keyFixComplete v s) := by
  unfold keyFixComplete fixVerified fixFailed
  repeat' split
  · exact h.programDone (by simp) (by simp) (by simp)
  · exact h.programDone (by simp) (by simp) (by simp)
  · exact h

theorem runs_keyEraseComplete {s : State} (v : Bool) (h : Runs s) : Runs (keyEraseComplete v s) := by
  unfold keyEraseComplete eraseDone
  split
  · exact h.programDone (by simp) (by simp) (by simp)
  · exact h

theorem runs_recordWriteComplete {s : State} (v : Bool) (h : Runs s) : Runs (recordWriteComplete v s) := by
  unfold recordWriteComplete regionDone labelDone
  repeat' split
  · exact h.programDone (by simp) (by simp) (by simp)
  · exact h.programDone (by simp) (by simp) (by simp)
  · exact h.programDone (by simp) (by simp) (by simp)
  · exact h.programDone (by simp) (by simp) (by simp)
  · exact h

theorem runs_closeProgramComplete {s : State} (v : Bool) (h : Runs s) : Runs (closeProgramComplete v s) := by
  unfold closeProgramComplete closeVerified stageFailed
  repeat' split
  · exact h.programDone (by simp) (by simp) (by simp)
  · exact h.programDone (by simp) (by simp) (by simp)
  · exact h

theorem runs_reopenProgramComplete {s : State} (v : Bool) (h : Runs s) : Runs (reopenProgramComplete v s) := by
  unfold reopenProgramComplete reopenVerified stageFailed
  repeat' split
  · exact h.programDone (by simp) (by simp) (by simp)
  · exact h.programDone (by simp) (by simp) (by simp)
  · exact h

theorem runs_configProgramComplete {s : State} (v : Bool) (h : Runs s) : Runs (configProgramComplete v s) := by
  unfold configProgramComplete
  repeat' split
  · exact h.programDone (by simp) (by simp) (by simp)
  · exact h.programDone (by simp) (by simp) (by simp)
  · exact h

/-! ## Every command -/

theorem runs_reset {s : State} (jobs : s.jobs = .reset) (capture : s.cap = .reset) : Runs s := by
  have free : engineJob s = none := by simp [engineJob, jobs, Jobs.reset]
  have boxes : ∀ b, boxRun b s = none := fun b => by simp [boxRun, boxAt, jobs, Jobs.reset]
  refine ⟨fun b r here => ?_, fun b k on => ?_, fun b r here => ?_, ?_⟩
  · rw [boxes] at here
    cases here
  · rw [free] at on
    cases on
  · rw [boxes] at here
    cases here
  · simp [free, capture, Cap.reset]

theorem runs_serve {f : Request → State → State} {k : Kind} {m : Master} {s : State}
    (answer : ∀ req s, Runs s → Runs (f req s)) (h : Runs s) : Runs (serve k m f s) :=
  serve_keeps (fun _ _ h => h.of_parts rfl rfl rfl) answer k m h

theorem runs_same {f : Request → State → State}
    (frame : ∀ req s, (f req s).jobs = s.jobs ∧ (f req s).cap = s.cap) (req : Request) (s : State) (h : Runs s) :
    Runs (f req s) :=
  h.of_parts (by rw [(frame req s).1]) (by rw [(frame req s).1]) (frame req s).2

theorem runs_effect (c : Instr) (s : State) (h : Runs s) : Runs (effect c s) := by
  cases c with
  | powerOn | resetAssert => exact runs_reset rfl rfl
  | openCapture m => exact runs_serve (fun req _ => runs_openCapture req) h
  | putRow m => exact runs_serve (fun req _ => runs_putRow req) h
  | discardCapture m => exact runs_serve (fun req _ => runs_discardCapture req) h
  | submitJob m => exact runs_serve (fun req _ => runs_submitJob req) h
  | readBox m => exact runs_serve (fun req _ => runs_readBox req) h
  | holdBox m => exact runs_serve (fun req _ => runs_holdBox req) h
  | editBox m => exact runs_serve (fun req _ => runs_editBox req) h
  | releaseBox m => exact runs_serve (fun req _ => runs_releaseBox req) h
  | cancelJob m => exact runs_serve (fun req _ => runs_cancelJob req) h
  | freeBox m => exact runs_serve (fun req _ => runs_freeBox req) h
  | holdExpiry b => exact runs_holdExpiry b h
  | jobStart => exact runs_jobStart h
  | passTileOperation => exact runs_passTileOperation h
  | clearTileOperation => exact runs_clearTileOperation h
  | commitCopyOut => exact runs_commitCopyOut h
  | writeTileAccess => exact runs_writeTileAccess h
  | tileProgramComplete v => exact runs_tileProgramComplete v h
  | uncommitProgramComplete v => exact runs_uncommitProgramComplete v h
  | headerCheckReadComplete => exact runs_headerCheckReadComplete h
  | commitDrainDone => exact runs_commitDrainDone h
  | commitHeaderComplete v => exact runs_commitHeaderComplete v h
  | keyFixComplete v => exact runs_keyFixComplete v h
  | keyEraseComplete v => exact runs_keyEraseComplete v h
  | recordWriteComplete v => exact runs_recordWriteComplete v h
  | closeProgramComplete v => exact runs_closeProgramComplete v h
  | reopenProgramComplete v => exact runs_reopenProgramComplete v h
  | configProgramComplete v => exact runs_configProgramComplete v h
  | captureState m | readTile m | writeTile m | lockWays m | drain m | panelHello m | fetchRun m | readNotices m
  | nextStale m | readProfile m | loadKey m | fixKey m | eraseKey m | checkKey m | releaseKey m | readRegion m
  | readLabel m | writeRegion m | writeLabel m | stageQuery m | closeSet m | reopenSet m | linkResume m | ackEvents m
  | setEventMask m | readCounters m | clearCounters m | writeConfig m =>
    exact runs_serve (runs_same (by simp)) h
  | resetRelease | startupConfigRead | spareScan | headerLoad | keyHomeLoad | regionLabelLoad | stageLoad
  | panelRequestTransaction | panelReplyTransaction | panelStatusTransaction | systemRequestTransaction
  | systemReplyTransaction | systemStatusTransaction | requestFrame | idleMark | badFrame | frameGapTimeout
  | droppingIdleEnd | replyFrameStart | replyFrameSent | fixtureBreak | syncCharacterReceived | readTileAccess
  | panelSnapshot | fillInstall | drainReply | storageFault | flashGrant | fillReadComplete =>
    exact h.of_parts (by simp) (by simp) (by simp)

/-- Settles O5: every command keeps the RUNNING box, the engine's work and the capture's lock together. -/
theorem runningJobStaysSound : Obligations.RunningJobStaysSound :=
  step_keeps (P := RunningSound) (fun _ _ h => h) (fun _ _ h => h) fun c s h =>
    (runningSound_iff _).2 (runs_effect c s ((runningSound_iff s).1 h))

end Sys2Proof.Proofs.RunningJob
end

section
/-! Map values (R68, R86, R94): every value in the cache, in the write-back queue, on its way to or from them, and in flash
lies within -511..511. -/

namespace Sys2Proof.Proofs.MapValues

open Sys2Proof Sys2Proof.Machine Sys2Proof.Proofs.Frames Sys2Proof.Proofs.Steps Sys2Proof.Proofs.TileAccess
  Sys2Proof.Proofs.FlashPrograms Sys2Proof.Proofs.RunningJob

/-! ## Values -/

theorem inRange_zeros : inRange zeroTile := by
  simp [inRange, zeroTile]

theorem inRange_newValues {i : PassInput} (limit : i.args.valLimit ≤ 511) (t : TileNo) (old : TileValues) :
    inRange (newValues i t old) := by
  intro k
  have here : (newValues i t old)[k] = limitTo i.args.valLimit (nodeSum i t old k) := by simp [newValues]
  rw [here]
  unfold limitTo
  split
  · omega
  · split <;> omega

/-- A 10-bit value lies within -512..511. -/
theorem signed10_bounds {u : Nat} (h : u < 1024) : -512 ≤ signed10 u ∧ signed10 u ≤ 511 := by
  unfold signed10
  split <;> omega

theorem unpackTile_bounds {bs : List Byte} {v : TileValues} (h : unpackTile bs = some v) (k : Fin 32) :
    -512 ≤ v[k] ∧ v[k] ≤ 511 := by
  unfold unpackTile at h
  split at h
  · have values : v[k] = signed10 (natOfLeBytes bs / 1024 ^ k.val % 1024) := by
      rw [← Option.some.inj h]
      simp
    rw [values]
    exact signed10_bounds (Nat.mod_lt _ (by decide))
  · cases h

/-- A WRITE_TILE writes its values with -512 raised to -511 (R90). -/
theorem inRange_raiseLowest {v : TileValues} (h : ∀ k : Fin 32, v[k] ≤ 511) : inRange (raiseLowest v) := by
  intro k
  have bound := h k
  have here : (raiseLowest v)[k] = if v[k] < -511 then -511 else v[k] := by simp [raiseLowest]
  rw [here]
  split <;> omega

theorem inRange_set {v : TileValues} (h : inRange v) (j : Fin 32) {x : Int} (low : -511 ≤ x) (high : x ≤ 511) :
    inRange (v.set j x) := by
  intro k
  by_cases here : j = k
  · subst here
    simpa using ⟨low, high⟩
  · have apart : j.val ≠ k.val := fun e => here (Fin.ext e)
    simpa [apart] using h k

theorem inRange_changeValues {changes : List (Fin 32 × Int)} (fit : ∀ c ∈ changes, -511 ≤ c.2 ∧ c.2 ≤ 511)
    {v : TileValues} (h : inRange v) : inRange (changeValues changes v) := by
  unfold changeValues
  induction changes generalizing v with
  | nil => exact h
  | cons c rest ih =>
    obtain ⟨low, high⟩ := fit c (by simp)
    exact ih (fun d mem => fit d (by simp [mem])) (inRange_set h c.1 low high)

theorem changesFit_bounds {changes : List (Fin 32 × Int)} (h : changesFit changes = true) :
    ∀ c ∈ changes, -511 ≤ c.2 ∧ c.2 ≤ 511 := by
  simp only [changesFit, Bool.and_eq_true, List.all_eq_true, decide_eq_true_eq] at h
  exact h.2

/-! ## The cache -/

/-- The values of the entries, the queued copies and the fill results lie in range. -/
structure CacheInRange (s : State) : Prop where
  entries : ∀ i w e, entryAt i w s = some e → entryInRange e
  queue : ∀ c ∈ s.tlc.queue, inRange c.values
  fills : ∀ f ∈ s.tlc.fills, fillInRange f.result

theorem CacheInRange.congr {s t : State} (h : CacheInRange s) (ways : ∀ i w, entryAt i w t = entryAt i w s)
    (queue : t.tlc.queue = s.tlc.queue) (fills : t.tlc.fills = s.tlc.fills) : CacheInRange t := by
  refine ⟨?_, ?_, ?_⟩
  · simpa only [ways] using h.entries
  · rw [queue]; exact h.queue
  · rw [fills]; exact h.fills

theorem CacheInRange.of_sameCache {s t : State} (h : CacheInRange s) (same : SameCache s t) : CacheInRange t :=
  h.congr same.entryAt same.queue same.fills

/-- A way takes an entry in range. -/
theorem CacheInRange.setEntry {s u : State} {i : Fin 16} {w : Fin 8} {e : Entry} (h : CacheInRange s) (fit : entryInRange e)
    (ways : ∀ j x, entryAt j x u = entryAt j x (setEntry i w (some e) s))
    (queue : u.tlc.queue = s.tlc.queue) (fills : u.tlc.fills = s.tlc.fills) : CacheInRange u := by
  refine ⟨fun j x f entry => ?_, queue ▸ h.queue, fills ▸ h.fills⟩
  rw [ways] at entry
  by_cases here : j = i ∧ x = w
  · obtain ⟨rfl, rfl⟩ := here
    rw [entryAt_setEntry_self] at entry
    cases entry
    exact fit
  · rw [entryAt_setEntry_other _ _ here] at entry
    exact h.entries j x f entry

theorem newestCopy_mem {t : TileNo} {q : List TileCopy} {c : TileCopy} (h : newestCopy t q = some c) : c ∈ q :=
  List.mem_reverse.1 (List.mem_of_find?_eq_some h)

theorem cacheInRange_requestFill {s : State} (t : TileNo) (h : CacheInRange s) : CacheInRange (requestFill t s) := by
  unfold requestFill
  split
  next c copy =>
    refine ⟨h.entries, h.queue, fun f mem => ?_⟩
    rcases List.mem_append.1 mem with old | new
    · exact h.fills f old
    · cases List.mem_singleton.1 new
      dsimp only [copyFill]
      split
      · exact h.queue c (newestCopy_mem copy)
      · trivial
  · exact h.congr (fun _ _ => rfl) rfl rfl

theorem cacheInRange_loseTile {s : State} (t : TileNo) (w : Fin 8) (h : CacheInRange s) : CacheInRange (loseTile t w s) :=
  h.setEntry (i := setOf t) (w := w) (e := { tile := t, state := .faulty }) trivial (fun j x => entryAt_congr (by simp [loseTile]) j x) (by simp)
    (by simp)

theorem cacheInRange_repairTile {s : State} (t : TileNo) (w : Fin 8) (h : CacheInRange s) :
    CacheInRange (repairTile t w s) :=
  cacheInRange_requestFill t
    (h.setEntry (i := setOf t) (w := w) (e := { tile := t, state := .filling }) trivial
      (fun j x => entryAt_congr (by simp) j x) (by simp) (by simp))

theorem cacheInRange_storeWhole {s : State} {v : TileValues} (t : TileNo) (w : Fin 8) (fit : inRange v)
    (h : CacheInRange s) : CacheInRange (storeWhole t w v s) :=
  h.setEntry (e := { tile := t, state := .dirty v (codeOf t v) }) fit
    (fun j x => by rw [entryAt_congr (congrArg Tlc.sets (storeWhole_sets t w v s)), entryAt_touch]) (by simp) (by simp)

theorem inRange_copyOfWay {s : State} {i : Fin 16} {w : Fin 8} {c : TileCopy} (h : CacheInRange s)
    (mem : c ∈ copyOfWay i w s) : inRange c.values := by
  unfold copyOfWay at mem
  split at mem
  next entry =>
    cases List.mem_singleton.1 mem
    exact h.entries _ _ _ entry
  · cases mem

theorem cacheInRange_giveWay {s : State} {st : EntryState} (w : Fin 8) (t : TileNo)
    (fit : entryInRange { tile := t, state := st }) (h : CacheInRange s) :
    CacheInRange (giveWay (setOf t) w t st s) := by
  have queue : (giveWay (setOf t) w t st s).tlc.queue = s.tlc.queue ++ copyOfWay (setOf t) w s := by rw [giveWay_eq]; rfl
  obtain ⟨here, others, -, -⟩ := giveWay_wayGiven t w st s
  refine ⟨fun j x e entry => ?_, fun c mem => ?_, by simpa using h.fills⟩
  · by_cases way : j = setOf t ∧ x = w
    · obtain ⟨rfl, rfl⟩ := way
      cases here.symm.trans entry
      exact fit
    · exact h.entries j x e ((others j x way).symm.trans entry)
  · rw [queue] at mem
    rcases List.mem_append.1 mem with old | new
    · exact h.queue c old
    · exact inRange_copyOfWay h new

theorem cacheInRange_entryRead {t : TileNo} {w : Fin 8} {s u : State} {o : ReadOutcome} (read : EntryRead t w s u o)
    (h : CacheInRange s) : CacheInRange u := by
  cases read with
  | held => exact h.congr (fun j x => entryAt_touch ..) rfl rfl
  | repaired => exact cacheInRange_repairTile t w h
  | lost => exact cacheInRange_loseTile t w h
  | faulty | filling => exact h

theorem cacheInRange_tileRead {t : TileNo} {s u : State} {o : ReadOutcome} (read : TileRead t s u o)
    (h : CacheInRange s) : CacheInRange u := by
  cases read with
  | hit _ _ read => exact cacheInRange_entryRead read h
  | noWay => exact h
  | copied w c _ _ copy read =>
    exact cacheInRange_entryRead read (cacheInRange_giveWay w t (h.queue c (newestCopy_mem copy)) h)
  | fetched w => exact cacheInRange_requestFill t (cacheInRange_giveWay w t trivial h)

theorem cacheInRange_tileWrite {t : TileNo} {v : TileValues} {s u : State} {o : WriteOutcome} (fit : inRange v)
    (write : TileWrite t v s u o) (h : CacheInRange s) : CacheInRange u := by
  cases write with
  | hit w => exact cacheInRange_storeWhole t w fit h
  | filling | noWay => exact h
  | missed w => exact cacheInRange_storeWhole t w fit (cacheInRange_giveWay w t fit h)

theorem cacheInRange_kept : KeptByTileOperations inRange CacheInRange where
  same same h := h.of_sameCache same
  read read h := cacheInRange_tileRead read h
  write fit write h := cacheInRange_tileWrite fit write h
  store fit _ _ h := cacheInRange_storeWhole _ _ fit h

theorem cacheInRange_installFill {s : State} {r : FillResult} (t : TileNo) (w : Fin 8) (fit : fillInRange r)
    (h : CacheInRange s) : CacheInRange (installFill t w r s) := by
  cases r with
  | values v =>
    exact h.setEntry (e := { tile := t, state := .clean v (codeOf t v) }) fit (fun _ _ => rfl) rfl rfl
  | erased =>
    exact h.setEntry (e := { tile := t, state := .clean zeroTile (codeOf t zeroTile) }) inRange_zeros (fun _ _ => rfl) rfl rfl
  | failed => exact cacheInRange_loseTile t w h

theorem nextGrant_fill {s : State} {f : Fill} (h : nextGrant s = some (.fill f)) : ∃ rest, s.tlc.fills = f :: rest := by
  unfold nextGrant at h
  repeat' split at h
  all_goals cases h
  next rest fills => exact ⟨rest, fills⟩

theorem cacheInRange_fillInstall {s : State} (h : CacheInRange s) : CacheInRange (fillInstall s) := by
  unfold fillInstall
  split
  next f grant =>
    obtain ⟨rest, fills⟩ := nextGrant_fill grant
    unfold installHead
    dsimp only
    have granted : CacheInRange ((grantOther s).setTlc { (grantOther s).tlc with fills := s.tlc.fills.tail }) := by
      refine ⟨?_, ?_, ?_⟩
      · intro i w e entry
        exact h.entries i w e ((entryAt_congr (by simp) i w).symm.trans entry)
      · simpa using h.queue
      · intro g mem
        exact h.fills g (List.mem_of_mem_tail mem)
    split
    next w _ =>
      have installed := cacheInRange_installFill f.tile w (h.fills f (by simp [fills])) granted
      exact installed.congr (entryAt_congr (by simp)) (by simp) (by simp)
    · exact granted
  · exact h

theorem entryInRange_strikeEntry {changes : List (Fin 32 × Int)} (fit : ∀ c ∈ changes, -511 ≤ c.2 ∧ c.2 ≤ 511) {e : Entry}
    (h : entryInRange e) : entryInRange (strikeEntry changes e) := by
  obtain ⟨t, st⟩ := e
  cases st with
  | clean | dirty => exact inRange_changeValues fit h
  | filling | faulty => trivial

theorem inRange_modify {changes : List (Fin 32 × Int)} (fit : ∀ c ∈ changes, -511 ≤ c.2 ∧ c.2 ≤ 511) {q : List TileCopy}
    (h : ∀ c ∈ q, inRange c.values) (n : Nat) : ∀ c ∈ q.modify n (strikeCopy changes), inRange c.values := by
  intro c mem
  obtain ⟨j, bound, rfl⟩ := List.getElem_of_mem mem
  have within : j < q.length := by simpa using bound
  have old := h q[j] (List.getElem_mem within)
  rw [List.getElem_modify]
  split
  · exact inRange_changeValues fit old
  · exact old

theorem cacheInRange_storageFault {s : State} (place : FaultPlace) (changes : List (Fin 32 × Int)) (h : CacheInRange s) :
    CacheInRange (storageFault place changes s) := by
  unfold storageFault
  split
  next fits =>
    have fit := changesFit_bounds fits
    cases place with
    | entry i w =>
      dsimp only
      cases entry : entryAt i w s with
      | none => exact h.congr (fun j x => by rw [Option.map_none, Startup.setEntry_same entry]) rfl rfl
      | some e => exact h.setEntry (entryInRange_strikeEntry fit (h.entries i w e entry)) (fun _ _ => rfl) rfl rfl
    | queued n =>
      exact ⟨h.entries, inRange_modify fit h.queue n.val, h.fills⟩
  · exact h

theorem cacheInRange_copyOut {s : State} {t : TileNo} {w : Fin 8} {v : TileValues} (b : Fin 16) (c : CheckCode)
    (fit : inRange v) (h : CacheInRange s) : CacheInRange (copyOut b t w v c s) := by
  have queued : CacheInRange
      (s.setTlc { s.tlc with queue := s.tlc.queue ++ [{ tile := t, values := v, code := c }] }) := by
    refine ⟨h.entries, fun d mem => ?_, h.fills⟩
    rcases List.mem_append.1 mem with old | new
    · exact h.queue d old
    · cases List.mem_singleton.1 new
      exact fit
  exact queued.setEntry (i := setOf t) (w := w) (e := { tile := t, state := .clean v c }) fit (fun _ _ => rfl) rfl rfl

theorem cacheInRange_commitCopyOut {s : State} (h : CacheInRange s) : CacheInRange (commitCopyOut s) := by
  rcases Cache.commitCopyOut_cases s with same | ⟨b, t, w, e, v, c, entry, -, dirty, -, copied⟩
  · exact h.of_sameCache same
  · have fit : inRange v := by simpa [entryInRange, dirty] using h.entries _ _ _ entry
    exact (cacheInRange_copyOut b c fit (h.of_sameCache (sameCache_grantJob s))).of_sameCache copied

theorem inRange_readResult {t : TileNo} {home : Home TileRecord} (h : homeInRange home) : fillInRange (readResult t home) := by
  unfold readResult
  repeat' split
  · trivial
  · trivial
  · exact h
  · trivial

theorem cacheInRange_fillReadComplete {s : State} (tiles : ∀ t : TileNo, homeInRange s.homes.tile[t])
    (spares : ∀ k : Fin 24, homeInRange s.homes.spare[k]) (h : CacheInRange s) : CacheInRange (fillReadComplete s) := by
  unfold fillReadComplete
  split
  next t home _ =>
    refine ⟨h.entries, h.queue, fun f mem => ?_⟩
    rcases List.mem_append.1 mem with old | new
    · exact h.fills f old
    · cases List.mem_singleton.1 new
      refine inRange_readResult ?_
      cases home with
      | own => exact tiles t
      | spare k => exact spares k
  all_goals exact h

theorem cacheInRange_tileProgramComplete {s : State} (v : Bool) (h : CacheInRange s) :
    CacheInRange (tileProgramComplete v s) := by
  refine ⟨fun i w e entry => ?_, fun c mem => ?_, by simpa using h.fills⟩
  · exact h.entries i w e ((entryAt_congr (by simp) i w).symm.trans entry)
  · have queue : (tileProgramComplete v s).tlc.queue = s.tlc.queue ∨
        (tileProgramComplete v s).tlc.queue = s.tlc.queue.tail := by
      rcases RemapTable.tileProgramComplete_cases v s with same | ⟨_, _, _, -, verified | failed⟩
      · exact .inl (by rw [same])
      · exact .inr (by simp [verified, tileVerified])
      · exact .inl (by simp [failed])
    rcases queue with same | tail
    · exact h.queue c (same ▸ mem)
    · exact h.queue c (List.mem_of_mem_tail (tail ▸ mem))

/-! ## ACCESS operations -/

/-- The values that the ACCESS operations write lie in range. -/
def AccessFits (l : List AccessOp) : Prop :=
  ∀ o ∈ l, accessInRange o.kind

theorem accessFits_map {l : List AccessOp} {f : AccessOp → AccessOp} (kind : ∀ o, (f o).kind = o.kind) (h : AccessFits l) :
    AccessFits (l.map f) := by
  intro o mem
  obtain ⟨x, old, rfl⟩ := List.mem_map.1 mem
  rw [kind]
  exact h x old

theorem accessFits_wake (on : TileNo → Bool) (f : OpPhase → OpPhase) {s : State} (h : AccessFits s.tlc.access) :
    AccessFits (wake on f s).tlc.access :=
  accessFits_map (fun o => by split <;> rfl) h

theorem accessFits_setAccessPhase (o : AccessOp) (p : OpPhase) {s : State} (h : AccessFits s.tlc.access) :
    AccessFits (setAccessPhase o p s).tlc.access :=
  accessFits_map (fun x => by split <;> rfl) h

theorem accessFits_wakeWays {s : State} (h : AccessFits s.tlc.access) : AccessFits (wakeWays s).tlc.access :=
  accessFits_wake _ _ h

theorem accessFits_wakeQueue {s : State} (h : AccessFits s.tlc.access) : AccessFits (wakeQueue s).tlc.access :=
  accessFits_wake _ _ h

theorem accessFits_dropAccess (o : AccessOp) {s : State} (h : AccessFits s.tlc.access) :
    AccessFits (dropAccess o s).tlc.access :=
  fun x mem => h x (List.mem_of_mem_erase mem)

theorem mem_insertAccess {o x : AccessOp} {l : List AccessOp} (h : x ∈ insertAccess o l) : x = o ∨ x ∈ l := by
  induction l with
  | nil => exact .inl (List.mem_singleton.1 h)
  | cons y rest ih =>
    unfold insertAccess at h
    split at h
    · exact List.mem_cons.1 h
    · rcases List.mem_cons.1 h with rfl | later
      · exact .inr (by simp)
      · exact (ih later).imp id fun mem => by simp [mem]

theorem accessFits_presentAccess (req : Request) (t : TileNo) {k : AccessKind} {s : State} (fit : accessInRange k)
    (h : AccessFits s.tlc.access) : AccessFits (presentAccess req t k s).tlc.access := by
  intro o mem
  rcases mem_insertAccess mem with rfl | old
  · exact fit
  · exact h o old

theorem accessFits_readTile (req : Request) {s : State} (h : AccessFits s.tlc.access) :
    AccessFits (readTile req s).tlc.access := by
  unfold readTile
  repeat' split
  · simpa using h
  · simpa using h
  · exact accessFits_presentAccess req _ trivial h

theorem parseTileWrite_bounds {body : List Byte} {t : TileNo} {v : TileValues} (h : parseTileWrite body = some (t, v))
    (k : Fin 32) : v[k] ≤ 511 := by
  simp only [parseTileWrite, Option.bind_eq_bind, Option.bind_eq_some_iff] at h
  obtain ⟨fs, -, u, -, w, ⟨bs, -, unpacked⟩, e⟩ := h
  cases e
  exact (unpackTile_bounds unpacked k).2

theorem accessFits_writeTile (req : Request) {s : State} (h : AccessFits s.tlc.access) :
    AccessFits (writeTile req s).tlc.access := by
  unfold writeTile
  repeat' split
  · simpa using h
  · simpa using h
  · simpa using h
  next parsed =>
    exact accessFits_presentAccess req _ (inRange_raiseLowest (parseTileWrite_bounds parsed)) h

theorem accessFits_lockWays (req : Request) {s : State} (h : AccessFits s.tlc.access) :
    AccessFits (lockWays req s).tlc.access := by
  unfold lockWays
  repeat' split
  · simpa using h
  · simpa using h
  · simpa using h
  · dsimp only
    split
    next l _ _ => simpa using accessFits_wakeWays (s := s.setTlc { s.tlc with lock := l }) h
    · simpa using h

theorem accessFits_readTileAccess {s : State} (h : AccessFits s.tlc.access) : AccessFits (readTileAccess s).tlc.access := by
  unfold readTileAccess
  split
  next o _ =>
    split
    · have after : AccessFits (readTileAt o.tile (grantOther s)).1.tlc.access := by simpa using h
      unfold readAccess
      revert after
      generalize readTileAt o.tile (grantOther s) = r
      obtain ⟨u, outcome⟩ := r
      intro after
      cases outcome with
      | values w v => simpa using accessFits_dropAccess o after
      | faulty w => simpa using accessFits_dropAccess o after
      | waits p => exact accessFits_setAccessPhase o p after
      | refused worn => cases worn <;> simpa using accessFits_dropAccess o after
    · exact h
  · exact h

theorem accessFits_writeTileAccess {s : State} (h : AccessFits s.tlc.access) :
    AccessFits (writeTileAccess s).tlc.access := by
  unfold writeTileAccess
  split
  next o _ =>
    split
    · exact h
    next v n _ =>
      have granted : AccessFits (grantOther s).tlc.access := by simpa using h
      have after : AccessFits (writeTileAt o.tile v (grantOther s)).1.tlc.access := by simpa using h
      unfold writeAccess
      dsimp only
      split
      · simpa using accessFits_dropAccess o granted
      · revert after
        generalize writeTileAt o.tile v (grantOther s) = r
        obtain ⟨u, outcome⟩ := r
        intro after
        cases outcome with
        | written => simpa using accessFits_dropAccess o after
        | waits p => exact accessFits_setAccessPhase o p after
        | refused worn => simpa using accessFits_dropAccess o after
  · exact h

theorem accessFits_fillInstall {s : State} (h : AccessFits s.tlc.access) : AccessFits (fillInstall s).tlc.access := by
  unfold fillInstall installHead
  dsimp only
  repeat' split
  · exact accessFits_wake _ _ (accessFits_wake _ _ (by simpa using h))
  · simpa using h
  · exact h

theorem accessFits_tileProgramComplete {s : State} (v : Bool) (h : AccessFits s.tlc.access) :
    AccessFits (tileProgramComplete v s).tlc.access := by
  unfold tileProgramComplete tileVerified tileFailed enterWorn
  dsimp only
  repeat' split
  · simpa using accessFits_wakeQueue (by simpa using h)
  · simpa using h
  · simpa using accessFits_wakeQueue (by simpa using h)
  · exact h

/-- The operation that the arbiter grants next is one of those presented. -/
theorem mem_access_of_nextGrant {s : State} {o : AccessOp} (h : nextGrant s = some (.access o)) : o ∈ s.tlc.access := by
  unfold nextGrant at h
  repeat' split at h
  all_goals cases h
  next turn =>
    unfold accessTurn at turn
    split at turn
    next found =>
      cases turn
      exact List.mem_of_find?_eq_some found
    · exact List.mem_of_find?_eq_some turn

/-! ## Homes and the flash -/

/-- The values of the tile records in flash lie in range. -/
structure HomesInRange (h : Homes) : Prop where
  tile : ∀ t : TileNo, homeInRange h.tile[t]
  spare : ∀ k : Fin 24, homeInRange h.spare[k]

theorem homeInRange_set {n : Nat} {v : Vector (Home TileRecord) n} (h : ∀ k : Fin n, homeInRange v[k]) (j : Fin n)
    {x : Home TileRecord} (fit : homeInRange x) : ∀ k : Fin n, homeInRange (v.set j x)[k] := by
  intro k
  by_cases here : j.val = k.val
  · simpa [here] using fit
  · simpa [here] using h k

theorem homesInRange_setTileHome {s : State} (t : TileNo) (home : TileHome) {x : Home TileRecord} (fit : homeInRange x)
    (h : HomesInRange s.homes) : HomesInRange (setTileHome t home x s).homes := by
  cases home with
  | own => exact ⟨homeInRange_set h.tile t fit, h.spare⟩
  | spare k => exact ⟨h.tile, homeInRange_set h.spare k fit⟩

theorem failRecordHome_tiles (p : RecordProgram) (h : Homes) :
    (failRecordHome p h).tile = h.tile ∧ (failRecordHome p h).spare = h.spare := by
  cases p <;> exact ⟨rfl, rfl⟩

theorem homesInRange_failRecordHome (p : RecordProgram) {h : Homes} (fit : HomesInRange h) :
    HomesInRange (failRecordHome p h) := by
  obtain ⟨tile, spare⟩ := failRecordHome_tiles p h
  exact ⟨by simpa only [tile] using fit.tile, by simpa only [spare] using fit.spare⟩

theorem homesInRange_grantedHomes (f : FlashState) {h : Homes} (fit : HomesInRange h) :
    HomesInRange (grantedHomes f h) := by
  unfold grantedHomes
  split
  · exact fit
  · exact fit
  · exact fit
  · exact homesInRange_failRecordHome _ fit
  · exact ⟨fit.tile, fit.spare⟩
  · exact ⟨fit.tile, fit.spare⟩
  · exact ⟨homeInRange_set fit.tile _ trivial, fit.spare⟩
  · exact ⟨fit.tile, homeInRange_set fit.spare _ trivial⟩

theorem homesInRange_interruptedHomes (m : Mfc) {h : Homes} (fit : HomesInRange h) :
    HomesInRange (interruptedHomes m h) := by
  unfold interruptedHomes
  generalize m.programs.filter inFlightPresented = programs
  have start := homesInRange_grantedHomes m.flash fit
  revert start
  generalize grantedHomes m.flash h = g
  induction programs generalizing g with
  | nil => exact id
  | cons p rest ih => exact fun start => ih _ (homesInRange_failRecordHome p start)

theorem homesInRange_tileProgramComplete {s : State} (v : Bool) (flash : flashInRange s.mfc.flash)
    (h : HomesInRange s.homes) : HomesInRange (tileProgramComplete v s).homes := by
  rcases RemapTable.tileProgramComplete_cases v s with same | ⟨c, home, seq, programming, verified | failed⟩
  · rwa [same]
  · have fit : inRange c.values := by simpa [flashInRange, programming] using flash
    have homes : (tileVerified c home seq s).homes = (setTileHome c.tile home (.holds (recordOf c seq)) s).homes := by
      simp [tileVerified]
    rw [verified, homes]
    exact homesInRange_setTileHome c.tile home fit h
  · have homes : (tileFailed c home s).homes = (setTileHome c.tile home .failing s).homes := by
      unfold tileFailed enterWorn
      dsimp only
      split
      · simp
      · simp
    rw [failed, homes]
    exact homesInRange_setTileHome c.tile home trivial h

theorem flashInRange_flashGrant {s : State} (queue : ∀ c ∈ s.tlc.queue, inRange c.values)
    (h : flashInRange s.mfc.flash) : flashInRange (flashGrant s).mfc.flash := by
  unfold flashGrant grantRead grantRecord grantTile
  (repeat' split) <;> simp_all [flashInRange, setFlash, startProgram]

theorem flashInRange_tileProgramComplete {s : State} (v : Bool) (h : flashInRange s.mfc.flash) :
    flashInRange (tileProgramComplete v s).mfc.flash := by
  rcases flash_tileProgramComplete v s with same | idle | ⟨c, home, seq, k, programming, -, -, again⟩
  · rwa [same]
  · simp [flashInRange, idle]
  · rw [again]
    simpa [flashInRange, programming] using h

theorem flashInRange_effect (c : Instr) (s : State) (queue : ∀ c ∈ s.tlc.queue, inRange c.values)
    (h : flashInRange s.mfc.flash) : flashInRange (effect c s).mfc.flash := by
  by_cases grant : c = .flashGrant
  · rw [grant]
    exact flashInRange_flashGrant queue h
  · by_cases tile : ∃ v, c = .tileProgramComplete v
    · obtain ⟨v, rfl⟩ := tile
      exact flashInRange_tileProgramComplete v h
    · rcases flash_effect c s grant (fun v e => tile ⟨v, e⟩) with same | idle
      · rwa [same]
      · simp [flashInRange, idle]

end Sys2Proof.Proofs.MapValues
end

section
/-! The value limits of the job boxes, and the range of map values under every command. -/

namespace Sys2Proof.Proofs.MapValues

open Sys2Proof Sys2Proof.Machine Sys2Proof.Proofs.Frames Sys2Proof.Proofs.Steps Sys2Proof.Proofs.TileAccess
  Sys2Proof.Proofs.FlashPrograms Sys2Proof.Proofs.RunningJob

/-! ## Boxes -/

/-- The value limit of every box's arguments lies in range. -/
structure LimitsFit (s : State) : Prop where
  fit : ∀ (b : Fin 16) (x : Box), boxAt b s = some x → limitInRange x

theorem limitInRange_congr {x y : Box} (args : y.args = x.args) (h : limitInRange x) : limitInRange y := by
  simpa [limitInRange, args] using h

theorem LimitsFit.of_same {s t : State} (h : LimitsFit s) (boxes : t.jobs.boxes = s.jobs.boxes) : LimitsFit t :=
  ⟨fun b x held => h.fit b x ((boxAt_congr boxes b).symm.trans held)⟩

theorem LimitsFit.setBox {s : State} {b : Fin 16} {y : Option Box} (h : LimitsFit s)
    (fit : ∀ x, y = some x → limitInRange x) : LimitsFit (setBox b y s) := by
  refine ⟨fun c x held => ?_⟩
  by_cases here : c = b
  · subst here
    exact fit x ((boxAt_setBox_self c y s).symm.trans held)
  · exact h.fit c x ((boxAt_setBox_other y s here).symm.trans held)

/-- A box takes a content with the arguments of the one that it held. -/
theorem LimitsFit.setBox_same {s : State} {b : Fin 16} {x y : Box} (h : LimitsFit s) (held : boxAt b s = some x)
    (args : y.args = x.args) : LimitsFit (Machine.setBox b (some y) s) :=
  h.setBox fun z e => by
    cases e
    exact limitInRange_congr args (h.fit b x held)

theorem LimitsFit.reply {s : State} (h : LimitsFit s) (req : Request) (st : Status) (body : ReplyBody) :
    LimitsFit (reply req st body s) :=
  h.of_same (by simp)

theorem LimitsFit.refuse {s : State} (h : LimitsFit s) (req : Request) (st : Status) : LimitsFit (refuse req st s) :=
  h.reply req st .empty

theorem LimitsFit.endBox {s : State} (h : LimitsFit s) (b : Fin 16) (st : BoxState) (r : JobResult) :
    LimitsFit (endBox b st r s) := by
  cases held : boxAt b s with
  | none => simpa [Machine.endBox, held] using h
  | some x =>
    rw [endBox_some held]
    exact LimitsFit.of_same (h.setBox_same held (y := { x with state := st, result := some r, newResult := true, hold := none })
      rfl) (by simp)

theorem LimitsFit.endRunning {s : State} (h : LimitsFit s) (b : Fin 16) (st : BoxState) (r : JobResult) :
    LimitsFit (endRunning b st r s) :=
  (h.endBox b st r).of_same rfl

/-- A parser gives no arguments whose value limit lies above 511. -/
def LimitsIn (p : Option PassArgs) : Prop :=
  ∀ a, p = some a → a.valLimit ≤ 511

theorem limitsIn_bind {α : Type} (x : Option α) {f : α → Option PassArgs} (h : ∀ v, LimitsIn (f v)) :
    LimitsIn (x >>= f) := by
  intro a e
  obtain ⟨v, -, e⟩ := Option.bind_eq_some_iff.1 e
  exact h v a e

theorem limitsIn_some {a : PassArgs} (h : a.valLimit ≤ 511) : LimitsIn (some a) := by
  intro b e
  cases e
  exact h

theorem limitsIn_none : LimitsIn none := by
  intro a e
  cases e

/-- The value limit of a RUN_PASS's arguments (R4): the last check of the parser bounds it, whatever the fields before it
hold. -/
theorem limitsIn_parsePassArgs (bytes : List Byte) : LimitsIn (parsePassArgs bytes) := by
  unfold parsePassArgs
  refine limitsIn_bind _ fun fs => limitsIn_bind _ fun modeNums => ?_
  dsimp only
  repeat' split
  all_goals refine limitsIn_bind _ fun targets => limitsIn_bind _ fun modeList => limitsIn_bind _ fun modes => ?_
  all_goals
    refine limitsIn_bind _ fun window => limitsIn_bind _ fun step => limitsIn_bind _ fun limit =>
      limitsIn_bind _ fun slope => limitsIn_bind _ fun tolerance => limitsIn_bind _ fun flat => ?_
    split
    next bounds => exact limitsIn_some bounds.2.2.2.2.1
    · exact limitsIn_none

theorem valLimit_of_parsePassArgs {bytes : List Byte} {a : PassArgs} (h : parsePassArgs bytes = some a) :
    a.valLimit ≤ 511 :=
  limitsIn_parsePassArgs bytes a h

theorem limit_of_parseJobArgs {k : JobKind} {bytes : Option (List Byte)} {a : Option PassArgs} {x : Box}
    (h : parseJobArgs k bytes = some a) (args : x.args = a) : limitInRange x := by
  subst args
  unfold parseJobArgs at h
  unfold limitInRange
  split at h
  · obtain ⟨a, parsed, e⟩ := Option.map_eq_some_iff.1 h
    rw [← e]
    exact valLimit_of_parsePassArgs parsed
  · cases h
  · rw [← Option.some.inj h]
    trivial
  · split at h
    · rw [← Option.some.inj h]
      trivial
    · cases h

theorem limitsFit_submitJob (req : Request) {s : State} (h : LimitsFit s) : LimitsFit (submitJob req s) := by
  unfold submitJob
  repeat' split
  all_goals try exact h.refuse req _
  next k a i parsed _ _ _ b _ =>
    obtain ⟨bytes, args⟩ := parseSubmit_args parsed
    dsimp only
    refine LimitsFit.reply ?_ ..
    refine LimitsFit.of_same (h.setBox (b := b) (y := some (queuedBox i k a s.jobs.seq)) fun x e => ?_) rfl
    cases e
    exact limit_of_parseJobArgs args rfl

theorem limitsFit_readBox (req : Request) {s : State} (h : LimitsFit s) : LimitsFit (readBox req s) := by
  unfold readBox
  split
  · exact h.refuse req _
  · refine LimitsFit.reply ?_ ..
    unfold markRead
    repeat' split
    next held _ => exact h.setBox_same held rfl
    all_goals exact h

theorem limitsFit_holdBox (req : Request) {s : State} (h : LimitsFit s) : LimitsFit (holdBox req s) := by
  unfold holdBox
  repeat' split
  all_goals try exact h.refuse req _
  next own _ _ _ _ =>
    refine LimitsFit.reply ?_ ..
    exact h.setBox_same (ownBox_ok own) rfl

theorem limitsFit_editBox (req : Request) {s : State} (h : LimitsFit s) : LimitsFit (editBox req s) := by
  unfold editBox
  repeat' split
  all_goals try exact h.refuse req _
  next a parsed =>
    refine LimitsFit.reply ?_ ..
    refine h.setBox fun y e => ?_
    cases e
    exact limit_of_parseJobArgs parsed rfl

theorem limitsFit_releaseBox (req : Request) {s : State} (h : LimitsFit s) : LimitsFit (releaseBox req s) := by
  unfold releaseBox
  repeat' split
  all_goals try exact h.refuse req _
  next held _ =>
    refine LimitsFit.reply ?_ ..
    exact h.setBox_same held rfl

theorem limitsFit_noteCancel {b : Fin 16} {x : Box} {s : State} (h : LimitsFit s) (held : boxAt b s = some x) :
    LimitsFit (noteCancel b x s) := by
  have noted : LimitsFit (setBox b (some { x with cancelNoted := true }) s) := h.setBox_same held rfl
  unfold noteCancel
  dsimp only
  repeat' split
  · refine LimitsFit.endRunning ?_ ..
    exact noted.of_same rfl
  · exact noted.endRunning ..
  · exact noted
  · exact noted

theorem limitsFit_cancelJob (req : Request) {s : State} (h : LimitsFit s) : LimitsFit (cancelJob req s) := by
  unfold cancelJob
  repeat' split
  all_goals try exact h.refuse req _
  · exact LimitsFit.reply (h.endBox ..) ..
  next own _ _ _ _ => exact (limitsFit_noteCancel h (ownBox_ok own)).reply ..
  next own _ _ _ _ => exact (limitsFit_noteCancel h (ownBox_ok own)).reply ..

theorem limitsFit_freeBox (req : Request) {s : State} (h : LimitsFit s) : LimitsFit (freeBox req s) := by
  unfold freeBox
  repeat' split
  all_goals try exact h.refuse req _
  refine LimitsFit.reply ?_ ..
  exact h.setBox (by simp)

theorem limitsFit_holdExpiry (b : Fin 16) {s : State} (h : LimitsFit s) : LimitsFit (holdExpiry b s) := by
  have same : ∀ now x, (holdAt now x).args = x.args := fun now x => by
    unfold holdAt
    repeat' split
    all_goals rfl
  cases held : boxAt b s with
  | none => rwa [holdExpiry_unheld (by simp [held])]
  | some x =>
    cases hold : x.hold with
    | none => rwa [holdExpiry_unheld (by simp [held, hold])]
    | some d =>
      obtain ⟨-, here, others⟩ := holdExpiry_held held hold
      refine ⟨fun c y after => ?_⟩
      by_cases at_ : c = b
      · subst at_
        cases here.symm.trans after
        exact limitInRange_congr (x := x) rfl (h.fit c x held)
      · obtain ⟨z, before, rfl⟩ := Option.map_eq_some_iff.1 ((others c at_).symm.trans after)
        exact limitInRange_congr (same _ z) (h.fit c z before)

theorem limitsFit_jobStart {s : State} (h : LimitsFit s) : LimitsFit (jobStart s) := by
  unfold jobStart
  repeat' split
  all_goals try exact h
  next b _ _ x held =>
    have running : ∀ started, LimitsFit (runBox b x started s) := fun _ => h.setBox_same held rfl
    unfold startBox
    repeat' split
    · exact (running true).of_same rfl
    · exact (running false).endBox ..
    · exact h
    · exact h
    · exact (running true).of_same rfl
    · exact (running true).of_same rfl
    · exact (running false).endBox ..

theorem limitsFit_passWritten {s : State} (b : Fin 16) (x : Box) (a : PassArgs) (w : PassWork) (next : Option TileNo)
    (h : LimitsFit s) : LimitsFit (passWritten b x a w next s) := by
  unfold passWritten completePass endPassEarly
  dsimp only
  repeat' split
  · refine LimitsFit.endRunning ?_ ..
    exact h.of_same rfl
  · refine LimitsFit.endRunning ?_ ..
    exact h.of_same rfl
  · exact h.of_same rfl

theorem limitsFit_passTileOperation {s : State} (h : LimitsFit s) : LimitsFit (passTileOperation s) := by
  unfold passTileOperation
  repeat' split
  next b w _ _ _ _ x sh held _ _ a _ =>
    have jobs : (readTileAt w.next (grantJob s)).1.jobs = s.jobs := by simp
    unfold passTile
    revert jobs
    generalize readTileAt w.next (grantJob s) = r
    obtain ⟨u, o⟩ := r
    intro jobs
    have after : LimitsFit u := h.of_same (by rw [show u.jobs = s.jobs from jobs])
    have written : ∀ way old lost, LimitsFit (writePassTile b x a sh w way old lost u) := fun way old lost => by
      unfold writePassTile
      refine limitsFit_passWritten _ _ _ _ _ ?_
      refine LimitsFit.setBox_same (x := x) (after.of_same (by simp)) ?_ rfl
      exact (boxAt_congr (by simp [show u.jobs = s.jobs from jobs]) b).trans held
    cases o with
    | values way v => exact written ..
    | faulty way => exact written ..
    | waits p =>
      dsimp only
      split
      · refine LimitsFit.endRunning ?_ ..
        exact after.of_same rfl
      · exact after.of_same rfl
    | refused worn =>
      refine LimitsFit.endRunning ?_ ..
      exact after.of_same rfl
  all_goals exact h

theorem limitsFit_clearTileOperation {s : State} (h : LimitsFit s) : LimitsFit (clearTileOperation s) := by
  unfold clearTileOperation
  repeat' split
  next b t _ _ _ x held =>
    have jobs : (writeTileAt t (Vector.replicate 32 0) (grantJob s)).1.jobs = s.jobs := by simp
    unfold clearTile
    revert jobs
    generalize writeTileAt t (Vector.replicate 32 0) (grantJob s) = r
    obtain ⟨u, o⟩ := r
    intro jobs
    have after : LimitsFit u := h.of_same (by rw [show u.jobs = s.jobs from jobs])
    cases o with
    | written =>
      have counted : LimitsFit (setBox b (some { x with progress := x.progress + 1 })
          (rise (.station x.owner) .tiles 1 u)) := by
        refine LimitsFit.setBox_same (x := x) (after.of_same (by simp)) ?_ rfl
        exact (boxAt_congr (by simp [show u.jobs = s.jobs from jobs]) b).trans held
      unfold clearWritten completeClear endClearEarly
      dsimp only
      repeat' split
      · exact counted.endRunning ..
      · exact counted.of_same rfl
      · refine LimitsFit.endRunning ?_ ..
        exact counted.of_same rfl
    | waits p =>
      dsimp only
      split
      · exact after.endRunning ..
      · exact after.of_same rfl
    | refused worn => exact after.endRunning ..
  all_goals exact h

theorem LimitsFit.failCommit {s : State} (h : LimitsFit s) (b : Fin 16) (w : CommitWork) (r : Reason) (c : Option Bool) :
    LimitsFit (failCommit b w r c s) :=
  LimitsFit.endRunning (s := setHeader { s.mfc.header with committed := false } s) (h.of_same rfl) ..

theorem limitsFit_nextCopyOut {s : State} (b : Fin 16) (w : CommitWork) (t : TileNo) (h : LimitsFit s) :
    LimitsFit (nextCopyOut b w t s) :=
  h.of_same (by simp)

theorem limitsFit_commitCopyOut {s : State} (h : LimitsFit s) : LimitsFit (commitCopyOut s) := by
  have granted : LimitsFit (grantJob s) := h.of_same rfl
  unfold commitCopyOut copyOutTile copyOutDirty
  repeat' split
  · exact limitsFit_nextCopyOut _ _ _ granted
  · exact granted.failCommit ..
  · exact granted.of_same rfl
  next b w _ _ _ t _ _ way _ _ _ v c _ _ =>
    refine limitsFit_nextCopyOut _ _ _ ?_
    refine LimitsFit.setBox (granted.of_same rfl) fun y e => ?_
    obtain ⟨x, held, rfl⟩ := Option.map_eq_some_iff.1 e
    exact limitInRange_congr (x := x) rfl (h.fit b x held)
  · exact limitsFit_nextCopyOut _ _ _ granted
  all_goals exact h

theorem limitsFit_wornCommit {s : State} (h : LimitsFit s) : LimitsFit (wornCommit s) := by
  unfold wornCommit
  split
  · exact LimitsFit.failCommit (s := withdrawHeader s) (h.of_same rfl) ..
  · exact h

theorem limitsFit_tileProgramComplete {s : State} (v : Bool) (h : LimitsFit s) : LimitsFit (tileProgramComplete v s) := by
  unfold tileProgramComplete tileVerified tileFailed enterWorn
  dsimp only
  repeat' split
  · exact h.of_same (by simp)
  · exact h.of_same (by simp)
  · exact limitsFit_wornCommit (h.of_same (by simp))
  · exact h

theorem limitsFit_commitDrainDone {s : State} (h : LimitsFit s) : LimitsFit (commitDrainDone s) := by
  unfold commitDrainDone endDrain
  repeat' split
  · exact h.failCommit ..
  · exact h.of_same rfl
  all_goals exact h

theorem limitsFit_commitHeaderComplete {s : State} (v : Bool) (h : LimitsFit s) :
    LimitsFit (commitHeaderComplete v s) := by
  unfold commitHeaderComplete
  split
  next r _ _ =>
    dsimp only
    split
    · cases v with
      | true => exact LimitsFit.endRunning (s := setHeader _ _) (h.of_same (by simp)) ..
      | false => exact LimitsFit.failCommit (h.of_same (by simp)) ..
    · exact h.of_same (by simp)
  · exact h

/-! ## Every command -/

theorem limitsFit_serve {f : Request → State → State} {k : Kind} {m : Master} {s : State}
    (answer : ∀ req s, LimitsFit s → LimitsFit (f req s)) (h : LimitsFit s) : LimitsFit (serve k m f s) :=
  serve_keeps (fun _ _ h => h.of_same rfl) answer k m h

theorem limitsFit_effect (c : Instr) (s : State) (h : LimitsFit s) : LimitsFit (effect c s) := by
  cases c with
  | powerOn | resetAssert =>
    refine ⟨fun b x held => ?_⟩
    simp [boxAt, resetPart, State.reset, Jobs.reset] at held
  | submitJob m => exact limitsFit_serve (fun req _ => limitsFit_submitJob req) h
  | readBox m => exact limitsFit_serve (fun req _ => limitsFit_readBox req) h
  | holdBox m => exact limitsFit_serve (fun req _ => limitsFit_holdBox req) h
  | editBox m => exact limitsFit_serve (fun req _ => limitsFit_editBox req) h
  | releaseBox m => exact limitsFit_serve (fun req _ => limitsFit_releaseBox req) h
  | cancelJob m => exact limitsFit_serve (fun req _ => limitsFit_cancelJob req) h
  | freeBox m => exact limitsFit_serve (fun req _ => limitsFit_freeBox req) h
  | holdExpiry b => exact limitsFit_holdExpiry b h
  | jobStart => exact limitsFit_jobStart h
  | passTileOperation => exact limitsFit_passTileOperation h
  | clearTileOperation => exact limitsFit_clearTileOperation h
  | commitCopyOut => exact limitsFit_commitCopyOut h
  | tileProgramComplete v => exact limitsFit_tileProgramComplete v h
  | commitDrainDone => exact limitsFit_commitDrainDone h
  | commitHeaderComplete v => exact limitsFit_commitHeaderComplete v h
  | openCapture m | putRow m | discardCapture m | captureState m | readTile m | writeTile m | lockWays m | drain m
  | panelHello m | fetchRun m | readNotices m | nextStale m | readProfile m | loadKey m | fixKey m | eraseKey m
  | checkKey m | releaseKey m | readRegion m | readLabel m | writeRegion m | writeLabel m | stageQuery m | closeSet m
  | reopenSet m | linkResume m | ackEvents m | setEventMask m | readCounters m | clearCounters m | writeConfig m =>
    exact limitsFit_serve (fun req s h => h.of_same (by simp)) h
  | resetRelease | startupConfigRead | spareScan | headerLoad | keyHomeLoad | regionLabelLoad | stageLoad
  | panelRequestTransaction | panelReplyTransaction | panelStatusTransaction | systemRequestTransaction
  | systemReplyTransaction | systemStatusTransaction | requestFrame | idleMark | badFrame | frameGapTimeout
  | droppingIdleEnd | replyFrameStart | replyFrameSent | fixtureBreak | syncCharacterReceived | readTileAccess
  | writeTileAccess | panelSnapshot | fillInstall | drainReply | storageFault | flashGrant | fillReadComplete
  | uncommitProgramComplete | headerCheckReadComplete | keyFixComplete | keyEraseComplete | recordWriteComplete
  | closeProgramComplete | reopenProgramComplete | configProgramComplete =>
    exact h.of_same (by simp)

theorem accessFits_serve {f : Request → State → State} {k : Kind} {m : Master} {s : State}
    (answer : ∀ req s, AccessFits s.tlc.access → AccessFits (f req s).tlc.access) (h : AccessFits s.tlc.access) :
    AccessFits (serve k m f s).tlc.access :=
  serve_keeps (P := fun s => AccessFits s.tlc.access) (fun _ _ h => h) answer k m h

theorem accessFits_effect (c : Instr) (s : State) (h : AccessFits s.tlc.access) : AccessFits (effect c s).tlc.access := by
  cases c with
  | powerOn | resetAssert =>
    intro o mem
    cases mem
  | readTile m => exact accessFits_serve (fun req _ => accessFits_readTile req) h
  | writeTile m => exact accessFits_serve (fun req _ => accessFits_writeTile req) h
  | lockWays m => exact accessFits_serve (fun req _ => accessFits_lockWays req) h
  | readTileAccess => exact accessFits_readTileAccess h
  | writeTileAccess => exact accessFits_writeTileAccess h
  | fillInstall => exact accessFits_fillInstall h
  | tileProgramComplete v => exact accessFits_tileProgramComplete v h
  | openCapture m | putRow m | discardCapture m | captureState m | submitJob m | readBox m | holdBox m | editBox m
  | releaseBox m | cancelJob m | freeBox m | drain m | panelHello m | fetchRun m | readNotices m | nextStale m
  | readProfile m | loadKey m | fixKey m | eraseKey m | checkKey m | releaseKey m | readRegion m | readLabel m
  | writeRegion m | writeLabel m | stageQuery m | closeSet m | reopenSet m | linkResume m | ackEvents m
  | setEventMask m | readCounters m | clearCounters m | writeConfig m =>
    exact accessFits_serve (by simp) h
  | resetRelease | startupConfigRead | spareScan | headerLoad | keyHomeLoad | regionLabelLoad | stageLoad
  | panelRequestTransaction | panelReplyTransaction | panelStatusTransaction | systemRequestTransaction
  | systemReplyTransaction | systemStatusTransaction | requestFrame | idleMark | badFrame | frameGapTimeout
  | droppingIdleEnd | replyFrameStart | replyFrameSent | fixtureBreak | syncCharacterReceived | holdExpiry | jobStart
  | passTileOperation | clearTileOperation | commitCopyOut | panelSnapshot | drainReply | storageFault | flashGrant
  | fillReadComplete | uncommitProgramComplete | headerCheckReadComplete | commitDrainDone | commitHeaderComplete
  | keyFixComplete | keyEraseComplete | recordWriteComplete | closeProgramComplete | reopenProgramComplete
  | configProgramComplete =>
    simpa using h

theorem homesInRange_serve {f : Request → State → State} {k : Kind} {m : Master} {s : State}
    (answer : ∀ req s, (f req s).homes = s.homes) (h : HomesInRange s.homes) : HomesInRange (serve k m f s).homes := by
  rwa [serve_same (fun s => s.homes) (fun _ _ => rfl) answer k m s]

theorem HomesInRange.of_same {g h : Homes} (fit : HomesInRange h) (tile : g.tile = h.tile) (spare : g.spare = h.spare) :
    HomesInRange g :=
  ⟨by simpa only [tile] using fit.tile, by simpa only [spare] using fit.spare⟩

theorem homesInRange_effect (c : Instr) (s : State) (flash : flashInRange s.mfc.flash) (h : HomesInRange s.homes) :
    HomesInRange (effect c s).homes := by
  cases c with
  | powerOn | resetAssert => exact homesInRange_interruptedHomes s.mfc h
  | tileProgramComplete v => exact homesInRange_tileProgramComplete v flash h
  | openCapture m | putRow m | discardCapture m | captureState m | submitJob m | readBox m | holdBox m | editBox m
  | releaseBox m | cancelJob m | freeBox m | readTile m | writeTile m | lockWays m | drain m | panelHello m
  | fetchRun m | readNotices m | nextStale m | readProfile m | loadKey m | fixKey m | eraseKey m | checkKey m
  | releaseKey m | readRegion m | readLabel m | writeRegion m | writeLabel m | stageQuery m | closeSet m | reopenSet m
  | linkResume m | ackEvents m | setEventMask m | readCounters m | clearCounters m | writeConfig m =>
    exact homesInRange_serve (by simp) h
  | resetRelease | startupConfigRead | spareScan | headerLoad | keyHomeLoad | regionLabelLoad | stageLoad
  | panelRequestTransaction | panelReplyTransaction | panelStatusTransaction | systemRequestTransaction
  | systemReplyTransaction | systemStatusTransaction | requestFrame | idleMark | badFrame | frameGapTimeout
  | droppingIdleEnd | replyFrameStart | replyFrameSent | fixtureBreak | syncCharacterReceived | holdExpiry | jobStart
  | passTileOperation | clearTileOperation | commitCopyOut | readTileAccess | writeTileAccess | panelSnapshot
  | fillInstall | drainReply | storageFault | flashGrant | fillReadComplete | uncommitProgramComplete
  | headerCheckReadComplete | commitDrainDone | commitHeaderComplete | keyFixComplete | keyEraseComplete
  | recordWriteComplete | closeProgramComplete | reopenProgramComplete | configProgramComplete =>
    exact h.of_same (by simp) (by simp)

theorem cacheInRange_serve {f : Request → State → State} {k : Kind} {m : Master} {s : State}
    (answer : ∀ req s, (f req s).tlc.sets = s.tlc.sets ∧ (f req s).tlc.queue = s.tlc.queue ∧
      (f req s).tlc.fills = s.tlc.fills) (h : CacheInRange s) : CacheInRange (serve k m f s) :=
  serve_keeps (fun _ _ h => h.congr (fun _ _ => rfl) rfl rfl)
    (fun req s h => h.congr (entryAt_congr (answer req s).1) (answer req s).2.1 (answer req s).2.2) k m h

theorem cacheInRange_effect (c : Instr) (s : State) (limits : LimitsFit s) (access : AccessFits s.tlc.access)
    (homes : HomesInRange s.homes) (h : CacheInRange s) : CacheInRange (effect c s) := by
  cases c with
  | powerOn | resetAssert =>
    refine ⟨fun i w e entry => ?_, fun c mem => ?_, fun f mem => ?_⟩
    · simp [entryAt, resetPart, State.reset, Tlc.reset] at entry
    · cases mem
    · cases mem
  | readTileAccess => exact cacheInRange_kept.readTileAccess h
  | writeTileAccess =>
    refine cacheInRange_kept.writeTileAccess h fun o v n grant kind => ?_
    simpa [accessInRange, kind] using access o (mem_access_of_nextGrant grant)
  | panelSnapshot => exact cacheInRange_kept.panelSnapshot h
  | clearTileOperation => exact cacheInRange_kept.clearTileOperation h inRange_zeros
  | passTileOperation =>
    refine cacheInRange_kept.passTileOperation h fun b x a i t old held args same => ?_
    have limit := limits.fit b x held
    rw [limitInRange, args] at limit
    exact inRange_newValues (same ▸ limit) t old
  | commitCopyOut => exact cacheInRange_commitCopyOut h
  | fillInstall => exact cacheInRange_fillInstall h
  | storageFault place changes => exact cacheInRange_storageFault place changes h
  | fillReadComplete => exact cacheInRange_fillReadComplete homes.tile homes.spare h
  | tileProgramComplete v => exact cacheInRange_tileProgramComplete v h
  | openCapture m | putRow m | discardCapture m | captureState m | submitJob m | readBox m | holdBox m | editBox m
  | releaseBox m | cancelJob m | freeBox m | readTile m | writeTile m | lockWays m | drain m | panelHello m
  | fetchRun m | readNotices m | nextStale m | readProfile m | loadKey m | fixKey m | eraseKey m | checkKey m
  | releaseKey m | readRegion m | readLabel m | writeRegion m | writeLabel m | stageQuery m | closeSet m | reopenSet m
  | linkResume m | ackEvents m | setEventMask m | readCounters m | clearCounters m | writeConfig m =>
    exact cacheInRange_serve (by simp) h
  | resetRelease | startupConfigRead | spareScan | headerLoad | keyHomeLoad | regionLabelLoad | stageLoad
  | panelRequestTransaction | panelReplyTransaction | panelStatusTransaction | systemRequestTransaction
  | systemReplyTransaction | systemStatusTransaction | requestFrame | idleMark | badFrame | frameGapTimeout
  | droppingIdleEnd | replyFrameStart | replyFrameSent | fixtureBreak | syncCharacterReceived | holdExpiry | jobStart
  | drainReply | flashGrant | uncommitProgramComplete | headerCheckReadComplete | commitDrainDone
  | commitHeaderComplete | keyFixComplete | keyEraseComplete | recordWriteComplete | closeProgramComplete
  | reopenProgramComplete | configProgramComplete =>
    exact h.congr (entryAt_congr (by simp)) (by simp) (by simp)

/-- Settles O8: every command keeps the values in range, part by part. -/
theorem mapValuesStayInRange : Obligations.MapValuesStayInRange := by
  refine step_keeps (P := ValuesSound) (fun _ _ h => h) (fun _ _ h => h) fun c s h => ?_
  obtain ⟨entries, queue, fills, access, tile, spare, flash, limits⟩ := h
  have homes := homesInRange_effect c s flash ⟨tile, spare⟩
  have cache := cacheInRange_effect c s ⟨limits⟩ access ⟨tile, spare⟩ ⟨entries, queue, fills⟩
  exact ⟨cache.entries, cache.queue, cache.fills, accessFits_effect c s access, homes.tile, homes.spare,
    flashInRange_effect c s queue flash, (limitsFit_effect c s ⟨limits⟩).fit⟩

end Sys2Proof.Proofs.MapValues
end

section
/-! The closed set (R158): in stage CLOSED, and while a close is in flight, every required key slot is FIXED with no program
pending and the region and label records are committed. A record program that is inside the part is named by what it
programs. -/

namespace Sys2Proof.Proofs.ClosedSet

open Sys2Proof Sys2Proof.Machine Sys2Proof.Proofs.Frames Sys2Proof.Proofs.Steps Sys2Proof.Proofs.Startup
  Sys2Proof.Proofs.FlashPrograms

/-! ## The programs inside the part -/

/-- The slots that the record programs inside the part program. -/
def keyPrograms (s : State) : List (Fin 12) :=
  (recordPrograms s).filterMap slotOfProgram

/-- The stage programs inside the part. -/
def stagePrograms (s : State) : List StageProgram :=
  (recordPrograms s).filterMap stageOfProgram

/-- The set is CLOSED, or a close is in flight. -/
def Sealed (s : State) : Prop :=
  s.srb.stage.stage = .closed ∨ s.srb.stage.program = .closing

/-- The three items that a closed set keeps. -/
structure Complete (s : State) : Prop where
  keys : keysPresent s = true
  region : regionPresent s = true
  label : labelPresent s = true

/-- What the invariant says beside the quiet of start-up. -/
structure Closes (s : State) : Prop where
  keysOnce : (keyPrograms s).Nodup
  keysPending : ∀ k ∈ keyPrograms s, (slotAt k s).pending = true
  stageOnce : (stagePrograms s).length ≤ 1
  stageNamed : ∀ p ∈ stagePrograms s, s.srb.stage.program = p
  items : Sealed s → Complete s

theorem closedSound_iff (s : State) : ClosedSound s ↔ StartupQuiet s ∧ Closes s := by
  constructor
  · rintro ⟨quiet, ⟨once, pending⟩, ⟨one, named⟩, items⟩
    refine ⟨quiet, once, pending, one, named, fun sealed_ => ?_⟩
    obtain ⟨keys, region, label⟩ := items sealed_
    exact ⟨keys, region, label⟩
  · rintro ⟨quiet, once, pending, one, named, items⟩
    exact ⟨quiet, ⟨once, pending⟩, ⟨one, named⟩, fun sealed_ =>
      ⟨(items sealed_).keys, (items sealed_).region, (items sealed_).label⟩⟩

theorem keysPresent_iff (s : State) :
    keysPresent s = true ↔ ∀ k : Fin 12, s.config.required.getLsbD k.val = true → slotCounts (slotAt k s) = true := by
  simp [keysPresent, missingSlots, List.filter_eq_nil_iff]

theorem slotAt_congr {s t : State} (same : t.srb.keys = s.srb.keys) (k : Fin 12) : slotAt k t = slotAt k s := by
  simp [slotAt, same]

theorem not_counts_of_pending {x : KeySlot} (h : x.pending = true) : slotCounts x = false := by
  unfold slotCounts
  split <;> simp [h]

/-- A stage check that admits lines holds the set open (R161, R165). -/
theorem not_sealed_of_lineStage {s : State} (h : stageAdmits lineStage s = true) : ¬Sealed s := by
  rintro (closed | closing)
  · simp [stageAdmits, closed, lineStage] at h
  · simp [stageAdmits, closing, lineStage] at h

theorem not_sealed_of_openStage {s : State} (h : stageAdmits openStage s = true) : ¬Sealed s := by
  rintro (closed | closing)
  · simp [stageAdmits, closed, openStage] at h
  · simp [stageAdmits, closing, openStage] at h

/-! ## Moves -/

/-- What the items depend on. -/
structure SameItems (s t : State) : Prop where
  keys : t.srb.keys = s.srb.keys
  stage : t.srb.stage = s.srb.stage
  required : t.config.required = s.config.required
  region : t.srb.region.committed = s.srb.region.committed
  label : t.srb.label.committed = s.srb.label.committed

theorem SameItems.complete {s t : State} (same : SameItems s t) (h : Complete s) : Complete t := by
  obtain ⟨keys, region, label⟩ := h
  refine ⟨?_, same.region.trans region, same.label.trans label⟩
  rw [keysPresent_iff] at keys ⊢
  simpa only [slotAt_congr same.keys, same.required] using keys

theorem SameItems.sealed_ {s t : State} (same : SameItems s t) : Sealed t ↔ Sealed s := by
  simp only [Sealed, same.stage]

/-- Nothing but programs moves, and none comes in that names a slot or is a stage program. -/
theorem Closes.of_same {s t : State} (h : Closes s) (same : SameItems s t)
    (keys : (keyPrograms t).Sublist (keyPrograms s)) (stages : (stagePrograms t).Sublist (stagePrograms s)) : Closes t := by
  refine ⟨h.keysOnce.sublist keys, fun k mem => ?_, stages.length_le.trans h.stageOnce, fun p mem => ?_, fun sealed_ => ?_⟩
  · rw [slotAt_congr same.keys]
    exact h.keysPending k (keys.subset mem)
  · rw [same.stage]
    exact h.stageNamed p (stages.subset mem)
  · exact same.complete (h.items (same.sealed_.1 sealed_))

/-- A slot whose program is pending changes as its program leaves the part. -/
theorem Closes.of_slot {s t : State} {k : Fin 12} (h : Closes s) (pending : (slotAt k s).pending = true)
    (others : ∀ j, j ≠ k → slotAt j t = slotAt j s) (stage : t.srb.stage = s.srb.stage) (config : t.config = s.config)
    (region : t.srb.region = s.srb.region) (label : t.srb.label = s.srb.label)
    (keys : (keyPrograms t).Sublist (keyPrograms s)) (gone : k ∉ keyPrograms t)
    (stages : (stagePrograms t).Sublist (stagePrograms s)) : Closes t := by
  refine ⟨h.keysOnce.sublist keys, fun j mem => ?_, stages.length_le.trans h.stageOnce, fun p mem => ?_, fun sealed_ => ?_⟩
  · rw [others j fun e => gone (e ▸ mem)]
    exact h.keysPending j (keys.subset mem)
  · rw [stage]
    exact h.stageNamed p (stages.subset mem)
  · obtain ⟨present, regionPresent, labelPresent⟩ := h.items (by simpa only [Sealed, stage] using sealed_)
    refine ⟨?_, by rw [Machine.regionPresent, region]; exact regionPresent,
      by rw [Machine.labelPresent, label]; exact labelPresent⟩
    rw [keysPresent_iff] at present ⊢
    rw [config]
    intro j required
    by_cases here : j = k
    · subst here
      have counts := present j required
      rw [not_counts_of_pending pending] at counts
      cases counts
    · rw [others j here]
      exact present j required

/-- A slot changes while the set is not sealed; its pending flag does not fall, and no program leaves or comes. -/
theorem Closes.of_unsealed {s t : State} (h : Closes s) (keys : keyPrograms t = keyPrograms s)
    (stages : stagePrograms t = stagePrograms s) (pending : ∀ j, (slotAt j s).pending = true → (slotAt j t).pending = true)
    (stage : t.srb.stage = s.srb.stage) (unsealed : ¬Sealed s) : Closes t := by
  refine ⟨keys ▸ h.keysOnce, fun k mem => pending k (h.keysPending k (keys ▸ mem)), stages ▸ h.stageOnce, fun p mem => ?_,
    fun sealed_ => absurd (by simpa only [Sealed, stage] using sealed_) unsealed⟩
  rw [stage]
  exact h.stageNamed p (stages ▸ mem)

/-! ## Presenting -/

theorem recordPrograms_congr {s t : State} (flash : t.mfc.flash = s.mfc.flash) (programs : t.mfc.programs = s.mfc.programs) :
    recordPrograms t = recordPrograms s := by
  unfold recordPrograms
  rw [flash, programs]

theorem recordPrograms_present (p : RecordProgram) (s : State) :
    recordPrograms (presentProgram p s) = recordPrograms s ++ [p] := by
  simp only [recordPrograms, presentProgram, State.setMfc_mfc]
  split <;> simp

/-- A record program is presented in a state with the programs of another. -/
theorem recordPrograms_presented {s u : State} (p : RecordProgram) (flash : u.mfc.flash = s.mfc.flash)
    (programs : u.mfc.programs = s.mfc.programs) : recordPrograms (presentProgram p u) = recordPrograms s ++ [p] := by
  rw [recordPrograms_present, recordPrograms_congr flash programs]

/-- A presented program that names no slot and is no stage program adds nothing. -/
theorem Closes.present {s u : State} {p : RecordProgram} (h : Closes s) (same : SameItems s u)
    (flash : u.mfc.flash = s.mfc.flash) (programs : u.mfc.programs = s.mfc.programs) (noSlot : slotOfProgram p = none)
    (noStage : stageOfProgram p = none) : Closes (presentProgram p u) := by
  have presented := recordPrograms_presented p flash programs
  refine h.of_same (t := presentProgram p u) ⟨same.keys, same.stage, same.required, same.region, same.label⟩ ?_ ?_
  · simp [keyPrograms, presented, noSlot]
  · simp [stagePrograms, presented, noStage]

/-- A program of a slot without one is presented, and sets the slot's program pending. -/
theorem Closes.presentKey {s : State} {k : Fin 12} {p : RecordProgram} (h : Closes s) (idle : (slotAt k s).pending = false)
    (unsealed : ¬Sealed s) (slot : slotOfProgram p = some k) (noStage : stageOfProgram p = none) :
    Closes (presentProgram p (setSlot k { slotAt k s with pending := true } s)) := by
  have presented := recordPrograms_presented (s := s) (u := setSlot k { slotAt k s with pending := true } s) p rfl rfl
  have keys : keyPrograms (presentProgram p (setSlot k { slotAt k s with pending := true } s)) = keyPrograms s ++ [k] := by
    simp [keyPrograms, presented, slot]
  have stages : stagePrograms (presentProgram p (setSlot k { slotAt k s with pending := true } s)) = stagePrograms s := by
    simp [stagePrograms, presented, noStage]
  have free : k ∉ keyPrograms s := fun mem => by
    rw [h.keysPending k mem] at idle
    cases idle
  refine ⟨?_, fun j mem => ?_, stages ▸ h.stageOnce, fun q mem => h.stageNamed q (stages ▸ mem),
    fun sealed_ => absurd sealed_ unsealed⟩
  · rw [keys]
    exact List.nodup_append.2 ⟨h.keysOnce, List.nodup_singleton k, fun j mem i one e => free (by rwa [← List.mem_singleton.1 one, ← e])⟩
  · have here := slotAt_setSlot j k { slotAt k s with pending := true } s
    change (slotAt j (setSlot k { slotAt k s with pending := true } s)).pending = true
    rw [here]
    split
    · rfl
    next other =>
      rw [keys] at mem
      rcases List.mem_append.1 mem with old | new
      · exact h.keysPending j old
      · exact absurd (List.mem_singleton.1 new) other

/-! ## Requests -/

theorem closes_reply {s : State} (req : Request) (st : Status) (body : ReplyBody) (h : Closes s) :
    Closes (reply req st body s) := by
  have programs : recordPrograms (reply req st body s) = recordPrograms s := recordPrograms_congr (by simp) (by simp)
  exact h.of_same (by constructor <;> simp) (by simp [keyPrograms, programs]) (by simp [stagePrograms, programs])

theorem closes_refuse {s : State} (req : Request) (st : Status) (h : Closes s) : Closes (refuse req st s) :=
  closes_reply req st .empty h

theorem keyDoor_ok {req : Request} {slot : Option (Fin 12)} {s : State} {k : Fin 12} (h : keyDoor req slot s = .ok k) :
    stageAdmits lineStage s = true ∧ (slotAt k s).pending = false := by
  unfold keyDoor at h
  repeat' split at h
  all_goals cases h
  simp_all

/-- A slot changes its state alone, with the set unsealed. -/
theorem closes_setSlot_state {s : State} {k : Fin 12} (x : SlotState) (h : Closes s) (unsealed : ¬Sealed s) :
    Closes (setSlot k { slotAt k s with state := x } s) := by
  refine h.of_unsealed rfl rfl (fun j pending => ?_) rfl unsealed
  rw [slotAt_setSlot]
  split
  next here => exact here ▸ pending
  · exact pending

theorem closes_loadKey (req : Request) {s : State} (h : Closes s) : Closes (loadKey req s) := by
  unfold loadKey
  repeat' split
  all_goals try exact closes_refuse req _ h
  next door _ _ _ _ _ _ _ _ _ =>
    exact closes_reply _ _ _ (closes_setSlot_state _ h (not_sealed_of_lineStage (keyDoor_ok door).1))

theorem closes_fixKey (req : Request) {s : State} (h : Closes s) : Closes (fixKey req s) := by
  unfold fixKey
  repeat' split
  all_goals try exact closes_refuse req _ h
  next door _ _ _ _ =>
    obtain ⟨line, idle⟩ := keyDoor_ok door
    exact h.presentKey idle (not_sealed_of_lineStage line) rfl rfl

theorem closes_eraseKey (req : Request) {s : State} (h : Closes s) : Closes (eraseKey req s) := by
  unfold eraseKey
  repeat' split
  all_goals try exact closes_refuse req _ h
  next door _ _ _ _ =>
    exact closes_reply _ _ _ (closes_setSlot_state _ h (not_sealed_of_lineStage (keyDoor_ok door).1))
  next door _ _ _ _ =>
    obtain ⟨line, idle⟩ := keyDoor_ok door
    exact h.presentKey idle (not_sealed_of_lineStage line) rfl rfl

theorem closes_writeRegion (req : Request) {s : State} (h : Closes s) : Closes (writeRegion req s) := by
  unfold writeRegion
  dsimp only
  repeat' split
  all_goals try exact closes_refuse req _ h
  · have kept : SameItems s (setReservation req.master none s) := by constructor <;> simp
    have programs : recordPrograms (setReservation req.master none s) = recordPrograms s :=
      recordPrograms_congr (by simp) (by simp)
    exact closes_refuse req _ (h.of_same kept (by simp [keyPrograms, programs]) (by simp [stagePrograms, programs]))
  · exact h.present ⟨rfl, rfl, rfl, rfl, rfl⟩ rfl rfl rfl rfl

theorem closes_writeLabel (req : Request) {s : State} (h : Closes s) : Closes (writeLabel req s) := by
  unfold writeLabel
  dsimp only
  repeat' split
  all_goals try exact closes_refuse req _ h
  · have kept : SameItems s (setReservation req.master none s) := by constructor <;> simp
    have programs : recordPrograms (setReservation req.master none s) = recordPrograms s :=
      recordPrograms_congr (by simp) (by simp)
    exact closes_refuse req _ (h.of_same kept (by simp [keyPrograms, programs]) (by simp [stagePrograms, programs]))
  · exact h.present ⟨rfl, rfl, rfl, rfl, rfl⟩ rfl rfl rfl rfl

/-- With no item missing the three items that a closed set keeps are there (R157, R159). -/
theorem complete_of_missingItems {s : State} (h : (missingItems s).isEmpty = true) : Complete s := by
  simp only [missingItems, List.isEmpty_iff, List.append_eq_nil_iff, ite_eq_left_iff, List.cons_ne_nil, imp_false,
    not_not] at h
  obtain ⟨⟨⟨-, keys⟩, region⟩, label⟩ := h
  exact ⟨keys, region, label⟩

/-- With no stage program recorded none is inside the part. -/
theorem Closes.no_stageProgram {s : State} (h : Closes s) (none : s.srb.stage.program = .none) : stagePrograms s = [] := by
  refine List.eq_nil_iff_forall_not_mem.2 fun p mem => ?_
  have named := h.stageNamed p mem
  rw [none] at named
  subst named
  obtain ⟨q, -, e⟩ := List.mem_filterMap.1 mem
  cases q <;> cases e

/-- A stage program is presented with no other inside the part, and the stage record names it. -/
theorem Closes.presentStage {s : State} {p : RecordProgram} {q : StageProgram} (h : Closes s)
    (none : s.srb.stage.program = .none) (noSlot : slotOfProgram p = Option.none) (stage : stageOfProgram p = some q)
    (items : s.srb.stage.stage = .closed ∨ q = .closing → Complete s) :
    Closes (presentProgram p (setStage { s.srb.stage with program := q } s)) := by
  have presented := recordPrograms_presented (s := s) (u := setStage { s.srb.stage with program := q } s) p rfl rfl
  have keys : keyPrograms (presentProgram p (setStage { s.srb.stage with program := q } s)) = keyPrograms s := by
    simp [keyPrograms, presented, noSlot]
  have stages : stagePrograms (presentProgram p (setStage { s.srb.stage with program := q } s)) = [q] := by
    have empty : (recordPrograms s).filterMap stageOfProgram = [] := h.no_stageProgram none
    simp [stagePrograms, presented, stage, empty]
  refine ⟨keys ▸ h.keysOnce, fun k mem => h.keysPending k (keys ▸ mem), by simp [stages], fun r mem => ?_,
    fun sealed_ => ?_⟩
  · rw [stages] at mem
    exact (List.mem_singleton.1 mem).symm
  · obtain ⟨present, region, label⟩ := items sealed_
    exact ⟨present, region, label⟩

theorem closes_closeSet (req : Request) {s : State} (h : Closes s) : Closes (closeSet req s) := by
  unfold closeSet
  repeat' split
  all_goals try exact closes_refuse req _ h
  next none _ complete =>
    exact h.presentStage (not_not.1 none) rfl rfl fun _ => complete_of_missingItems complete
  · exact closes_reply req _ _ h

theorem closes_reopenSet (req : Request) {s : State} (h : Closes s) : Closes (reopenSet req s) := by
  unfold reopenSet
  repeat' split
  all_goals try exact closes_refuse req _ h
  next none _ =>
    refine h.presentStage (not_not.1 none) rfl rfl fun sealed_ => ?_
    rcases sealed_ with closed | closing
    · exact h.items (.inl closed)
    · cases closing

theorem closes_writeConfig (req : Request) {s : State} (h : Closes s) : Closes (writeConfig req s) := by
  unfold writeConfig
  repeat' split
  all_goals try exact closes_refuse req _ h
  next open_ _ c _ =>
    have unsealed := not_sealed_of_openStage (s := s) (by simpa using open_)
    have presented := recordPrograms_presented (s := s) (u := s.setConfig c) (.config req c) rfl rfl
    refine h.of_unsealed ?_ ?_ (fun _ pending => pending) rfl unsealed
    · simp [keyPrograms, presented, slotOfProgram]
    · simp [stagePrograms, presented, stageOfProgram]

/-! ## Completions -/

/-- A record program completes: it leaves the part, and with it the last one of its slot or the last stage program. -/
theorem Closes.completed {s t : State} {p : RecordProgram} {seq : BitVec 32} (h : Closes s)
    (flash : s.mfc.flash = .programming (.record p) seq) (idle : t.mfc.flash = .idle)
    (programs : t.mfc.programs = s.mfc.programs) :
    (keyPrograms t).Sublist (keyPrograms s) ∧ (stagePrograms t).Sublist (stagePrograms s) ∧
      (∀ k, slotOfProgram p = some k → (slotAt k s).pending = true ∧ k ∉ keyPrograms t) ∧
      ∀ q, stageOfProgram p = some q → s.srb.stage.program = q ∧ stagePrograms t = [] := by
  have before : recordPrograms s = p :: s.mfc.programs := by simp [recordPrograms, flash]
  have after : recordPrograms t = s.mfc.programs := by simp [recordPrograms, idle, programs]
  have keysOf : keyPrograms t = s.mfc.programs.filterMap slotOfProgram := by rw [keyPrograms, after]
  have stagesOf : stagePrograms t = s.mfc.programs.filterMap stageOfProgram := by rw [stagePrograms, after]
  refine ⟨?_, ?_, fun k slot => ?_, fun q stage => ?_⟩
  · rw [keysOf, keyPrograms, before]
    exact (List.sublist_cons_self p _).filterMap _
  · rw [stagesOf, stagePrograms, before]
    exact (List.sublist_cons_self p _).filterMap _
  · have keys : keyPrograms s = k :: keyPrograms t := by rw [keysOf, keyPrograms, before, List.filterMap_cons_some slot]
    have once := h.keysOnce
    rw [keys] at once
    exact ⟨h.keysPending k (by simp [keys]), (List.nodup_cons.1 once).1⟩
  · have stages : stagePrograms s = q :: stagePrograms t := by
      rw [stagesOf, stagePrograms, before, List.filterMap_cons_some stage]
    have one := h.stageOnce
    rw [stages] at one
    exact ⟨h.stageNamed q (by simp [stages]), List.eq_nil_of_length_eq_zero (by simpa using one)⟩

/-- The completion of a key program. -/
theorem Closes.completedKey {s t : State} {p : RecordProgram} {seq : BitVec 32} {k : Fin 12} {x : KeySlot} (h : Closes s)
    (flash : s.mfc.flash = .programming (.record p) seq) (slot : slotOfProgram p = some k) (idle : t.mfc.flash = .idle)
    (programs : t.mfc.programs = s.mfc.programs) (keys : t.srb.keys = s.srb.keys.set k x)
    (stage : t.srb.stage = s.srb.stage) (config : t.config = s.config)
    (region : t.srb.region = s.srb.region) (label : t.srb.label = s.srb.label) : Closes t := by
  obtain ⟨fewerKeys, fewerStages, ofSlot, -⟩ := h.completed flash idle programs
  obtain ⟨pending, gone⟩ := ofSlot k slot
  refine h.of_slot pending (fun j away => ?_) stage config region label fewerKeys gone fewerStages
  have slots : slotAt j t = slotAt j (setSlot k x s) := slotAt_congr (s := setSlot k x s) keys j
  rw [slots, slotAt_setSlot, if_neg away]

theorem closes_keyFixComplete {s : State} (v : Bool) (h : Closes s) : Closes (keyFixComplete v s) := by
  unfold keyFixComplete fixVerified fixFailed
  dsimp only
  repeat' split
  next k key _ flash _ =>
    exact h.completedKey (x := { state := .fixed key, pending := false, homeFault := false }) flash rfl (by simp) (by simp)
      (by simp [setSlot, setKeyHome]) (by simp) (by simp) (by simp) (by simp)
  next k key _ flash _ =>
    exact h.completedKey (x := { slotAt k s with pending := false, homeFault := true }) flash rfl (by simp) (by simp)
      (by simp [setSlot, setKeyHome, slotAt]) (by simp) (by simp) (by simp) (by simp)
  · exact h

theorem closes_keyEraseComplete {s : State} (v : Bool) (h : Closes s) : Closes (keyEraseComplete v s) := by
  unfold keyEraseComplete eraseDone
  dsimp only
  split
  next flash =>
    exact h.completedKey (x := { state := .empty, pending := false, homeFault := !v }) flash rfl (by simp) (by simp)
      (by simp [setSlot, setKeyHome]) (by simp) (by simp) (by simp) (by simp)
  · exact h

/-- The completion of a region or label program: a committed record stays committed. -/
theorem Closes.completedRecord {s t : State} {p : RecordProgram} {seq : BitVec 32} (h : Closes s)
    (flash : s.mfc.flash = .programming (.record p) seq) (idle : t.mfc.flash = .idle)
    (programs : t.mfc.programs = s.mfc.programs) (keys : t.srb.keys = s.srb.keys)
    (stage : t.srb.stage = s.srb.stage) (config : t.config = s.config)
    (region : s.srb.region.committed = true → t.srb.region.committed = true)
    (label : s.srb.label.committed = true → t.srb.label.committed = true) : Closes t := by
  obtain ⟨fewerKeys, fewerStages, -, -⟩ := h.completed flash idle programs
  refine ⟨h.keysOnce.sublist fewerKeys, fun k mem => ?_, fewerStages.length_le.trans h.stageOnce, fun p mem => ?_,
    fun sealed_ => ?_⟩
  · rw [slotAt_congr keys]
    exact h.keysPending k (fewerKeys.subset mem)
  · rw [stage]
    exact h.stageNamed p (fewerStages.subset mem)
  · obtain ⟨present, regionThere, labelThere⟩ := h.items (by simpa only [Sealed, stage] using sealed_)
    refine ⟨?_, region regionThere, label labelThere⟩
    rw [keysPresent_iff] at present ⊢
    simpa only [slotAt_congr keys, config] using present

theorem closes_recordWriteComplete {s : State} (v : Bool) (h : Closes s) : Closes (recordWriteComplete v s) := by
  unfold recordWriteComplete regionDone labelDone
  dsimp only
  repeat' split
  next flash _ =>
    exact h.completedRecord flash (by simp) (by simp) (by simp) (by simp) (by simp)
      (by simp [clearTarget, setRegion, writtenRecord]) (by simp)
  next flash _ =>
    exact h.completedRecord flash (by simp) (by simp) (by simp) (by simp) (by simp) (by simp [setRegion, failedRecord])
      (by simp)
  next flash _ =>
    exact h.completedRecord flash (by simp) (by simp) (by simp) (by simp) (by simp) (by simp)
      (by simp [clearTarget, setLabel, writtenRecord])
  next flash _ =>
    exact h.completedRecord flash (by simp) (by simp) (by simp) (by simp) (by simp) (by simp)
      (by simp [setLabel, failedRecord])
  · exact h

theorem closes_configProgramComplete {s : State} (v : Bool) (h : Closes s) : Closes (configProgramComplete v s) := by
  unfold configProgramComplete
  dsimp only
  repeat' split
  next flash _ =>
    exact h.completedRecord flash (by simp) (by simp) (by simp) (by simp) (by simp) (by simp) (by simp)
  next flash _ =>
    exact h.completedRecord flash (by simp) (by simp) (by simp) (by simp) (by simp) (by simp) (by simp)
  · exact h

/-- The completion of a stage program: the set is sealed after it only if it was before, or the program was a close. -/
theorem Closes.completedStage {s t : State} {p : RecordProgram} {q : StageProgram} {seq : BitVec 32} (h : Closes s)
    (flash : s.mfc.flash = .programming (.record p) seq) (stage : stageOfProgram p = some q) (idle : t.mfc.flash = .idle)
    (programs : t.mfc.programs = s.mfc.programs) (keys : t.srb.keys = s.srb.keys) (config : t.config = s.config)
    (region : t.srb.region = s.srb.region) (label : t.srb.label = s.srb.label)
    (sealed_ : Sealed t → s.srb.stage.stage = .closed ∨ q = .closing) : Closes t := by
  obtain ⟨fewerKeys, -, -, ofStage⟩ := h.completed flash idle programs
  obtain ⟨named, none⟩ := ofStage q stage
  refine ⟨h.keysOnce.sublist fewerKeys, fun k mem => ?_, by simp [none], by simp [none], fun after => ?_⟩
  · rw [slotAt_congr keys]
    exact h.keysPending k (fewerKeys.subset mem)
  · obtain ⟨present, regionThere, labelThere⟩ := h.items ((sealed_ after).imp id fun closing => named.trans closing)
    refine ⟨?_, by rw [regionPresent, region]; exact regionThere, by rw [labelPresent, label]; exact labelThere⟩
    rw [keysPresent_iff] at present ⊢
    simpa only [slotAt_congr keys, config] using present

theorem closes_closeProgramComplete {s : State} (v : Bool) (h : Closes s) : Closes (closeProgramComplete v s) := by
  unfold closeProgramComplete closeVerified stageFailed
  dsimp only
  repeat' split
  next flash _ =>
    exact h.completedStage flash rfl (by simp) (by simp) (by simp) (by simp) (by simp) (by simp) fun _ => .inr rfl
  next flash _ =>
    exact h.completedStage flash rfl (by simp) (by simp) (by simp) (by simp) (by simp) (by simp) fun _ => .inr rfl
  · exact h

theorem closes_reopenProgramComplete {s : State} (v : Bool) (h : Closes s) : Closes (reopenProgramComplete v s) := by
  unfold reopenProgramComplete reopenVerified stageFailed
  dsimp only
  repeat' split
  next flash _ =>
    refine h.completedStage flash rfl (by simp) (by simp) (by simp) (by simp) (by simp) (by simp) fun after => ?_
    simp [Sealed, setStage] at after
  next flash _ =>
    refine h.completedStage flash rfl (by simp) (by simp) (by simp) (by simp) (by simp) (by simp) fun after => ?_
    simpa [Sealed, setStage] using after
  · exact h

/-! ## Start-up -/

/-- With no program inside the part only the items matter. -/
theorem closes_of_idle {t : State} (idle : t.mfc.flash = .idle) (programs : t.mfc.programs = [])
    (items : Sealed t → Complete t) : Closes t := by
  have none : recordPrograms t = [] := by simp [recordPrograms, idle, programs]
  exact ⟨by simp [keyPrograms, none], by simp [keyPrograms, none], by simp [stagePrograms, none],
    by simp [stagePrograms, none], items⟩

theorem not_sealed_of_reset {t : State} (stage : t.srb.stage = .reset) : ¬Sealed t := by
  simp [Sealed, stage, StageRec.reset]

/-- A start-up read other than the stage's leaves the stage as reset left it, and no program comes in. -/
theorem closes_startup {s t : State} (quiet : StartupQuiet s) (start : startupDone s = false)
    (flash : t.mfc.flash = s.mfc.flash) (programs : t.mfc.programs = s.mfc.programs) (stage : t.srb.stage = s.srb.stage) :
    Closes t := by
  have q := (startupQuiet_iff s).1 quiet start
  exact closes_of_idle (flash.trans q.flash) (programs.trans q.programs)
    fun sealed_ => absurd sealed_ (not_sealed_of_reset (stage.trans q.stage))

theorem closes_startupConfigRead {s : State} (quiet : StartupQuiet s) (h : Closes s) : Closes (startupConfigRead s) := by
  by_cases phase : s.boot.phase = .config
  · exact closes_startup quiet (by simp [startupDone, phase]) (by simp) (by simp) (by simp)
  · have same : startupConfigRead s = s := by
      unfold startupConfigRead
      split
      · contradiction
      · rfl
    rwa [same]

theorem closes_keyHomeLoad {s : State} (quiet : StartupQuiet s) (h : Closes s) : Closes (keyHomeLoad s) := by
  by_cases phase : ∃ k, s.boot.phase = .key k
  · obtain ⟨k, phase⟩ := phase
    exact closes_startup quiet (by simp [startupDone, phase]) (by simp) (by simp) (by simp)
  · have same : keyHomeLoad s = s := by
      unfold keyHomeLoad
      split
      next k here => exact absurd ⟨k, here⟩ phase
      · rfl
    rwa [same]

theorem closes_regionLabelLoad {s : State} (quiet : StartupQuiet s) (h : Closes s) : Closes (regionLabelLoad s) := by
  by_cases phase : s.boot.phase = .region ∨ s.boot.phase = .label
  · have start : startupDone s = false := by rcases phase with e | e <;> simp [startupDone, e]
    exact closes_startup quiet start (by simp) (by simp) (by simp)
  · have same : regionLabelLoad s = s := by
      unfold regionLabelLoad
      split
      next here => exact absurd (.inl here) phase
      next here => exact absurd (.inr here) phase
      · rfl
    rwa [same]

/-- A stage record is loaded CLOSED only with its items there (R156). -/
theorem complete_loadStage {r : StageRecord} {s : State} (sealed_ : Sealed (loadStage r s)) : Complete (loadStage r s) := by
  revert sealed_
  unfold loadStage
  dsimp only
  split
  · intro sealed_
    simp [Sealed, setStage] at sealed_
  next demoted =>
    intro sealed_
    have closed : r.stage = .closed := by simpa [Sealed, setStage] using sealed_
    have survive : itemsSurvive (noteSequence r.seq s) = true := by simpa [closed] using demoted
    simp only [itemsSurvive, Bool.and_eq_true] at survive
    obtain ⟨⟨keys, region⟩, label⟩ := survive
    exact ⟨keys, region, label⟩

theorem complete_loadStageHome {s : State} (sealed_ : Sealed (loadStageHome s)) : Complete (loadStageHome s) := by
  revert sealed_
  unfold loadStageHome stageLost
  repeat' split
  · intro sealed_
    simp [Sealed, setStage, StageRec.reset] at sealed_
  · intro sealed_
    simp [Sealed, setStage] at sealed_
  · exact complete_loadStage
  · intro sealed_
    simp [Sealed, setStage] at sealed_

theorem closes_stageLoad {s : State} (quiet : StartupQuiet s) (h : Closes s) : Closes (stageLoad s) := by
  by_cases phase : s.boot.phase = .stage
  · have q := (startupQuiet_iff s).1 quiet (by simp [startupDone, phase])
    refine closes_of_idle (by simpa using q.flash) (by simpa using q.programs) ?_
    unfold stageLoad
    rw [phase]
    intro sealed_
    obtain ⟨keys, region, label⟩ := complete_loadStageHome sealed_
    exact ⟨keys, region, label⟩
  · have same : stageLoad s = s := by
      unfold stageLoad
      split
      · contradiction
      · rfl
    rwa [same]

/-! ## The flash and the commit -/

/-- A grant takes a program from the presented ones into flight, or a commit's header out of them. -/
theorem recordPrograms_flashGrant (s : State) : (recordPrograms (flashGrant s)).Sublist (recordPrograms s) := by
  unfold flashGrant
  split
  next idle =>
    have before : recordPrograms s = s.mfc.programs := by simp [recordPrograms, idle]
    rw [before]
    split
    next r rest _ =>
      cases r <;> simp [recordPrograms, grantRead, setFlash]
    next p rest _ programs =>
      rw [programs]
      cases p <;> simp [recordPrograms, grantRecord, startProgram]
    · unfold grantTile
      (repeat' split) <;> simp [recordPrograms, startProgram, idle]
    · simp [recordPrograms, idle]
  · exact List.Sublist.refl _

theorem closes_flashGrant {s : State} (h : Closes s) : Closes (flashGrant s) :=
  h.of_same (by constructor <;> simp) ((recordPrograms_flashGrant s).filterMap _) ((recordPrograms_flashGrant s).filterMap _)

/-- The flash no longer programs a record, or the same one, and no program is presented. -/
theorem recordPrograms_sublist {s t : State} (flash : t.mfc.flash = s.mfc.flash ∨ ∀ p seq, t.mfc.flash ≠ .programming (.record p) seq)
    (programs : t.mfc.programs.Sublist s.mfc.programs) : (recordPrograms t).Sublist (recordPrograms s) := by
  have presented : s.mfc.programs.Sublist (recordPrograms s) := by
    unfold recordPrograms
    split
    · exact List.sublist_cons_self ..
    · exact List.Sublist.refl _
  rcases flash with same | none
  · unfold recordPrograms
    rw [same]
    split
    · exact programs.cons_cons _
    · exact programs
  · have after : recordPrograms t = t.mfc.programs := by
      unfold recordPrograms
      split
      next p seq here => exact absurd here (none p seq)
      · rfl
    rw [after]
    exact programs.trans presented

theorem programs_tileProgramComplete (v : Bool) (s : State) :
    (tileProgramComplete v s).mfc.programs.Sublist s.mfc.programs := by
  unfold tileProgramComplete tileVerified tileFailed enterWorn wornCommit
  dsimp only
  repeat' split
  all_goals try simp
  simp [withdrawHeader]

theorem closes_tileProgramComplete {s : State} (v : Bool) (h : Closes s) : Closes (tileProgramComplete v s) := by
  have fewer : (recordPrograms (tileProgramComplete v s)).Sublist (recordPrograms s) := by
    refine recordPrograms_sublist ?_ (programs_tileProgramComplete v s)
    rcases flash_tileProgramComplete v s with same | idle | ⟨c, home, seq, k, -, -, -, again⟩
    · exact .inl same
    · exact .inr (by simp [idle])
    · exact .inr (by simp [again])
  exact h.of_same (by constructor <;> simp) (fewer.filterMap _) (fewer.filterMap _)

theorem closes_commitDrainDone {s : State} (h : Closes s) : Closes (commitDrainDone s) := by
  unfold commitDrainDone endDrain
  repeat' split
  next b w _ _ _ _ =>
    have programs : recordPrograms (failCommit b w .tileFault none s) = recordPrograms s :=
      recordPrograms_congr (by simp) (by simp)
    exact h.of_same (by constructor <;> simp) (by simp [keyPrograms, programs]) (by simp [stagePrograms, programs])
  · exact h.present ⟨rfl, rfl, rfl, rfl, rfl⟩ rfl rfl rfl rfl
  all_goals exact h

/-! ## Every command -/

theorem closes_same {c : Instr} {s : State} (grant : c ≠ .flashGrant) (tile : ∀ v, c ≠ .tileProgramComplete v)
    (programs : (effect c s).mfc.programs = s.mfc.programs) (same : SameItems s (effect c s)) (h : Closes s) :
    Closes (effect c s) := by
  have fewer : (recordPrograms (effect c s)).Sublist (recordPrograms s) := by
    refine recordPrograms_sublist ?_ (by rw [programs])
    exact (flash_effect c s grant tile).imp id fun idle => by simp [idle]
  exact h.of_same same (fewer.filterMap _) (fewer.filterMap _)

theorem closes_serve {f : Request → State → State} {k : Kind} {m : Master} {s : State}
    (answer : ∀ req s, Closes s → Closes (f req s)) (h : Closes s) : Closes (serve k m f s) :=
  serve_keeps (fun _ _ h => h.of_same ⟨rfl, rfl, rfl, rfl, rfl⟩ (List.Sublist.refl _) (List.Sublist.refl _)) answer k m h

theorem closes_answer {f : Request → State → State}
    (frame : ∀ req s, (f req s).mfc.programs = s.mfc.programs ∧ (f req s).mfc.flash = s.mfc.flash ∧
      (f req s).srb.keys = s.srb.keys ∧ (f req s).srb.stage = s.srb.stage ∧ (f req s).config = s.config ∧
      (f req s).srb.region = s.srb.region ∧ (f req s).srb.label = s.srb.label)
    (req : Request) (s : State) (h : Closes s) : Closes (f req s) := by
  obtain ⟨programs, flash, keys, stage, config, region, label⟩ := frame req s
  have same := recordPrograms_congr flash programs
  exact h.of_same ⟨keys, stage, by rw [config], by rw [region], by rw [label]⟩ (by simp [keyPrograms, same])
    (by simp [stagePrograms, same])

theorem closes_effect (c : Instr) (s : State) (quiet : StartupQuiet s) (h : Closes s) : Closes (effect c s) := by
  cases c with
  | powerOn | resetAssert =>
    exact closes_of_idle rfl rfl fun sealed_ => absurd sealed_ (not_sealed_of_reset rfl)
  | startupConfigRead => exact closes_startupConfigRead quiet h
  | keyHomeLoad => exact closes_keyHomeLoad quiet h
  | regionLabelLoad => exact closes_regionLabelLoad quiet h
  | stageLoad => exact closes_stageLoad quiet h
  | loadKey m => exact closes_serve (fun req _ => closes_loadKey req) h
  | fixKey m => exact closes_serve (fun req _ => closes_fixKey req) h
  | eraseKey m => exact closes_serve (fun req _ => closes_eraseKey req) h
  | writeRegion m => exact closes_serve (fun req _ => closes_writeRegion req) h
  | writeLabel m => exact closes_serve (fun req _ => closes_writeLabel req) h
  | closeSet m => exact closes_serve (fun req _ => closes_closeSet req) h
  | reopenSet m => exact closes_serve (fun req _ => closes_reopenSet req) h
  | writeConfig m => exact closes_serve (fun req _ => closes_writeConfig req) h
  | keyFixComplete v => exact closes_keyFixComplete v h
  | keyEraseComplete v => exact closes_keyEraseComplete v h
  | recordWriteComplete v => exact closes_recordWriteComplete v h
  | closeProgramComplete v => exact closes_closeProgramComplete v h
  | reopenProgramComplete v => exact closes_reopenProgramComplete v h
  | configProgramComplete v => exact closes_configProgramComplete v h
  | tileProgramComplete v => exact closes_tileProgramComplete v h
  | flashGrant => exact closes_flashGrant h
  | commitDrainDone => exact closes_commitDrainDone h
  | openCapture m | putRow m | discardCapture m | captureState m | submitJob m | readBox m | holdBox m | editBox m
  | releaseBox m | cancelJob m | freeBox m | readTile m | writeTile m | lockWays m | drain m | panelHello m
  | fetchRun m | readNotices m | nextStale m | readProfile m | checkKey m | releaseKey m | readRegion m | readLabel m
  | stageQuery m | linkResume m | ackEvents m | setEventMask m | readCounters m | clearCounters m =>
    exact closes_serve (closes_answer (by simp)) h
  | resetRelease | spareScan | headerLoad | panelRequestTransaction | panelReplyTransaction | panelStatusTransaction
  | systemRequestTransaction | systemReplyTransaction | systemStatusTransaction | requestFrame | idleMark | badFrame
  | frameGapTimeout | droppingIdleEnd | replyFrameStart | replyFrameSent | fixtureBreak | syncCharacterReceived
  | holdExpiry | jobStart | passTileOperation | clearTileOperation | commitCopyOut | readTileAccess | writeTileAccess
  | panelSnapshot | fillInstall | drainReply | storageFault | fillReadComplete | uncommitProgramComplete
  | headerCheckReadComplete | commitHeaderComplete =>
    exact closes_same (by simp) (by simp) (by simp) (by constructor <;> simp) h

/-- Settles O9: every command keeps the quiet of start-up, and the items of a closed set with the programs inside the
part. -/
theorem closedSetKeepsItsItems : Obligations.ClosedSetKeepsItsItems := by
  refine step_keeps (P := ClosedSound) (fun _ _ h => h) (fun _ _ h => h) fun c s h => ?_
  obtain ⟨quiet, closes⟩ := (closedSound_iff s).1 h
  exact (closedSound_iff _).2 ⟨startupQuiet_effect c quiet, closes_effect c s quiet closes⟩

end Sys2Proof.Proofs.ClosedSet
end

section
/-! A step at the front of the queue of commands, and the state after reset. -/

namespace Sys2Proof.Proofs.Reset

open Sys2Proof Sys2Proof.Machine Sys2Proof.Proofs.Frames Sys2Proof.Proofs.Steps

/-! ## A step -/

/-- The part idles while no held box has reached its deadline. -/
theorem deadlineReached_eq_false {s : State} {b : Fin 16} (h : deadlineReached s b = false) {x : Box} {d : Nat}
    (held : boxAt b s = some x) (hold : x.hold = some d) : s.book.now < d := by
  simpa [deadlineReached, held, hold] using h

/-- Settles O1. -/
theorem stepServesFront : Obligations.StepServesFront := by
  intro s
  refine ⟨fun c rest front => by simp [step, front], fun empty => ?_⟩
  have idles : step s = .next (idle s) := by simp [step, empty]
  rw [idles]
  unfold idle
  split
  · exact ⟨s.book.now, rfl, Nat.le_refl _, Nat.le_succ _, fun _ _ _ _ _ due => due⟩
  next none =>
    refine ⟨s.book.now + 1, rfl, Nat.le_succ _, Nat.le_refl _, fun b x d held hold _ => ?_⟩
    have free : deadlineReached s b = false := by
      simpa using fun reached => none (List.any_eq_true.2 ⟨b, List.mem_finRange b, reached⟩)
    exact deadlineReached_eq_false free held hold

/-! ## The state after reset -/

theorem startupQuiet_reset : StartupQuiet State.reset :=
  fun _ => ⟨rfl, rfl, rfl, rfl, rfl, rfl, rfl, rfl⟩

theorem entriesSound_reset : EntriesSound State.reset :=
  ⟨startupQuiet_reset, Cache.entriesCounted_of_reset rfl rfl⟩

theorem runningSound_reset : RunningSound State.reset :=
  (RunningJob.runningSound_iff _).2 (RunningJob.runs_reset rfl rfl)

theorem promiseSound_reset : PromiseSound State.reset :=
  ⟨startupQuiet_reset, trivial, fun _ => rfl, fun _ => rfl⟩

theorem remapSound_reset : RemapSound State.reset := by
  refine ⟨startupQuiet_reset, trivial, fun j k t mapped => ?_⟩
  have unused : State.reset.mfc.spares[j] = .unused := by simp [State.reset, Mfc.reset]
  rw [unused] at mapped
  cases mapped

theorem valuesSound_reset : ValuesSound State.reset := by
  refine ⟨fun i w e entry => ?_, fun c mem => ?_, fun f mem => ?_, fun o mem => ?_, fun t => ?_, fun k => ?_, trivial,
    fun b x held => ?_⟩
  · simp [entryAt, State.reset, Tlc.reset] at entry
  · cases mem
  · cases mem
  · cases mem
  · simp [State.reset, Homes.new, homeInRange]
  · simp [State.reset, Homes.new, homeInRange]
  · simp [boxAt, State.reset, Jobs.reset] at held

theorem closedSound_reset : ClosedSound State.reset :=
  (ClosedSet.closedSound_iff _).2
    ⟨startupQuiet_reset, ClosedSet.closes_of_idle rfl rfl fun sealed_ => absurd sealed_ (ClosedSet.not_sealed_of_reset rfl)⟩

/-- Settles O10: every invariant holds of the state after reset. -/
theorem resetIsSound : Obligations.ResetIsSound :=
  ⟨Link.fxlSound_reset.1, Link.fxlSound_reset.2, Notices.noticesSound_reset, Nat.zero_le _, entriesSound_reset,
    runningSound_reset, promiseSound_reset, remapSound_reset, valuesSound_reset, closedSound_reset⟩

end Sys2Proof.Proofs.Reset
end

section
/-! Replies at their ports (R115, R172, R180), the counters (R186), and the reads of start-up (R113, R114, R153, R154,
R156, R188). -/

namespace Sys2Proof.Proofs.Boot

open Sys2Proof Sys2Proof.Machine Sys2Proof.Proofs.Frames Sys2Proof.Proofs.Steps

theorem exec_of_effect {c : Instr} {s t : State} (h : effect c s = t) : exec c s = .next t := by
  rw [exec_eq_effect, h]

/-! ## Replies -/

theorem placeAnswer_free {st : Station} {s : State} (free : s.fxl.place[st] = none) (r : Reply) :
    placeAnswer st r s =
      s.setFxl { s.fxl with place := s.fxl.place.set st (some { reply := r, own := false }),
                            queue := s.fxl.queue ++ [st] } := by
  unfold placeAnswer
  rw [free]

theorem placeAnswer_held {st : Station} {s : State} (held : (s.fxl.place[st]).isSome = true) (r : Reply) :
    placeAnswer st r s = s := by
  obtain ⟨p, placed⟩ := Option.isSome_iff_exists.1 held
  unfold placeAnswer
  rw [placed]

/-- Settles O13, port by port. -/
theorem repliesReachTheirPorts : Obligations.RepliesReachTheirPorts := by
  intro s n r
  refine ⟨fun pending => if_pos pending, fun pending => if_pos pending, fun st => ⟨fun gone => if_pos gone,
    fun kept out free => ?_, fun kept out held => ?_, fun free => placeAnswer_free free r, fun held => placeAnswer_held held r⟩⟩
  · simp only [routeReply, stationReply, kept, out, if_false, if_true, placeOwn, free]
  · obtain ⟨p, placed⟩ := Option.isSome_iff_exists.1 held
    simp only [routeReply, stationReply, kept, out, if_false, if_true, placeOwn, placed]

/-! ## Counters -/

theorem rise_wrap_self (m : Master) (k : CounterKind) (n : Nat) (s : State) :
    (rise m k n s).mct.wrap[counterIndex m k] =
      (s.mct.wrap[counterIndex m k] || decide (4294967296 ≤ (counterOf m k s).toNat + n)) := by
  unfold rise
  dsimp only
  split
  next below =>
    rw [decide_eq_false (Nat.not_le_of_lt below : ¬4294967296 ≤ (counterOf m k s).toNat + n), Bool.or_false]
    rfl
  next above =>
    rw [decide_eq_true (Nat.le_of_not_lt above : 4294967296 ≤ (counterOf m k s).toNat + n), Bool.or_true]
    simp

/-- A rise that stays below 4294967296 raises no event (R186). -/
theorem rise_syp (m : Master) (k : CounterKind) (n : Nat) (s : State) :
    (rise m k n s).syp =
      if 4294967296 ≤ (counterOf m k s).toNat + n then (raise .counterWrap s).syp else s.syp := by
  unfold rise counterOf
  dsimp only
  split
  next below => rw [if_neg (Nat.not_le_of_lt below)]; rfl
  next above => rw [if_pos (Nat.le_of_not_lt above)]; rfl

theorem rise_other {m : Master} {k : CounterKind} {i : Fin 24} (n : Nat) (s : State) (other : i ≠ counterIndex m k) :
    (rise m k n s).mct.counter[i] = s.mct.counter[i] ∧ (rise m k n s).mct.wrap[i] = s.mct.wrap[i] := by
  have apart : (counterIndex m k).val ≠ i.val := fun e => other (Fin.ext e.symm)
  unfold rise
  dsimp only
  split <;> simp [apart]

theorem countReply_refused {st : Status} (m : Master) (s : State) (ok : st ≠ .ok) (fault : st ≠ .dataFault) :
    countReply m st s = rise m .refused 1 s := by
  cases st <;> first | rfl | contradiction

/-- Settles O14. -/
theorem countersRise : Obligations.CountersRise :=
  ⟨fun m k n s => ⟨counterOf_rise m k n s, rise_wrap_self m k n s, rise_syp m k n s, fun _ => rise_other n s⟩,
    fun m s => ⟨rfl, rfl, fun _ => countReply_refused m s⟩⟩

/-! ## The reads of start-up -/

theorem startupConfigRead_stored {s : State} {r : ConfigRecord} (phase : s.boot.phase = .config)
    (home : s.homes.config = .holds r) (passes : configPasses r = true) :
    startupConfigRead s =
      { s with boot := { phase := .spare 0, maxSeq := some (maxSequence s.boot.maxSeq r.seq) }, config := r.config } := by
  simp only [startupConfigRead, phase, loadConfig, home, passes]
  rfl

theorem startupConfigRead_defaults {s : State} (phase : s.boot.phase = .config)
    (fails : ∀ r : ConfigRecord, s.homes.config = .holds r → configPasses r = false) :
    startupConfigRead s =
      { raise .configDefaulted s with boot := { s.boot with phase := .spare 0 }, config := Config.defaults } := by
  simp only [startupConfigRead, phase, loadConfig]
  cases home : s.homes.config with
  | holds r =>
    simp only [fails r home]
    rfl
  | erased | failing => rfl

theorem spareScan_of_phase {s : State} {k : Fin 24} (phase : s.boot.phase = .spare k) :
    spareScan s = setPhase (afterSpare k) (scanSpare k s) := by
  simp only [spareScan, phase]

/-- A spare's record that passes its check claims its tile (R113). -/
theorem scanSpare_claims {s : State} {k : Fin 24} {r : TileRecord} (home : s.homes.spare[k] = .holds r)
    (agrees : codeAgrees r.tile r.values r.code = true) :
    scanSpare k s = claimTile k r.tile r.seq (noteSequence r.seq s) := by
  simp only [scanSpare, home, agrees, if_true]

theorem claimant_congr {s t : State} (same : t.mfc.spares = s.mfc.spares) (u : TileNo) : claimant u t = claimant u s := by
  simp [claimant, same]

theorem claimTile_first {s : State} {k : Fin 24} {t : TileNo} (seq : BitVec 32) (free : claimant t s = none) :
    claimTile k t seq (noteSequence seq s) = setSpare k (.mapped t) (noteSequence seq s) := by
  have free' : claimant t (noteSequence seq s) = none := (claimant_congr rfl t).trans free
  simp only [claimTile, free']

theorem claimTile_newer {s : State} {j k : Fin 24} {t : TileNo} {seq : BitVec 32} (taken : claimant t s = some j)
    (newer : spareSequence j s < seq) :
    claimTile k t seq (noteSequence seq s) = setSpare k (.mapped t) (setSpare j .dead (noteSequence seq s)) := by
  have taken' : claimant t (noteSequence seq s) = some j := (claimant_congr rfl t).trans taken
  simp only [claimTile, taken']
  exact if_pos (BitVec.lt_def.1 newer)

theorem claimTile_older {s : State} {j k : Fin 24} {t : TileNo} {seq : BitVec 32} (taken : claimant t s = some j)
    (older : ¬spareSequence j s < seq) :
    claimTile k t seq (noteSequence seq s) = setSpare k .dead (noteSequence seq s) := by
  have taken' : claimant t (noteSequence seq s) = some j := (claimant_congr rfl t).trans taken
  simp only [claimTile, taken']
  exact if_neg fun newer => older (BitVec.lt_def.2 newer)

/-- Settles O16, by the content of the home that is read. -/
theorem startupReadsConfigAndSpares : Obligations.StartupReadsConfigAndSpares := by
  intro s
  refine ⟨fun phase => ⟨fun r home passes => ?_, fun fails => ?_⟩, fun k phase => ?_⟩
  · exact congrArg _ (startupConfigRead_stored phase home passes)
  · exact congrArg _ (startupConfigRead_defaults phase fails)
  · have scan := spareScan_of_phase phase
    refine ⟨fun home => congrArg _ (scan.trans ?_), fun home => congrArg _ (scan.trans ?_), fun r home =>
      ⟨fun differs => congrArg _ (scan.trans ?_), fun agrees => ?_⟩⟩
    · simp only [scanSpare, home]
      rfl
    · simp only [scanSpare, home]
      rfl
    · simp only [scanSpare, home, differs]
      rfl
    · have claim := scan.trans (congrArg _ (scanSpare_claims home agrees))
      refine ⟨fun free => congrArg _ (claim.trans ?_), fun j taken =>
        ⟨fun newer => congrArg _ (claim.trans ?_), fun older => congrArg _ (claim.trans ?_)⟩⟩
      · rw [claimTile_first _ free]
        rfl
      · rw [claimTile_newer taken newer]
        rfl
      · rw [claimTile_older taken older]
        rfl

/-- Settles O17, by the content of the home that is read. -/
theorem startupReadsHeaderAndKeys : Obligations.StartupReadsHeaderAndKeys := by
  intro s
  refine ⟨fun phase => ⟨fun r home signed => exec_of_effect ?_, fun fails => exec_of_effect ?_⟩, fun k phase =>
    ⟨fun home => exec_of_effect ?_, fun r home passes => exec_of_effect ?_, fun fails => exec_of_effect ?_⟩⟩
  · simp only [effect_headerLoad, headerLoad, phase, home, signed, if_true]
    rfl
  · simp only [effect_headerLoad, headerLoad, phase]
    cases home : s.homes.header with
    | holds r =>
      simp only [fails r home]
      rfl
    | erased | failing => rfl
  · simp only [effect_keyHomeLoad, keyHomeLoad, phase, loadKeyHome, home]
    rfl
  · simp only [effect_keyHomeLoad, keyHomeLoad, phase, loadKeyHome, home, passes, if_true]
    rfl
  · simp only [effect_keyHomeLoad, keyHomeLoad, phase, loadKeyHome]
    rcases fails with home | ⟨r, home, fails⟩
    · simp only [home]
      rfl
    · simp only [home, fails]
      rfl

/-! ## The region and label loads -/

/-- A record as start-up loads it, and what it makes of the highest sequence (R96, R154). -/
theorem noteStored_passes {α : Type} {fits : α → Bool} {r : StoredRecord α} (passes : fits r.content = true) (s : State) :
    noteStored fits (.holds r) s = noteSequence r.seq s := by
  simp only [noteStored, passes, if_true]

theorem noteStored_fails {α : Type} {fits : α → Bool} {r : StoredRecord α} (fails : fits r.content = false) (s : State) :
    noteStored fits (.holds r) s = s := by
  simp [noteStored, fails]

/-- A loaded record moves at most the highest sequence. -/
theorem noteStored_eq {α : Type} (fits : α → Bool) (h : Home (StoredRecord α)) (s : State) :
    noteStored fits h s = s.setBoot (noteStored fits h s).boot := by
  unfold noteStored
  repeat' split
  all_goals rfl

/-- The stage read moves the stage, the flags and the highest sequence alone. -/
theorem loadStageHome_eq (s : State) :
    loadStageHome s =
      { s with boot := (loadStageHome s).boot, srb := { s.srb with stage := (loadStageHome s).srb.stage },
               syp := (loadStageHome s).syp } := by
  unfold loadStageHome loadStage
  dsimp only
  (repeat' split) <;> rfl

theorem loadStage_boot (r : StageRecord) (s : State) : (loadStage r s).boot = (noteSequence r.seq s).boot := by
  unfold loadStage
  dsimp only
  split <;> rfl

/-- A stage record is loaded as it stands unless it says CLOSED with an item missing (R156). -/
theorem loadStage_kept {r : StageRecord} {s : State} (kept : r.stage ≠ .closed ∨ itemsSurvive s = true) :
    loadStage r s =
      setStage { stage := r.stage, closeCount := r.closeCount, reopenCount := r.reopenCount, program := .none,
                 homeFault := false, demoted := false } (noteSequence r.seq s) := by
  unfold loadStage
  dsimp only
  refine if_neg fun demoted => ?_
  obtain ⟨closed, gone⟩ := demoted
  rcases kept with other | survive
  · exact other closed
  · exact Bool.false_ne_true (gone.symm.trans survive)

theorem loadStage_demoted {r : StageRecord} {s : State} (closed : r.stage = .closed) (gone : itemsSurvive s = false) :
    loadStage r s =
      raise .stageChanged
        (setStage { stage := .rework, closeCount := r.closeCount, reopenCount := r.reopenCount, program := .none,
                    homeFault := false, demoted := true } (noteSequence r.seq s)) := by
  unfold loadStage
  exact if_pos ⟨closed, gone⟩

/-- Settles O18, by the content of the home that is read. -/
theorem startupReadsRecordsAndStage : Obligations.StartupReadsRecordsAndStage := by
  intro s
  refine ⟨fun phase => ⟨_, exec_eq_effect .., ?_⟩, fun phase => ⟨_, exec_eq_effect .., ?_⟩,
    fun phase => ⟨_, exec_eq_effect .., ?_⟩⟩
  · simp only [effect_regionLabelLoad, regionLabelLoad, phase]
    rw [noteStored_eq]
    refine ⟨rfl, rfl, fun home => ?_, fun home => ?_, fun r home => ⟨fun passes => ?_, fun fails => ?_⟩⟩
    · simp only [home]
      exact ⟨rfl, rfl⟩
    · simp only [home]
      exact ⟨rfl, rfl⟩
    · simp only [home, noteStored_passes passes, loadedRecord, passes, if_true]
      exact ⟨rfl, rfl⟩
    · simp only [home, noteStored_fails fails, loadedRecord, fails]
      exact ⟨rfl, rfl⟩
  · simp only [effect_regionLabelLoad, regionLabelLoad, phase]
    rw [noteStored_eq]
    refine ⟨rfl, rfl, fun home => ?_, fun home => ?_, fun r home => ⟨fun passes => ?_, fun fails => ?_⟩⟩
    · simp only [home]
      exact ⟨rfl, rfl⟩
    · simp only [home]
      exact ⟨rfl, rfl⟩
    · simp only [home, noteStored_passes passes, loadedRecord, passes, if_true]
      exact ⟨rfl, rfl⟩
    · simp only [home, noteStored_fails fails, loadedRecord, fails]
      exact ⟨rfl, rfl⟩
  · simp only [effect_stageLoad, stageLoad, phase]
    refine ⟨?_, rfl, fun home => ?_, fun lost => ?_, fun r home passes => ⟨?_, fun kept => ?_, fun closed gone => ?_⟩⟩
    · rw [loadStageHome_eq]
      rfl
    · simp only [loadStageHome, home]
      exact ⟨rfl, rfl, rfl⟩
    · have fails : loadStageHome s = stageLost s := by
        rcases lost with home | ⟨r, home, fails⟩
        · simp only [loadStageHome, home]
        · simp [loadStageHome, home, fails]
      rw [fails]
      exact ⟨rfl, rfl, rfl⟩
    all_goals
      have loaded : loadStageHome s = loadStage r s := by simp only [loadStageHome, home, passes, if_true]
      rw [loaded]
    · exact congrArg Boot.maxSeq (loadStage_boot r s)
    · rw [loadStage_kept kept]
      exact ⟨rfl, rfl⟩
    · rw [loadStage_demoted closed gone]
      exact ⟨rfl, rfl⟩

end Sys2Proof.Proofs.Boot
end

section
/-! Power-on and the RESET pin (R93, R98, R112, R155, R182): which homes an interruption leaves failing their check. -/

namespace Sys2Proof.Proofs.Resets

open Sys2Proof Sys2Proof.Machine Sys2Proof.Proofs.Frames Sys2Proof.Proofs.Steps

/-! ## The presented programs that are in flight -/

/-- What no close, reopen or commit's header changes the presented programs do not change. -/
theorem foldl_presented_same {α : Type} (π : Homes → α) (programs : List RecordProgram)
    (same : ∀ p g, inFlightPresented p = true → π (failRecordHome p g) = π g) (g : Homes) :
    π ((programs.filter inFlightPresented).foldl (fun h p => failRecordHome p h) g) = π g := by
  induction programs generalizing g with
  | nil => rfl
  | cons p rest ih =>
    by_cases presented : inFlightPresented p = true
    · rw [List.filter_cons_of_pos presented, List.foldl_cons, ih, same p g presented]
    · rw [List.filter_cons_of_neg presented, ih]

/-- A home that the programs of a kind fail, and no other changes, fails if one of them is there. -/
theorem foldl_failRecordHome {α : Type} {π : Homes → Home α} {hits : RecordProgram → Bool}
    (fails : ∀ p g, π (failRecordHome p g) = if hits p then .failing else π g) (programs : List RecordProgram) (g : Homes) :
    π (programs.foldl (fun h p => failRecordHome p h) g) = if programs.any hits then .failing else π g := by
  induction programs generalizing g with
  | nil => rfl
  | cons p rest ih =>
    rw [List.foldl_cons, ih, fails, List.any_cons]
    by_cases here : hits p = true <;> simp [here]

/-- The parts of the array that only a granted program leaves failing. -/
theorem interruptedHomes_granted (m : Mfc) (h : Homes) :
    (interruptedHomes m h).tile = (grantedHomes m.flash h).tile ∧ (interruptedHomes m h).spare = (grantedHomes m.flash h).spare ∧
      (interruptedHomes m h).key = (grantedHomes m.flash h).key ∧
      (interruptedHomes m h).region = (grantedHomes m.flash h).region ∧
      (interruptedHomes m h).label = (grantedHomes m.flash h).label ∧
      (interruptedHomes m h).config = (grantedHomes m.flash h).config := by
  refine ⟨?_, ?_, ?_, ?_, ?_, ?_⟩
  all_goals
    refine foldl_presented_same _ m.programs (fun p g presented => ?_) _
    cases p <;> first | rfl | cases presented

/-- A close or a reopen. -/
def isStageProgram (p : RecordProgram) : Bool :=
  match p with
  | .close _ _ _ | .reopen _ _ _ => true
  | _ => false

/-- The header home fails its check if a commit's header is presented, and else stands as the granted program leaves it. -/
theorem interruptedHomes_header (m : Mfc) (h : Homes) :
    (interruptedHomes m h).header = if .header ∈ m.programs then .failing else (grantedHomes m.flash h).header := by
  have any : (m.programs.filter inFlightPresented).any (· == .header) = decide (.header ∈ m.programs) := by
    rw [List.any_filter]
    simp only [List.any_eq, decide_eq_decide]
    refine ⟨fun ⟨p, mem, e⟩ => ?_, fun mem => ⟨.header, mem, rfl⟩⟩
    simp only [Bool.and_eq_true, beq_iff_eq] at e
    exact e.2 ▸ mem
  unfold interruptedHomes
  rw [foldl_failRecordHome (π := Homes.header) (hits := (· == .header)) (fun p g => by cases p <;> rfl), any]
  simp

/-- The stage home fails its check if a close or a reopen is presented, and else stands as the granted program leaves it. -/
theorem interruptedHomes_stage (m : Mfc) (h : Homes) :
    (interruptedHomes m h).stage =
      if m.programs.any isStageProgram then .failing else (grantedHomes m.flash h).stage := by
  have any : (m.programs.filter inFlightPresented).any isStageProgram = m.programs.any isStageProgram := by
    rw [List.any_filter]
    congr 1
    funext p
    cases p <;> rfl
  unfold interruptedHomes
  rw [foldl_failRecordHome (π := Homes.stage) (hits := isStageProgram) (fun p g => by cases p <;> rfl), any]

/-! ## The granted program -/

/-- A part of the array that the program in flight does not touch stands as it was. -/
theorem grantedHomes_same {α : Type} (π : Homes → α) {f : FlashState} {h : Homes}
    (same : ∀ j q, f = .programming j q → π (grantedHomes (.programming j q) h) = π h) : π (grantedHomes f h) = π h := by
  cases f with
  | programming j q => exact same j q rfl
  | idle | readingFill | readingHeader => rfl

theorem any_isStageProgram {l : List RecordProgram} :
    l.any isStageProgram = true ↔ ∃ (r : Request) (a b : Nat), .close r a b ∈ l ∨ .reopen r a b ∈ l := by
  rw [List.any_eq_true]
  constructor
  · rintro ⟨p, mem, stage⟩
    cases p with
    | close r a b => exact ⟨r, a, b, .inl mem⟩
    | reopen r a b => exact ⟨r, a, b, .inr mem⟩
    | keyFix | keyErase | region | label | config | header => cases stage
  · rintro ⟨r, a, b, mem | mem⟩
    · exact ⟨_, mem, rfl⟩
    · exact ⟨_, mem, rfl⟩

theorem grantedHomes_tile {f : FlashState} {u : TileNo} (h : Homes)
    (other : ∀ c : TileCopy, c.tile = u → ¬∃ q, f = .programming (.tile c .own) q) :
    (grantedHomes f h).tile[u] = h.tile[u] := by
  refine grantedHomes_same (fun h => h.tile[u]) fun j q flash => ?_
  cases j with
  | tile c home =>
    cases home with
    | own =>
      have apart : c.tile.val ≠ u.val := fun e => other c (Fin.ext e) ⟨q, flash⟩
      simp [grantedHomes, apart]
    | spare => rfl
  | record p => exact congrArg (fun v => v[u]) (MapValues.failRecordHome_tiles p h).1
  | header | uncommit => rfl

theorem grantedHomes_spare {f : FlashState} {k : Fin 24} (h : Homes)
    (other : ∀ c : TileCopy, ¬∃ q, f = .programming (.tile c (.spare k)) q) :
    (grantedHomes f h).spare[k] = h.spare[k] := by
  refine grantedHomes_same (fun h => h.spare[k]) fun j q flash => ?_
  cases j with
  | tile c home =>
    cases home with
    | own => rfl
    | spare l =>
      have apart : l.val ≠ k.val := fun e => other c ⟨q, Fin.ext e ▸ flash⟩
      simp [grantedHomes, apart]
  | record p => exact congrArg (fun v => v[k]) (MapValues.failRecordHome_tiles p h).2
  | header | uncommit => rfl

theorem grantedHomes_key {f : FlashState} {k : Fin 12} (h : Homes)
    (other : ∀ (r : Request) (key : Key), (¬∃ q, f = .programming (.record (.keyFix r k key)) q) ∧
      ¬∃ q, f = .programming (.record (.keyErase r k)) q) : (grantedHomes f h).key[k] = h.key[k] := by
  refine grantedHomes_same (fun h => h.key[k]) fun j q flash => ?_
  cases j with
  | record p =>
    cases p with
    | keyFix r l key =>
      have apart : l.val ≠ k.val := fun e => (other r key).1 ⟨q, Fin.ext e ▸ flash⟩
      simp [grantedHomes, failRecordHome, apart]
    | keyErase r l =>
      have apart : l.val ≠ k.val := fun e =>
        (other r { cls := .service, material := [], check := 0, loader := 0 }).2 ⟨q, Fin.ext e ▸ flash⟩
      simp [grantedHomes, failRecordHome, apart]
    | region | label | close | reopen | config | header => rfl
  | tile c home => cases home <;> rfl
  | header | uncommit => rfl

theorem grantedHomes_header {f : FlashState} (h : Homes)
    (other : ∀ x : HeaderRecord, (¬∃ q, f = .programming (.header x) q) ∧ ¬∃ q, f = .programming (.uncommit x) q)
    (record : ¬∃ q, f = .programming (.record .header) q) : (grantedHomes f h).header = h.header := by
  refine grantedHomes_same Homes.header fun j q flash => ?_
  cases j with
  | header x => exact absurd ⟨q, flash⟩ (other x).1
  | uncommit x => exact absurd ⟨q, flash⟩ (other x).2
  | record p =>
    cases p with
    | header => exact absurd ⟨q, flash⟩ record
    | keyFix | keyErase | region | label | close | reopen | config => rfl
  | tile c home => cases home <;> rfl

theorem grantedHomes_stage {f : FlashState} (h : Homes)
    (other : ∀ (r : Request) (a b : Nat), (¬∃ q, f = .programming (.record (.close r a b)) q) ∧
      ¬∃ q, f = .programming (.record (.reopen r a b)) q) : (grantedHomes f h).stage = h.stage := by
  refine grantedHomes_same Homes.stage fun j q flash => ?_
  cases j with
  | record p =>
    cases p with
    | close r a b => exact absurd ⟨q, flash⟩ (other r a b).1
    | reopen r a b => exact absurd ⟨q, flash⟩ (other r a b).2
    | keyFix | keyErase | region | label | config | header => rfl
  | tile c home => cases home <;> rfl
  | header | uncommit => rfl

theorem grantedHomes_region {f : FlashState} (h : Homes)
    (other : ∀ (r : Request) (x : RegionFields) (v : BitVec 16), ¬∃ q, f = .programming (.record (.region r x v)) q) :
    (grantedHomes f h).region = h.region := by
  refine grantedHomes_same Homes.region fun j q flash => ?_
  cases j with
  | record p =>
    cases p with
    | region r x v => exact absurd ⟨q, flash⟩ (other r x v)
    | keyFix | keyErase | label | close | reopen | config | header => rfl
  | tile c home => cases home <;> rfl
  | header | uncommit => rfl

theorem grantedHomes_label {f : FlashState} (h : Homes)
    (other : ∀ (r : Request) (x : LabelFields) (v : BitVec 16), ¬∃ q, f = .programming (.record (.label r x v)) q) :
    (grantedHomes f h).label = h.label := by
  refine grantedHomes_same Homes.label fun j q flash => ?_
  cases j with
  | record p =>
    cases p with
    | label r x v => exact absurd ⟨q, flash⟩ (other r x v)
    | keyFix | keyErase | region | close | reopen | config | header => rfl
  | tile c home => cases home <;> rfl
  | header | uncommit => rfl

theorem grantedHomes_config {f : FlashState} (h : Homes)
    (other : ∀ (r : Request) (x : Machine.Config), ¬∃ q, f = .programming (.record (.config r x)) q) :
    (grantedHomes f h).config = h.config := by
  refine grantedHomes_same Homes.config fun j q flash => ?_
  cases j with
  | record p =>
    cases p with
    | config r x => exact absurd ⟨q, flash⟩ (other r x)
    | keyFix | keyErase | region | label | close | reopen | header => rfl
  | tile c home => cases home <;> rfl
  | header | uncommit => rfl

/-! ## The statement -/

/-- Settles O15: each home by what is in flight and by what is presented. -/
theorem resetsLeaveResetValues : Obligations.ResetsLeaveResetValues := by
  refine ⟨fun s => ⟨⟨_, rfl, rfl, rfl⟩, ⟨_, rfl, rfl, rfl⟩, fun phase => Boot.exec_of_effect ?_⟩, fun m h t e => ?_⟩
  · simp only [effect_resetRelease, resetRelease, phase]
    rfl
  · subst e
    obtain ⟨tile, spare, key, region, label, config⟩ := interruptedHomes_granted m h
    dsimp only
    rw [tile, spare, key, region, label, config, interruptedHomes_header, interruptedHomes_stage]
    refine ⟨fun u => ⟨?_, grantedHomes_tile h⟩, fun k => ⟨?_, grantedHomes_spare h⟩, fun k => ⟨?_, grantedHomes_key h⟩,
      ?_, ?_, ?_, ?_, ?_, grantedHomes_region h, ?_, grantedHomes_label h, ?_, grantedHomes_config h⟩
    · rintro ⟨c, rfl, q, flash⟩
      simp [grantedHomes, flash]
    · rintro ⟨c, q, flash⟩
      simp [grantedHomes, flash]
    · rintro ⟨r, key, ⟨q, flash⟩ | ⟨q, flash⟩⟩ <;> simp [grantedHomes, failRecordHome, flash]
    · rintro (⟨x, ⟨q, flash⟩ | ⟨q, flash⟩⟩ | ⟨q, flash⟩ | mem)
      · simp [grantedHomes, flash]
      · simp [grantedHomes, flash]
      · simp [grantedHomes, failRecordHome, flash]
      · exact if_pos mem
    · rintro ⟨other, record, absent⟩
      rw [if_neg absent]
      exact grantedHomes_header h other record
    · rintro ⟨r, a, b, ⟨q, flash⟩ | ⟨q, flash⟩ | mem⟩
      · simp [grantedHomes, failRecordHome, flash]
      · simp [grantedHomes, failRecordHome, flash]
      · exact if_pos (any_isStageProgram.2 ⟨r, a, b, mem⟩)
    · intro other
      have absent : ¬m.programs.any isStageProgram = true := fun there => by
        obtain ⟨r, a, b, mem | mem⟩ := any_isStageProgram.1 there
        · exact (other r a b).2.2.1 mem
        · exact (other r a b).2.2.2 mem
      rw [if_neg absent]
      exact grantedHomes_stage h fun r a b => ⟨(other r a b).1, (other r a b).2.1⟩
    · rintro ⟨r, x, v, q, flash⟩
      simp [grantedHomes, failRecordHome, flash]
    · rintro ⟨r, x, v, q, flash⟩
      simp [grantedHomes, failRecordHome, flash]
    · rintro ⟨r, x, q, flash⟩
      simp [grantedHomes, failRecordHome, flash]

end Sys2Proof.Proofs.Resets
end

section
/-! Numbers, frames, tiles and bodies are read back from their bytes (R167, R168, R190 to R192). -/

namespace Sys2Proof.Proofs.Layouts

open Sys2Proof Sys2Proof.Machine Sys2Proof.Proofs.Frames Sys2Proof.Proofs.Steps

/-! ## Numbers -/

/-- The two bytes of a number (R190). -/
theorem bytesOfNat_two (n : Nat) : bytesOfNat 2 n = [BitVec.ofNat 8 (n / 256), BitVec.ofNat 8 n] := rfl

theorem natOfBytes_pair (a b : Byte) : natOfBytes [a, b] = a.toNat * 256 + b.toNat := by
  simp [natOfBytes]

/-- The number that two bytes of a number below 65536 carry. -/
theorem natOfBytes_two {n : Nat} (h : n < 65536) :
    natOfBytes [BitVec.ofNat 8 (n / 256), BitVec.ofNat 8 n] = n := by
  rw [natOfBytes_pair, BitVec.toNat_ofNat, BitVec.toNat_ofNat]
  omega

/-- The bytes of a number that fits them, least significant first, give it back (section 10.7). -/
theorem natOfLeBytes_leBytes (w n : Nat) (h : n < 256 ^ w) : natOfLeBytes (leBytes w n) = n := by
  induction w generalizing n with
  | zero => simp [leBytes, natOfLeBytes] at h ⊢; omega
  | succ w ih =>
    have hlow : n / 256 < 256 ^ w := by rw [Nat.pow_succ] at h; omega
    have hrest : (leBytes w (n / 256)).foldr (fun b n => b.toNat + 256 * n) 0 = n / 256 := ih _ hlow
    simp only [leBytes, natOfLeBytes, List.foldr_cons, hrest, BitVec.toNat_ofNat]
    omega

theorem length_leBytes (w n : Nat) : (leBytes w n).length = w := by
  induction w generalizing n with
  | zero => rfl
  | succ w ih => simp [leBytes, ih]

/-! ## Tiles -/

/-- The number that a tile's values make, 10 bits each (section 10.7). -/
def packed (xs : List Int) : Nat :=
  xs.foldr (fun x n => (x % 1024).toNat + 1024 * n) 0

theorem packed_lt (xs : List Int) : packed xs < 1024 ^ xs.length := by
  induction xs with
  | nil => simp [packed]
  | cons x xs ih =>
    simp only [packed, List.foldr_cons, List.length_cons, Nat.pow_succ] at ih ⊢
    omega

/-- Value k stands in bits 10k to 10k + 9. -/
theorem packed_digit (xs : List Int) (k : Nat) (hk : k < xs.length) :
    packed xs / 1024 ^ k % 1024 = (xs[k] % 1024).toNat := by
  induction xs generalizing k with
  | nil => simp at hk
  | cons x xs ih =>
    have hcons : packed (x :: xs) = (x % 1024).toNat + 1024 * packed xs := rfl
    have hx : (x % 1024).toNat < 1024 := by omega
    rw [hcons]
    cases k with
    | zero => simp only [Nat.pow_zero, Nat.div_one, List.getElem_cons_zero]; omega
    | succ k =>
      have hdiv : ((x % 1024).toNat + 1024 * packed xs) / 1024 = packed xs := by omega
      rw [Nat.pow_succ', ← Nat.div_div_eq_div_mul, hdiv, List.getElem_cons_succ]
      exact ih k (by simpa using hk)

theorem signed10_toNat_emod {x : Int} (h : -512 ≤ x ∧ x ≤ 511) : signed10 (x % 1024).toNat = x := by
  unfold signed10
  split <;> omega

/-- The 32 values of a tile are read back from its 40 bytes. -/
theorem unpackTile_packTile (v : TileValues) (h : ∀ k : Fin 32, -512 ≤ v[k] ∧ v[k] ≤ 511) :
    unpackTile (packTile v) = some v := by
  have hfit : packed v.toList < 256 ^ 40 := by
    have hlt := packed_lt v.toList
    rw [Vector.length_toList] at hlt
    exact hlt
  have hback : natOfLeBytes (packTile v) = packed v.toList := natOfLeBytes_leBytes 40 _ hfit
  have hlen : (packTile v).length = 40 := length_leBytes 40 _
  unfold unpackTile
  rw [if_pos hlen, hback]
  refine congrArg some (Vector.ext fun k hk => ?_)
  rw [Vector.getElem_ofFn, packed_digit _ _ (by simpa using hk), Vector.getElem_toList]
  exact signed10_toNat_emod (h ⟨k, hk⟩)

/-! ## Bodies -/

/-- Fields of a byte number and a length of two bytes are split again from their bytes. -/
theorem splitFields_fieldBytes (fs : List Field) (n : Nat) (hn : fs.length ≤ n)
    (h : ∀ f ∈ fs, f.1 < 256 ∧ f.2.length < 65536) : splitFields n (fieldBytes fs) = some fs := by
  induction fs generalizing n with
  | nil => cases n <;> rfl
  | cons f fs ih =>
    obtain ⟨num, value⟩ := f
    obtain ⟨hnum, hvalue⟩ := h (num, value) List.mem_cons_self
    have hbytes : fieldBytes ((num, value) :: fs) =
        BitVec.ofNat 8 num :: BitVec.ofNat 8 (value.length / 256) :: BitVec.ofNat 8 value.length ::
          (value ++ fieldBytes fs) := rfl
    cases n with
    | zero => simp at hn
    | succ n =>
      have hrest := ih n (by simpa using hn) fun f hf => h f (List.mem_cons_of_mem _ hf)
      rw [hbytes]
      simp only [splitFields, natOfBytes_two hvalue, List.length_append, List.drop_left, List.take_left, hrest,
        BitVec.toNat_ofNat, Option.map_some]
      rw [if_neg (by omega), Nat.mod_eq_of_lt (by omega)]

theorem length_le_length_fieldBytes (fs : List Field) : fs.length ≤ (fieldBytes fs).length := by
  induction fs with
  | nil => simp
  | cons f fs ih =>
    simp only [fieldBytes, List.flatMap_cons, List.length_append, List.length_cons] at ih ⊢
    omega

/-- Fields in rising order within the owning rule's list are read back from their bytes (R192). -/
theorem bodyFields_fieldBytes (count : Nat) (fs : List Field) (hcount : count ≤ 255)
    (hrising : rising (fs.map (·.1)) = true) (h : ∀ f ∈ fs, 1 ≤ f.1 ∧ f.1 ≤ count ∧ f.2.length < 65536) :
    bodyFields count (fieldBytes fs) = some fs := by
  have hsplit := splitFields_fieldBytes fs _ (length_le_length_fieldBytes fs) fun f hf =>
    ⟨by have := h f hf; omega, (h f hf).2.2⟩
  have hall : ((fs.map (·.1)).all fun n => decide (1 ≤ n) && decide (n ≤ count)) = true := by
    simp only [List.all_map, List.all_eq_true, Function.comp, Bool.and_eq_true, decide_eq_true_eq]
    exact fun f hf => ⟨(h f hf).1, (h f hf).2.1⟩
  simp only [bodyFields, hsplit, Option.bind_some, hrising, hall, Bool.and_self, if_true]

/-! ## Request records -/

/-- The record that a REQUEST transaction carries, whatever follows it (R190, R191). -/
theorem spiRequest_requestBytes (kind tag : Byte) (body extra : List Byte) (h : body.length ≤ 298) :
    spiRequest (requestBytes kind tag body extra) = .record kind tag body := by
  have hlen : ¬ (body.length + 2 < 2 ∨ 300 < body.length + 2) := by omega
  have hlong : ¬ (body.length + extra.length + 1 + 1 < body.length + 2) := by omega
  simp only [spiRequest, requestBytes, bytesOfNat_two, List.cons_append, List.nil_append,
    natOfBytes_two (show body.length + 2 < 65536 by omega), if_neg hlen, List.take_succ_cons, List.take_left,
    List.length_cons, List.length_append, if_neg hlong]
  rfl

/-- A transaction that ends before its record is whole is cut short (R191). -/
theorem spiRequest_cut {len : Nat} {part : List Byte} (h2 : 2 ≤ len) (h300 : len ≤ 300) (hpart : part.length < len) :
    spiRequest (0x01#8 :: (bytesOfNat 2 len ++ part)) = .cut := by
  have hlen : ¬ (len < 2 ∨ 300 < len) := by omega
  simp only [spiRequest, bytesOfNat_two, List.cons_append, List.nil_append,
    natOfBytes_two (show len < 65536 by omega), if_neg hlen, List.take_of_length_le (Nat.le_of_lt hpart)]
  match part, hpart with
  | [], _ => rfl
  | [_], _ => rfl
  | _ :: _ :: _, hpart => simp only [if_pos hpart]; rfl

/-- A length outside 2..300 has the transaction ignored (R191). -/
theorem spiRequest_badLength {len : Nat} {part : List Byte} (h : len < 65536) (hlen : len < 2 ∨ 300 < len) :
    spiRequest (0x01#8 :: (bytesOfNat 2 len ++ part)) = .ignored := by
  simp only [spiRequest, bytesOfNat_two, List.cons_append, List.nil_append, natOfBytes_two h, if_pos hlen]
  rfl

/-- A transaction of an unknown type is ignored (R191). -/
theorem spiRequest_unknown {b : Byte} {rest : List Byte} (h1 : b ≠ 0x01#8) (h2 : b ≠ 0x02#8) (h3 : b ≠ 0x03#8) :
    spiRequest (b :: rest) = .ignored := by
  simp only [spiRequest, h1, h2, h3, or_self, if_false, ne_eq, not_false_eq_true, if_true]

/-- Settles O12. -/
theorem layoutsAreReadBack : Obligations.LayoutsAreReadBack :=
  ⟨fun v h => ⟨length_leBytes 40 _, unpackTile_packTile v h⟩, bodyFields_fieldBytes, spiRequest_requestBytes,
    fun _ _ => spiRequest_cut, fun _ _ => spiRequest_badLength, fun _ _ => spiRequest_unknown⟩

/-! ## Frames -/

/-- A station may send REQUEST and IDLE_MARK frames (R168). -/
theorem stationFrameKind_addressKind {k : FrameKind} (st : Station) (h : k ≠ .reply) :
    stationFrameKind (addressKind k st) = some k := by
  revert st
  cases k with
  | reply => exact absurd rfl h
  | request | idleMark => decide

theorem frameStation_addressKind (k : FrameKind) (st : Station) : frameStation (addressKind k st) = st := by
  revert st
  cases k <;> decide

/-- No frame of a station is a REPLY (R168). -/
theorem stationFrameKind_reply (st : Station) : stationFrameKind (addressKind .reply st) = none := by
  revert st
  decide

theorem frameOpen_header (a tag h l : Byte) (more : List Byte) :
    frameOpen (a :: tag :: h :: l :: more) =
      ((stationFrameKind a).isSome &&
        (decide (natOfBytes [h, l] ≤ 300) && decide (more.length < natOfBytes [h, l] + 2))) := rfl

/-- The judgement of a frame at its last character turns on its CRC (R168). -/
theorem judgeFrame_whole {k : FrameKind} {a tag h l c d : Byte} {payload : List Byte}
    (hkind : stationFrameKind a = some k) (hlen : natOfBytes [h, l] = payload.length) (h300 : payload.length ≤ 300) :
    judgeFrame (a :: tag :: h :: l :: (payload ++ [c, d])) =
      if natOfBytes [c, d] = (crc16 (a :: tag :: h :: l :: payload)).toNat then .good k (frameStation a) tag payload
      else .badCrc := by
  have hclosed : frameOpen (a :: tag :: h :: l :: (payload ++ [c, d])) = false := by
    simp [frameOpen_header, hlen]
  have hlast : (a :: tag :: h :: l :: (payload ++ [c, d])).dropLast = a :: tag :: h :: l :: (payload ++ [c]) := by
    have happ : a :: tag :: h :: l :: (payload ++ [c, d]) = (a :: tag :: h :: l :: (payload ++ [c])) ++ [d] := by simp
    rw [happ, List.dropLast_concat]
  have hopen : frameOpen (a :: tag :: h :: l :: (payload ++ [c])) = true := by
    simp [frameOpen_header, hlen, hkind, h300]
  have hlong : ¬ 300 < payload.length := by omega
  simp only [judgeFrame, hclosed, hlast, hopen, hkind, hlen, hlong, Bool.false_eq_true, if_false, Bool.not_true,
    List.take_left, List.drop_left]

/-- The address and kind character of a kind that no station sends makes the frame bad (R168). -/
theorem judgeFrame_badKind {a : Byte} (h : stationFrameKind a = none) : judgeFrame [a] = .badKind := by
  have hopen : frameOpen [a] = false := by simp [frameOpen, h]
  have hempty : frameOpen [a].dropLast = true := rfl
  simp only [judgeFrame, hopen, hempty, h, Bool.false_eq_true, if_false, Bool.not_true]

/-- A length above 300 makes the frame bad (R168). -/
theorem judgeFrame_badLength {a tag h l : Byte} (hkind : (stationFrameKind a).isSome = true)
    (hlen : 300 < natOfBytes [h, l]) : judgeFrame [a, tag, h, l] = .badLength := by
  obtain ⟨k, hk⟩ := Option.isSome_iff_exists.1 hkind
  have hclosed : frameOpen [a, tag, h, l] = false := by
    rw [frameOpen_header, decide_eq_false (Nat.not_le.2 hlen)]
    simp
  have hopen : frameOpen [a, tag, h, l].dropLast = true := by simp [frameOpen, hk]
  simp only [judgeFrame, hclosed, hopen, hk, Bool.false_eq_true, if_false, Bool.not_true, if_pos hlen]

/-- The characters of a station's frame give its kind, station, tag and payload (R167, R168). -/
theorem judgeFrame_frameChars {k : FrameKind} (st : Station) (tag : Byte) {payload : List Byte} (hk : k ≠ .reply)
    (h300 : payload.length ≤ 300) : judgeFrame (frameChars k st tag payload) = .good k st tag payload := by
  have hwhole := judgeFrame_whole (k := k) (a := addressKind k st) (tag := tag)
    (c := BitVec.ofNat 8 ((crc16 (addressKind k st :: tag :: bytesOfNat 2 payload.length ++ payload)).toNat / 256))
    (d := BitVec.ofNat 8 (crc16 (addressKind k st :: tag :: bytesOfNat 2 payload.length ++ payload)).toNat)
    (stationFrameKind_addressKind st hk) (natOfBytes_two (show payload.length < 65536 by omega)) h300
  rw [natOfBytes_two (BitVec.isLt _), frameStation_addressKind] at hwhole
  exact hwhole.trans (if_pos rfl)

/-- A CRC that differs makes the frame bad (R168). -/
theorem judgeFrame_badCrc {k : FrameKind} {st : Station} {tag c d : Byte} {payload : List Byte} (hk : k ≠ .reply)
    (h300 : payload.length ≤ 300)
    (hcrc : natOfBytes [c, d] ≠
      (crc16 (addressKind k st :: tag :: bytesOfNat 2 payload.length ++ payload)).toNat) :
    judgeFrame (addressKind k st :: tag :: bytesOfNat 2 payload.length ++ payload ++ [c, d]) = .badCrc := by
  have hwhole := judgeFrame_whole (k := k) (a := addressKind k st) (tag := tag) (c := c) (d := d)
    (stationFrameKind_addressKind st hk) (natOfBytes_two (show payload.length < 65536 by omega)) h300
  exact hwhole.trans (if_neg hcrc)

/-- Settles O11. -/
theorem framesAreJudged : Obligations.FramesAreJudged := by
  refine ⟨fun k st tag payload => judgeFrame_frameChars st tag, fun st => judgeFrame_badKind (stationFrameKind_reply st),
    fun chars hne hopen => ?_, fun a h => ?_, fun a tag h l hkind hlen => ?_,
    fun k st tag c d payload hk h300 hcrc => ?_⟩
  · simp [badVerdict, hne, hopen]
  · simp [badVerdict, judgeFrame_badKind h]
  · simp [badVerdict, judgeFrame_badLength hkind hlen]
  · simp only [badVerdict, judgeFrame_badCrc hk h300 hcrc, Bool.false_eq_true, if_false]

end Sys2Proof.Proofs.Layouts
end

section
/-! The transactions on the two SPI ports (R115 to R118, R129, R133, R180, R181): what a request record is answered with,
what a REPLY and a STATUS transaction shift out, and how a run is delivered. -/

namespace Sys2Proof.Proofs.Ports

open Sys2Proof Sys2Proof.Machine Sys2Proof.Proofs.Frames Sys2Proof.Proofs.Steps Sys2Proof.Proofs.Boot

/-! ## A rise, part by part -/

/-- The counters after a rise. -/
def risen (m : Master) (k : CounterKind) (n : Nat) (c : Mct) : Mct :=
  let total := (c.counter[counterIndex m k]).toNat + n
  { counter := c.counter.set (counterIndex m k) (BitVec.ofNat 32 total),
    wrap := if total < 4294967296 then c.wrap else c.wrap.set (counterIndex m k) true }

/-- The event flags after a rise. -/
def risenFlags (m : Master) (k : CounterKind) (n : Nat) (c : Mct) (flags : BitVec 13) : BitVec 13 :=
  if (c.counter[counterIndex m k]).toNat + n < 4294967296 then flags else flags ||| eventMask .counterWrap

/-- A rise reads and changes nothing but the counters and the event flags. -/
theorem rise_parts (m : Master) (k : CounterKind) (n : Nat) (s : State) :
    rise m k n s =
      { s with mct := risen m k n s.mct, syp := { s.syp with flags := risenFlags m k n s.mct s.syp.flags } } := by
  unfold rise risen risenFlags
  dsimp only
  split <;> rfl

/-! ## Replies into a slot -/

/-- The reply to PANEL's outstanding request enters the reply slot (R115). -/
theorem routeReply_panel {n : Nat} {s : State} (r : Reply) (pending : s.pnp.pending = some n) :
    routeReply .panel n r s = { s with pnp := { s.pnp with pending := none, slot := some r } } :=
  if_pos pending

/-- The reply to SYSTEM's outstanding request enters the reply slot (R180). -/
theorem routeReply_system {n : Nat} {s : State} (r : Reply) (pending : s.syp.pending = some n) :
    routeReply .system n r s = { s with syp := { s.syp with pending := none, slot := some r } } :=
  if_pos pending

/-! ## Request records -/

theorem panelRequest_record {s : State} {mosi : List Byte} {kind tag : Byte} {body : List Byte}
    (record : spiRequest mosi = .record kind tag body) :
    exec (.panelRequestTransaction mosi) s = .next (panelRecord kind tag body s) := by
  refine exec_of_effect ?_
  simp only [effect_panelRequestTransaction, panelRequestTransaction, record]

theorem systemRequest_record {s : State} {mosi : List Byte} {kind tag : Byte} {body : List Byte}
    (record : spiRequest mosi = .record kind tag body) :
    exec (.systemRequestTransaction mosi) s = .next (systemRecord kind tag body s) := by
  refine exec_of_effect ?_
  simp only [effect_systemRequestTransaction, systemRequestTransaction, record]

/-- A record of the catalogue goes to its owning block (R119). -/
theorem takeRequest_known {kind : Byte} {k : Kind} (m : Master) (tag : Byte) (body : List Byte) (s : State)
    (known : kindOfCode kind = some k) :
    takeRequest m kind tag body s =
      { rise m .taken 1 s with
        inbox := s.inbox ++ [{ master := m, ticket := s.book.ticket, kind := k, tag := tag, body := body }],
        book := { s.book with ticket := s.book.ticket + 1 } } := by
  simp only [takeRequest, known, rise_parts]
  rfl

/-- A record whose kind is not in the catalogue is answered BAD_ARG (R171, R180). -/
theorem takeRequest_unknown {kind : Byte} (m : Master) (tag : Byte) (body : List Byte) (s : State)
    (unknown : kindOfCode kind = none) :
    takeRequest m kind tag body s =
      routeReply m s.book.ticket { kind := kind, tag := tag, status := .badArg, body := .empty }
        { rise m .refused 1 (rise m .taken 1 s) with book := { s.book with ticket := s.book.ticket + 1 } } := by
  simp only [takeRequest, unknown, countReply, rise_parts]
  rfl

/-- The panel side after a PANEL_HELLO that its port takes (R133): `counted` is the state that the reply's count gives. -/
theorem panelHello_taken (tag : Byte) (body : List Byte) (s : State) :
    takeHello tag body s =
      let fresh := resetPanelSide { master := .panel, ticket := s.book.ticket, kind := .panelHello, tag := tag, body := body }
        (rise .panel .taken 1 (s.setBook { s.book with ticket := s.book.ticket + 1 }))
      if noArguments body then
        { fresh with
          pnp := { fresh.pnp with
            pending := none
            slot := some { kind := kindCode .panelHello, tag := tag, status := .ok, body := .profile (profileOf s) } } }
      else
        { rise .panel .refused 1 fresh with
          pnp := { fresh.pnp with
            pending := none
            slot := some { kind := kindCode .panelHello, tag := tag, status := .badArg, body := .empty } } } := by
  have asked : (Master.panel != Master.panel) = false := rfl
  cases empty : noArguments body with
  | false =>
    simp only [takeHello, panelHello, asked, empty, Bool.false_eq_true, if_false, Bool.not_false, if_true, refuse, reply,
      countReply]
    rw [routeReply_panel _ (by rw [rise_parts]; rfl)]
    simp only [rise_parts]
  | true =>
    simp only [takeHello, panelHello, asked, empty, Bool.false_eq_true, if_false, Bool.not_true, if_true, reply,
      countReply]
    rw [routeReply_panel _ rfl]
    simp only [rise_parts]
    rfl

/-- Settles O19, by what the bytes hold and by the acceptance. -/
theorem requestTransactionsAreAccepted : Obligations.RequestTransactionsAreAccepted := by
  intro s mosi
  refine ⟨fun cut => ⟨exec_of_effect ?_, exec_of_effect ?_⟩, fun ignored => ⟨exec_of_effect ?_, exec_of_effect ?_⟩,
    fun kind tag body record => ?_⟩
  · simp only [effect_panelRequestTransaction, panelRequestTransaction, cut]
  · simp only [effect_systemRequestTransaction, systemRequestTransaction, cut]
  · simp only [effect_panelRequestTransaction, panelRequestTransaction, ignored, ignoredBytes]
  · simp only [effect_systemRequestTransaction, systemRequestTransaction, ignored, ignoredBytes]
  rw [panelRequest_record record, systemRequest_record record]
  refine ⟨fun starting => ⟨congrArg _ ?_, congrArg _ ?_⟩, fun done outstanding other => congrArg _ ?_,
    fun done outstanding => congrArg _ ?_, fun done hello => ⟨fun empty => ⟨_, rfl, ?_⟩, fun given => ⟨_, rfl, ?_⟩⟩,
    fun done free other => ⟨fun k known => congrArg _ ?_, fun unknown => congrArg _ ?_⟩,
    fun done free => ⟨fun k known => ⟨_, rfl, ?_⟩, fun unknown => ⟨_, rfl, ?_⟩⟩⟩
  · simp only [panelRecord, starting]; rfl
  · simp only [systemRecord, starting]; rfl
  · simp only [panelRecord, done, other, outstanding]; rfl
  · simp only [systemRecord, done, outstanding]; rfl
  · have nothing : noArguments ([] : List Byte) = true := rfl
    simp only [panelRecord, done, hello, panelHello_taken, empty, nothing, rise_parts, Bool.not_true, Bool.false_eq_true,
      if_false, if_true, resetPanelSide, setPanelOp, panelOut, State.setBook, State.setPnp, State.setInbox, State.setPcd,
      State.setTlc]
    rfl
  · have nonempty : noArguments body = false := by simp [noArguments, given]
    simp only [panelRecord, done, hello, panelHello_taken, nonempty, rise_parts, Bool.not_true, Bool.false_eq_true,
      if_false, resetPanelSide, setPanelOp, panelOut, State.setBook, State.setPnp, State.setInbox, State.setPcd,
      State.setTlc]
    rfl
  · simp only [panelRecord, done, other, free, takeRequest_known _ _ _ _ known, rise_parts]; rfl
  · simp only [panelRecord, done, other, free, takeRequest_unknown _ _ _ _ unknown]
    rw [routeReply_panel _ (by simp only [rise_parts]; rfl)]
    simp only [rise_parts]; rfl
  · simp only [systemRecord, done, free, takeRequest_known _ _ _ _ known, rise_parts]
    exact ⟨rfl, rfl, rfl⟩
  · simp only [systemRecord, done, free, takeRequest_unknown _ _ _ _ unknown]
    rw [routeReply_system _ (by simp only [rise_parts]; rfl)]
    simp only [rise_parts]
    exact ⟨rfl, rfl⟩

end Sys2Proof.Proofs.Ports
end

section
/-! REPLY and STATUS transactions on the two SPI ports, the output lines, and the delivery of a run (R117, R118, R122,
R123, R129, R180, R181). -/

namespace Sys2Proof.Proofs.Delivery

open Sys2Proof Sys2Proof.Machine Sys2Proof.Proofs.Frames Sys2Proof.Proofs.Steps Sys2Proof.Proofs.Boot
open Sys2Proof.Proofs.Ports

/-! ## REPLY transactions -/

theorem length_slotBytes (r : Reply) : (slotBytes (some r)).length = 2 + (replyBytes r).length := by
  simp [slotBytes, bytesOfNat]
  omega

theorem slotBytes_none : slotBytes none = [0x00#8, 0x00#8] := rfl

/-- A reply of no run leaves nothing but an empty slot (R117). -/
theorem deliverPanel_plain {r : Reply} (s : State) (plain : ∀ t n xs, r.body ≠ .run t n xs) :
    deliverPanel r s = s.setPnp { s.pnp with slot := none } := by
  unfold deliverPanel
  dsimp only
  split
  next t n xs body => exact absurd body (plain t n xs)
  next => rfl

theorem deliverPanel_run {r : Reply} {t : TileNo} {n : Nat} {xs : List RunTile} (s : State) (body : r.body = .run t n xs) :
    deliverPanel r s = deliverRun xs (s.setPnp { s.pnp with slot := none }) := by
  simp only [deliverPanel, body]

theorem deliverPanel_slot (r : Reply) (s : State) : (deliverPanel r s).pnp.slot = none := by
  unfold deliverPanel
  dsimp only
  split <;> simp

theorem panelReply_whole {s : State} {clocks : Nat} {r : Reply} (slot : s.pnp.slot = some r)
    (whole : 2 + (replyBytes r).length ≤ clocks) :
    panelReplyTransaction clocks s = deliverPanel r (panelOut (.bytes ((slotBytes (some r)).take clocks)) s) := by
  simp only [panelReplyTransaction, slot, length_slotBytes, if_pos whole]

theorem panelReply_cut {s : State} {clocks : Nat} {r : Reply} (slot : s.pnp.slot = some r)
    (cut : ¬2 + (replyBytes r).length ≤ clocks) :
    panelReplyTransaction clocks s = panelOut (.bytes ((slotBytes (some r)).take clocks)) s := by
  simp only [panelReplyTransaction, slot, length_slotBytes, if_neg cut]

/-! ## The lines -/

theorem startupDone_iff (s : State) : startupDone s = true ↔ s.boot.phase = .done := by
  simp [startupDone]

theorem flagSet_iff_masked (s : State) :
    (s.syp.flags &&& s.syp.mask) ≠ 0#13 ↔
      ∃ e : Event, flagSet e s = true ∧ s.syp.mask.getLsbD (eventBit e) = true := by
  have bits : ∀ i : Fin 13, ∃ e : Event, eventBit e = i.val := by
    intro i
    fin_cases i
    exacts [⟨.jobEnded, rfl⟩, ⟨.tileRepaired, rfl⟩, ⟨.tileLost, rfl⟩, ⟨.linkWarning, rfl⟩, ⟨.linkGuarded, rfl⟩,
      ⟨.linkSilent, rfl⟩, ⟨.linkReleased, rfl⟩, ⟨.flashWorn, rfl⟩, ⟨.noticeOverflow, rfl⟩, ⟨.counterWrap, rfl⟩,
      ⟨.configDefaulted, rfl⟩, ⟨.mapHeaderLost, rfl⟩, ⟨.stageChanged, rfl⟩]
  constructor
  · intro some_bit
    by_contra no_event
    refine some_bit (BitVec.eq_of_getLsbD_eq fun i hi => ?_)
    obtain ⟨e, he⟩ := bits ⟨i, hi⟩
    have off : ¬(flagSet e s = true ∧ s.syp.mask.getLsbD (eventBit e) = true) := fun on => no_event ⟨e, on⟩
    simp only [flagSet, he] at off
    simpa using off
  · rintro ⟨e, flag, mask⟩ none_set
    have bit := congrArg (fun w => BitVec.getLsbD w (eventBit e)) none_set
    simp only [flagSet] at flag
    simp [flag, mask] at bit

/-- Settles O20. -/
theorem repliesAreReadOutAndLinesFollow : Obligations.RepliesAreReadOutAndLinesFollow := by
  intro s clocks
  refine ⟨fun r slot => exec_of_effect ?_, fun slot => exec_of_effect ?_, fun r slot plain => exec_of_effect ?_,
    fun slot => exec_of_effect ?_, rfl, rfl, ?_, ?_, ?_, fun r slot whole => ⟨_, rfl, ?_⟩⟩
  · simp only [effect_systemReplyTransaction, systemReplyTransaction, slot, length_slotBytes]
    split
    next => rfl
    next => simp only [systemOut, slotBytes, slot]
  · simp only [effect_systemReplyTransaction, systemReplyTransaction, slot, slotBytes_none, systemOut]
  · rw [effect_panelReplyTransaction]
    by_cases whole : 2 + (replyBytes r).length ≤ clocks
    · have other := plain.resolve_right (Nat.not_lt.2 whole)
      rw [panelReply_whole slot whole, deliverPanel_plain _ other, if_pos whole]
      rfl
    · rw [panelReply_cut slot whole, if_neg whole]
      simp only [panelOut, slotBytes, slot]
  · simp only [effect_panelReplyTransaction, panelReplyTransaction, slot, slotBytes_none, panelOut]
  · rw [pnrdy, Bool.and_eq_true, startupDone_iff, Option.isSome_iff_exists]
  · simp [pnattn, startupDone_iff]
  · rw [sysAttn, Bool.and_eq_true, startupDone_iff, Bool.or_eq_true, Option.isSome_iff_exists, bne_iff_ne,
      flagSet_iff_masked]
  · rw [panelReply_whole slot whole, pnrdy, deliverPanel_slot]
    simp

/-! ## The delivery of a run -/

/-- What the delivery of its run makes of a directory entry (R129). -/
def afterDelivery : DirState → DirState
  | .sending => .current
  | .sendingChanged => .stale
  | d => d

/-- The run's tiles are delivered in order. -/
def deliverTiles (xs : List RunTile) (s : State) : State :=
  xs.foldl (fun (s : State) (x : RunTile) => deliverTile x s) s

theorem deliverTiles_cons (x : RunTile) (xs : List RunTile) (s : State) :
    deliverTiles (x :: xs) s = deliverTiles xs (deliverTile x s) := rfl

theorem deliverRun_eq (xs : List RunTile) (s : State) :
    deliverRun xs s =
      rise .panel .faults (tilesWith .fault xs) (rise .panel .tiles (tilesWith .ok xs) (deliverTiles xs s)) := rfl

/-- A delivered tile changes the directory, the notices and the event flags alone. -/
theorem deliverTile_form (x : RunTile) (s : State) :
    ∃ p f, deliverTile x s = { s with pcd := p, syp := { s.syp with flags := f } } ∧ p.scan = s.pcd.scan := by
  unfold deliverTile appendNotice
  repeat' split
  all_goals exact ⟨_, _, rfl, rfl⟩

theorem deliverTiles_form (xs : List RunTile) (s : State) :
    ∃ p f, deliverTiles xs s = { s with pcd := p, syp := { s.syp with flags := f } } ∧ p.scan = s.pcd.scan := by
  induction xs generalizing s with
  | nil => exact ⟨_, _, rfl, rfl⟩
  | cons x xs ih =>
    obtain ⟨p, f, tile, scan⟩ := deliverTile_form x s
    obtain ⟨q, g, tiles, scan'⟩ := ih (deliverTile x s)
    rw [tile] at tiles scan'
    exact ⟨q, g, by rw [deliverTiles_cons, tile, tiles], scan'.trans scan⟩

theorem dirOf_deliverTile (x : RunTile) (u : TileNo) (s : State) :
    dirOf u (deliverTile x s) = if u = x.tile then afterDelivery (dirOf u s) else dirOf u s := by
  by_cases same : u = x.tile
  · subst same
    rw [if_pos rfl]
    unfold deliverTile
    cases dir : dirOf x.tile s with
    | sending => exact (dirOf_setDir ..).trans (if_pos rfl)
    | sendingChanged =>
      have kept : dirOf x.tile (appendNotice x.tile (setDir x.tile .stale s)) = dirOf x.tile (setDir x.tile .stale s) := by
        rw [dirOf, appendNotice_dir, dirOf]
      exact kept.trans ((dirOf_setDir ..).trans (if_pos rfl))
    | absent | current | stale | waiting => exact dir
  · rw [if_neg same]
    unfold deliverTile
    cases dirOf x.tile s with
    | sending => exact (dirOf_setDir ..).trans (if_neg same)
    | sendingChanged =>
      have kept : dirOf u (appendNotice x.tile (setDir x.tile .stale s)) = dirOf u (setDir x.tile .stale s) := by
        rw [dirOf, appendNotice_dir, dirOf]
      exact kept.trans ((dirOf_setDir ..).trans (if_neg same))
    | absent | current | stale | waiting => rfl

theorem afterDelivery_idem (d : DirState) : afterDelivery (afterDelivery d) = afterDelivery d := by
  cases d <;> rfl

theorem dirOf_deliverTiles (xs : List RunTile) (u : TileNo) (s : State) :
    dirOf u (deliverTiles xs s) = if u ∈ xs.map (·.tile) then afterDelivery (dirOf u s) else dirOf u s := by
  induction xs generalizing s with
  | nil => simp [deliverTiles]
  | cons x xs ih =>
    rw [deliverTiles_cons, ih, dirOf_deliverTile]
    by_cases first : u = x.tile
    · simp [first, afterDelivery_idem]
    · simp [first]

theorem deliverTile_quiet {x : RunTile} {s : State} (h : dirOf x.tile s ≠ .sendingChanged) :
    (deliverTile x s).pcd.notices = s.pcd.notices ∧ (deliverTile x s).pcd.overflow = s.pcd.overflow := by
  unfold deliverTile
  split <;> first | exact ⟨rfl, rfl⟩ | exact absurd ‹_› h

theorem deliverTile_changed {x : RunTile} {s : State} (h : dirOf x.tile s = .sendingChanged) :
    deliverTile x s = appendNotice x.tile (setDir x.tile .stale s) := by
  simp only [deliverTile, h]

/-- While the overflow flag is set nothing is appended (R123). -/
theorem deliverTile_overflowed {x : RunTile} {s : State} (h : s.pcd.overflow = true) :
    (deliverTile x s).pcd.notices = s.pcd.notices ∧ (deliverTile x s).pcd.overflow = true := by
  by_cases changed : dirOf x.tile s = .sendingChanged
  · have blocked : (setDir x.tile .stale s).pcd.overflow = true := h
    rw [deliverTile_changed changed, appendNotice, blocked]
    exact ⟨rfl, h⟩
  · obtain ⟨notices, overflow⟩ := deliverTile_quiet changed
    exact ⟨notices, overflow.trans h⟩

theorem deliverTiles_overflowed (xs : List RunTile) {s : State} (h : s.pcd.overflow = true) :
    (deliverTiles xs s).pcd.notices = s.pcd.notices ∧ (deliverTiles xs s).pcd.overflow = true := by
  induction xs generalizing s with
  | nil => exact ⟨rfl, h⟩
  | cons x xs ih =>
    obtain ⟨notices, overflow⟩ := deliverTile_overflowed (x := x) h
    obtain ⟨notices', overflow'⟩ := ih overflow
    exact ⟨notices'.trans notices, overflow'⟩

/-- A notice is appended while there is room (R122). -/
theorem deliverTile_room {x : RunTile} {s : State} (clear : s.pcd.overflow = false) (room : s.pcd.notices.length < 32)
    (new : x.tile ∉ s.pcd.notices) :
    (deliverTile x s).pcd.overflow = false ∧
      (deliverTile x s).pcd.notices =
        s.pcd.notices ++ (if dirOf x.tile s == .sendingChanged then [x.tile] else []) := by
  by_cases changed : dirOf x.tile s = .sendingChanged
  · have append : appendNotice x.tile (setDir x.tile .stale s) =
        (setDir x.tile .stale s).setPcd
          { (setDir x.tile .stale s).pcd with notices := s.pcd.notices ++ [x.tile] } := by
      have fits : ¬Config.noticeRoom ≤ s.pcd.notices.length := Nat.not_le.2 room
      simp [appendNotice, setDir, clear, new, fits]
    rw [deliverTile_changed changed, append, changed]
    exact ⟨clear, rfl⟩
  · obtain ⟨notices, overflow⟩ := deliverTile_quiet changed
    rw [notices, overflow, if_neg (by simpa using changed), List.append_nil]
    exact ⟨clear, rfl⟩

theorem deliverTiles_room {xs : List RunTile} {s : State} (clear : s.pcd.overflow = false)
    (room : s.pcd.notices.length + xs.length ≤ 32) (new : ∀ x ∈ xs, x.tile ∉ s.pcd.notices)
    (distinct : (xs.map (·.tile)).Nodup) :
    (deliverTiles xs s).pcd.overflow = false ∧
      (deliverTiles xs s).pcd.notices =
        s.pcd.notices ++ (xs.filter fun x => dirOf x.tile s == .sendingChanged).map (·.tile) := by
  induction xs generalizing s with
  | nil => exact ⟨clear, (List.append_nil _).symm⟩
  | cons x xs ih =>
    rw [List.length_cons] at room
    rw [List.map_cons, List.nodup_cons] at distinct
    obtain ⟨absent, distinct⟩ := distinct
    have apart : ∀ y ∈ xs, y.tile ≠ x.tile := fun y hy same => absent (same ▸ List.mem_map_of_mem hy)
    obtain ⟨clear', notices⟩ := deliverTile_room clear (by omega) (new x List.mem_cons_self)
    have room' : (deliverTile x s).pcd.notices.length + xs.length ≤ 32 := by
      rw [notices, List.length_append]
      split <;> simp <;> omega
    have new' : ∀ y ∈ xs, y.tile ∉ (deliverTile x s).pcd.notices := by
      intro y hy
      have old := new y (List.mem_cons_of_mem _ hy)
      rw [notices]
      split <;> simp [old, apart y hy]
    have kept : (xs.filter fun y => dirOf y.tile (deliverTile x s) == .sendingChanged) =
        xs.filter fun y => dirOf y.tile s == .sendingChanged :=
      List.filter_congr fun y hy => by rw [dirOf_deliverTile, if_neg (apart y hy)]
    obtain ⟨clear'', notices'⟩ := ih clear' room' new' distinct
    refine ⟨clear'', ?_⟩
    rw [deliverTiles_cons, notices', notices, kept, List.filter_cons, List.append_assoc]
    split <;> rfl

/-- The notice queue has overflowed and is empty (R123). -/
def Overflowed (s : State) : Prop :=
  s.pcd.overflow = true ∧ s.pcd.notices = [] ∧ flagSet .noticeOverflow s = true

theorem flagSet_appendNotice {t : TileNo} {s : State} {e : Event} (h : flagSet e s = true) :
    flagSet e (appendNotice t s) = true := by
  unfold appendNotice
  repeat' split
  · exact h
  · rw [flagSet_raise, Bool.or_eq_true]
    exact .inr h
  · exact h

theorem flagSet_deliverTile {x : RunTile} {s : State} {e : Event} (h : flagSet e s = true) :
    flagSet e (deliverTile x s) = true := by
  unfold deliverTile
  split <;> first | exact h | exact flagSet_appendNotice h

theorem overflowed_deliverTiles (xs : List RunTile) {s : State} (h : Overflowed s) : Overflowed (deliverTiles xs s) := by
  induction xs generalizing s with
  | nil => exact h
  | cons x xs ih =>
    obtain ⟨overflow, empty, flag⟩ := h
    obtain ⟨notices, overflow'⟩ := deliverTile_overflowed (x := x) overflow
    exact ih ⟨overflow', notices.trans empty, flagSet_deliverTile flag⟩

/-- A tile that becomes STALE with 32 tile numbers queued overflows the queue (R123). -/
theorem overflowed_deliverTile {x : RunTile} {s : State} (clear : s.pcd.overflow = false)
    (full : s.pcd.notices.length = 32) (changed : dirOf x.tile s = .sendingChanged) (new : x.tile ∉ s.pcd.notices) :
    Overflowed (deliverTile x s) := by
  have append : appendNotice x.tile (setDir x.tile .stale s) =
      raise .noticeOverflow ((setDir x.tile .stale s).setPcd
        { (setDir x.tile .stale s).pcd with notices := [], overflow := true }) := by
    have spills : Config.noticeRoom ≤ s.pcd.notices.length := full.ge
    simp [appendNotice, setDir, clear, new, spills]
  rw [deliverTile_changed changed, append]
  exact ⟨rfl, rfl, by rw [flagSet_raise]; rfl⟩

/-- With 32 tile numbers queued a delivered tile overflows the queue or leaves it. -/
theorem deliverTile_full (x : RunTile) {s : State} (clear : s.pcd.overflow = false) (full : s.pcd.notices.length = 32) :
    Overflowed (deliverTile x s) ∨
      (deliverTile x s).pcd.overflow = false ∧ (deliverTile x s).pcd.notices = s.pcd.notices := by
  by_cases changed : dirOf x.tile s = .sendingChanged
  · by_cases queued : x.tile ∈ s.pcd.notices
    · refine .inr ?_
      have blocked : appendNotice x.tile (setDir x.tile .stale s) = setDir x.tile .stale s := by
        simp [appendNotice, setDir, queued]
      rw [deliverTile_changed changed, blocked]
      exact ⟨clear, rfl⟩
    · exact .inl (overflowed_deliverTile clear full changed queued)
  · obtain ⟨notices, overflow⟩ := deliverTile_quiet changed
    exact .inr ⟨overflow.trans clear, notices⟩

theorem deliverTiles_overflows {xs : List RunTile} {s : State} {x : RunTile} (mem : x ∈ xs)
    (distinct : (xs.map (·.tile)).Nodup) (clear : s.pcd.overflow = false) (full : s.pcd.notices.length = 32)
    (changed : dirOf x.tile s = .sendingChanged) (new : x.tile ∉ s.pcd.notices) : Overflowed (deliverTiles xs s) := by
  induction xs generalizing s with
  | nil => cases mem
  | cons y ys ih =>
    rw [List.map_cons, List.nodup_cons] at distinct
    obtain ⟨absent, distinct⟩ := distinct
    rw [deliverTiles_cons]
    rcases List.mem_cons.1 mem with rfl | later
    · exact overflowed_deliverTiles _ (overflowed_deliverTile clear full changed new)
    · have apart : x.tile ≠ y.tile := fun same => absent (same ▸ List.mem_map_of_mem later)
      rcases deliverTile_full y clear full with spills | ⟨clear', notices⟩
      · exact overflowed_deliverTiles _ spills
      · refine ih later distinct clear' (by rw [notices, full]) ?_ (by rwa [notices])
        rw [dirOf_deliverTile, if_neg apart, changed]

theorem flagSet_rise {e : Event} {s : State} (m : Master) (k : CounterKind) (n : Nat) (h : flagSet e s = true) :
    flagSet e (rise m k n s) = true := by
  unfold flagSet at h ⊢
  rw [rise_parts]
  simp only [risenFlags]
  split
  next => exact h
  next => simp [h]

theorem rise_pcd (m : Master) (k : CounterKind) (n : Nat) (s : State) : (rise m k n s).pcd = s.pcd := by
  rw [rise_parts]

theorem counterIndex_inj {m : Master} {k l : CounterKind} (h : k ≠ l) : counterIndex m k ≠ counterIndex m l := by
  intro same
  have values : (masterIndex m).val * 4 + (counterKindIndex k).val = (masterIndex m).val * 4 + (counterKindIndex l).val :=
    congrArg Fin.val same
  cases k <;> cases l <;> simp [counterKindIndex] at values h

/-- Settles O21: the tiles of the run in order, then the two counts. -/
theorem runsAreDelivered : Obligations.RunsAreDelivered := by
  intro s r first n xs clocks slot body whole distinct
  have delivered : exec (.panelReplyTransaction clocks) s = .next (deliverRun xs
      { s with pnp := { s.pnp with slot := none, out := .bytes ((slotBytes (some r)).take clocks) } }) := by
    refine exec_of_effect ?_
    rw [effect_panelReplyTransaction, panelReply_whole slot whole, deliverPanel_run _ body]
    rfl
  refine ⟨_, delivered, ?_⟩
  generalize hs : ({ s with pnp := { s.pnp with slot := none, out := .bytes ((slotBytes (some r)).take clocks) } } : State)
    = u
  have pcd : u.pcd = s.pcd := by rw [← hs]
  have mct : u.mct = s.mct := by rw [← hs]
  have dir : ∀ t, dirOf t u = dirOf t s := fun t => by rw [dirOf, pcd, dirOf]
  have final : (deliverRun xs u).pcd = (deliverTiles xs u).pcd := by rw [deliverRun_eq, rise_pcd, rise_pcd]
  obtain ⟨p, f, form, scan⟩ := deliverTiles_form xs u
  have counters : (deliverTiles xs u).mct = s.mct := by rw [form, ← mct]
  rw [← pcd]
  refine ⟨?_, ?_, fun i tiles faults => ?_, fun v => ?_, fun clear room new => ?_,
    fun x mem clear full changed new => ?_, fun spills => ?_, ?_, ?_⟩
  · rw [deliverRun_eq, form, ← hs]
    simp only [rise_parts]
  · rw [final, form, scan]
  · rw [deliverRun_eq, (rise_other _ _ faults).1, (rise_other _ _ tiles).1, counters]
  · have dirs : dirOf v (deliverRun xs u) = dirOf v (deliverTiles xs u) := by rw [dirOf, final, dirOf]
    rw [dirs, dirOf_deliverTiles, ← dir v]
    rfl
  · obtain ⟨clear', notices⟩ := deliverTiles_room clear room new distinct
    rw [final]
    refine ⟨clear', notices.trans ?_⟩
    simp only [dir]
  · obtain ⟨spills, empty, flag⟩ := deliverTiles_overflows mem distinct clear full ((dir _).trans changed) new
    rw [final]
    refine ⟨spills, empty, ?_⟩
    rw [deliverRun_eq]
    exact flagSet_rise _ _ _ (flagSet_rise _ _ _ flag)
  · rw [final]
    exact (deliverTiles_overflowed xs spills).symm
  · have tiles : counterOf .panel .tiles (deliverRun xs u) =
        counterOf .panel .tiles (rise .panel .tiles (tilesWith .ok xs) (deliverTiles xs u)) :=
      (rise_other _ _ (counterIndex_inj (by decide))).1
    rw [tiles, counterOf_rise]
    simp only [counterOf, counters]
    rfl
  · have faults : counterOf .panel .faults (rise .panel .tiles (tilesWith .ok xs) (deliverTiles xs u)) =
        counterOf .panel .faults s :=
      (rise_other _ _ (counterIndex_inj (by decide))).1.trans (by rw [counters]; rfl)
    rw [deliverRun_eq, counterOf_rise, faults]
    rfl

end Sys2Proof.Proofs.Delivery
end

section
/-! The fixture link: the receiver, the counter's moves, and what a REQUEST frame is answered (R166 to R177, R179). -/

namespace Sys2Proof.Proofs.LinkFrames

open Sys2Proof Sys2Proof.Machine Sys2Proof.Proofs.Frames Sys2Proof.Proofs.Steps Sys2Proof.Proofs.Boot
open Sys2Proof.Proofs.Ports

/-! ## Receiver, replies and breaks -/

theorem replyFrameSent_head {s : State} {st : Station} {rest : List Station} {p : Placed}
    (sending : s.fxl.sending = true) (queue : s.fxl.queue = st :: rest) (place : s.fxl.place[st] = some p) :
    replyFrameSent s = s.setFxl (replySent st p s.fxl) := by
  simp only [replyFrameSent, sending, queue, place, if_true]

/-- Settles O22. -/
theorem receiverRepliesAndBreaksMove : Obligations.ReceiverRepliesAndBreaksMove := by
  intro s
  refine ⟨fun hunting quiet => exec_of_effect (if_pos ⟨hunting, quiet⟩), fun dropping => exec_of_effect (if_pos dropping),
    fun hunting quiet queued => exec_of_effect (if_pos ⟨hunting, quiet, queued⟩),
    fun st rest p sending queue place =>
      ⟨_, exec_of_effect (replyFrameSent_head sending queue place), rfl, ?_⟩, fun idle => exec_of_effect ?_⟩
  · cases waits : s.fxl.deferred[st] with
    | none =>
      have sent : replySent st p s.fxl =
          { s.fxl with
            sending := false, out := replyFrame st p.reply, queue := rest, place := s.fxl.place.set st none,
            outstanding := if p.own then s.fxl.outstanding.set st none else s.fxl.outstanding } := by
        simp only [replySent, placeDeferred, waits, queue, List.tail_cons]
      rw [sent]
      exact ⟨rfl, rfl, rfl, fun _ => ⟨rfl, rfl, rfl⟩, fun r some_waits => (nomatch some_waits)⟩
    | some r =>
      have sent : replySent st p s.fxl =
          { s.fxl with
            sending := false, out := replyFrame st p.reply, queue := rest ++ [st],
            place := (s.fxl.place.set st none).set st (some { reply := r, own := true }),
            deferred := s.fxl.deferred.set st none,
            outstanding := if p.own then s.fxl.outstanding.set st none else s.fxl.outstanding } := by
        simp only [replySent, placeDeferred, waits, queue, List.tail_cons]
      rw [sent]
      refine ⟨rfl, rfl, rfl, fun none_waits => (nomatch none_waits), fun r' same => ?_⟩
      obtain rfl := Option.some.inj same
      exact ⟨rfl, Vector.getElem_set_self _, rfl⟩
  · simp only [effect_fixtureBreak, fixtureBreak, if_neg idle, resetLink]
    split <;> rfl

/-! ## The counter -/

/-- The event of a move of the counter is raised beside the link interface. -/
theorem setLec_eq (n : Nat) (r : Receiver) (s : State) :
    setLec n (setReceiver r s) =
      { raiseIf (upwardEvent s.fxl.link (linkStateOf n)) s with
        fxl := { s.fxl with receiver := r, lec := n, link := linkStateOf n } } := by
  have same : (setReceiver r s).fxl.link = s.fxl.link := rfl
  rw [setLec, same]
  cases upwardEvent s.fxl.link (linkStateOf n) <;> rfl

/-- What a command that ends a bad frame does (R168, R169). -/
theorem exec_badFrame {s : State} {c : Instr} {r : Receiver} (arriving : s.fxl.receiver = .inFrame)
    (bad : c = .frameGapTimeout ∧ r = .hunting ∨
      ∃ (chars : List Byte) (framing : Bool), c = .badFrame chars framing ∧ badVerdict chars framing = some r) :
    exec c s = .next (badFrameEffect (setReceiver r s)) := by
  refine exec_of_effect ?_
  rcases bad with ⟨rfl, rfl⟩ | ⟨chars, framing, rfl, verdict⟩
  · exact if_pos arriving
  · simp only [effect_badFrame, badFrame, arriving, verdict, if_true]

/-- What entering SILENT leaves (R175). -/
theorem enterSilent_eq (s : State) :
    enterSilent s =
      { raise .linkSilent s with
        fxl := { letGo s.fxl with lec := 255, link := .silent, release := 0 }
        srb := (clearStationReservations s).srb } := rfl

theorem badFrameEffect_silent {s : State} (silent : s.fxl.link = .silent) :
    badFrameEffect s = s.setFxl { s.fxl with release := 0 } :=
  if_pos silent

theorem badFrameEffect_below {s : State} (live : s.fxl.link ≠ .silent) (below : s.fxl.lec + 8 ≤ 255) :
    badFrameEffect s = setLec (s.fxl.lec + 8) s :=
  (if_neg live).trans (if_pos below)

theorem badFrameEffect_past {s : State} (live : s.fxl.link ≠ .silent) (past : 255 < s.fxl.lec + 8) :
    badFrameEffect s = enterSilent s :=
  (if_neg live).trans (if_neg (Nat.not_le.2 past))

theorem exec_idleMark {s : State} {chars payload : List Byte} {st : Station} {tag : Byte}
    (arriving : s.fxl.receiver = .inFrame) (mark : judgeFrame chars = .good .idleMark st tag payload) :
    exec (.idleMark chars) s = .next (goodIdleMark (setReceiver .hunting s)) := by
  refine exec_of_effect ?_
  simp only [effect_idleMark, idleMark, arriving, mark, if_true]

/-- Settles O23. -/
theorem framesMoveTheCounter : Obligations.FramesMoveTheCounter := by
  refine ⟨fun s c r arriving bad => ?_, fun s chars st tag payload arriving mark => ?_⟩
  · rw [exec_badFrame arriving bad]
    refine ⟨fun silent => congrArg _ (badFrameEffect_silent silent), fun live below => congrArg _ ?_,
      fun live past => ⟨_, congrArg _ (badFrameEffect_past live past), ?_⟩⟩
    · exact (badFrameEffect_below (s := setReceiver r s) live below).trans (setLec_eq _ r s)
    · rw [enterSilent_eq]
      refine ⟨rfl, rfl, rfl, rfl, rfl, rfl, fun st => ⟨?_, ?_, ?_⟩, rfl, fun i => ?_⟩
      · exact Vector.getElem_replicate _
      · exact Vector.getElem_replicate _
      · exact Vector.getElem_replicate _
      · exact Vector.getElem_ofFn _
  · rw [exec_idleMark arriving mark]
    refine ⟨fun live => congrArg _ ?_, fun silent more => congrArg _ ?_, fun silent enough => congrArg _ ?_⟩
    · exact (if_neg live).trans ((if_neg live).trans (setLec_eq _ .hunting s))
    · exact (if_pos silent).trans (if_neg (Nat.not_le.2 more))
    · exact (if_pos silent).trans (if_pos enough)

/-! ## REQUEST frames -/

/-- The state after a well-formed frame outside SILENT: the receiver hunts, the counter is one lower (R168, R170). -/
def afterGoodFrame (s : State) : State :=
  { raiseIf (upwardEvent s.fxl.link (linkStateOf (s.fxl.lec - 1))) s with
    fxl := { s.fxl with receiver := .hunting, lec := s.fxl.lec - 1, link := linkStateOf (s.fxl.lec - 1) } }

theorem afterGoodFrame_parts (s : State) :
    (afterGoodFrame s).boot = s.boot ∧ (afterGoodFrame s).book = s.book ∧ (afterGoodFrame s).inbox = s.inbox ∧
      (afterGoodFrame s).fxl.outstanding = s.fxl.outstanding := by
  unfold afterGoodFrame
  cases upwardEvent s.fxl.link (linkStateOf (s.fxl.lec - 1)) <;> exact ⟨rfl, rfl, rfl, rfl⟩

theorem exec_requestFrame {s : State} {chars payload : List Byte} {st : Station} {tag : Byte}
    (arriving : s.fxl.receiver = .inFrame) (request : judgeFrame chars = .good .request st tag payload) :
    exec (.requestFrame chars) s =
      .next (goodRequest { station := st, tag := tag, payload := payload } (setReceiver .hunting s)) := by
  refine exec_of_effect ?_
  simp only [effect_requestFrame, requestFrame, arriving, request, if_true]

theorem goodRequest_live {s : State} (r : FrameRequest) (live : s.fxl.link ≠ .silent) :
    goodRequest r (setReceiver .hunting s) = requestEffect r s.fxl.link (afterGoodFrame s) := by
  have effect : goodFrameEffect (setReceiver .hunting s) = afterGoodFrame s :=
    (if_neg live).trans (setLec_eq _ .hunting s)
  exact (if_neg live).trans (by rw [effect]; rfl)

/-- An answer to a payload without a kind carries a free value (log 14). -/
theorem answer_without_kind {st : Station} {tag : Byte} {status : Status} (s : State) (refused : status ≠ .ok)
    (fault : status ≠ .dataFault) :
    answerRequest { station := st, tag := tag, payload := [] } status s =
      placeAnswer st { kind := Config.absentKind s.book.freeUses, tag := tag, status := status, body := .empty }
        (rise (.station st) .refused 1 (s.setBook { s.book with freeUses := s.book.freeUses + 1 })) := by
  simp only [answerRequest, absentKindAnswer, fxlAnswer, countReply_refused _ _ refused fault]

theorem answer_with_kind {st : Station} {kind tag : Byte} {body : List Byte} {status : Status} (s : State)
    (refused : status ≠ .ok) (fault : status ≠ .dataFault) :
    answerRequest { station := st, tag := tag, payload := kind :: body } status s =
      placeAnswer st { kind := kind, tag := tag, status := status, body := .empty }
        (rise (.station st) .refused 1 s) := by
  simp only [answerRequest, fxlAnswer, countReply_refused _ _ refused fault]

/-- A payload whose kind the catalogue does not list as read-type is write-type (section 2.6). -/
theorem isWriteType_of {kind : Byte} {body : List Byte}
    (writes : ∀ k : Kind, kindOfCode kind = some k → isReadKind k = false) : isWriteType (kind :: body) = true := by
  unfold isWriteType
  dsimp only
  split
  next k known => rw [writes k known]; rfl
  next => rfl

theorem not_guarded_write {link : LinkState} {kind : Byte} {body : List Byte} {k : Kind} (known : kindOfCode kind = some k)
    (admits : link ≠ .guarded ∨ isReadKind k = true) : ¬(link = .guarded ∧ isWriteType (kind :: body) = true) := by
  rintro ⟨guarded, writes⟩
  simp only [isWriteType, known] at writes
  rcases admits with live | reads
  · exact live guarded
  · rw [reads] at writes
    cases writes

/-- Settles O24, row by row of the table. -/
theorem requestFramesAreTaken : Obligations.RequestFramesAreTaken := by
  intro s chars st tag payload arriving request
  rw [exec_requestFrame arriving request]
  refine ⟨fun silent => congrArg _ (if_pos silent), fun live => ⟨afterGoodFrame s, rfl, ?_⟩⟩
  obtain ⟨boot, book, inbox, outstanding⟩ := afterGoodFrame_parts s
  have started : startupDone (afterGoodFrame s) = startupDone s := by rw [startupDone, boot, startupDone]
  rw [goodRequest_live _ live]
  refine ⟨fun empty => congrArg _ ?_, fun kind body given => ?_⟩
  · subst empty
    have write : isWriteType [] = true := rfl
    simp only [requestEffect, started, outstanding, write, and_true]
    rw [← book]
    cases startupDone s with
    | false => exact answer_without_kind _ (by decide) (by decide)
    | true =>
      by_cases busy : (s.fxl.outstanding[st]).isSome = true
      · simp only [busy]
        exact answer_without_kind _ (by decide) (by decide)
      · by_cases guarded : s.fxl.link = .guarded
        · simp only [busy, guarded]
          exact answer_without_kind _ (by decide) (by decide)
        · simp only [busy, guarded]
          exact answer_without_kind _ (by decide) (by decide)
  · subst given
    refine ⟨fun starting => congrArg _ ?_, fun done busy => congrArg _ ?_, fun done free guarded writes => congrArg _ ?_,
      fun done free => ⟨fun k known admits => congrArg _ ?_, fun unknown admits => congrArg _ ?_⟩⟩
    · simp only [requestEffect, started, starting]
      exact answer_with_kind _ (by decide) (by decide)
    · simp only [requestEffect, started, outstanding, done, busy]
      exact answer_with_kind _ (by decide) (by decide)
    · simp only [requestEffect, started, outstanding, done, free, guarded, isWriteType_of writes]
      exact answer_with_kind _ (by decide) (by decide)
    · have row := not_guarded_write (body := body) known admits
      simp only [requestEffect, started, outstanding, done, free, if_neg row, takeStationRequest,
        takeRequest_known _ _ _ _ known, rise_parts, ← inbox, ← book]
      rfl
    · have row : ¬(s.fxl.link = .guarded ∧ isWriteType (kind :: body) = true) := fun h => admits h.1
      simp only [requestEffect, started, outstanding, done, free, if_neg row, takeStationRequest,
        takeRequest_unknown _ _ _ _ unknown, rise_parts, ← book]
      rfl

end Sys2Proof.Proofs.LinkFrames
end

section
/-! The capture's requests (R32 to R42) and the requests that read (R41, R132, R141, R157, R159, R164, R187). -/

namespace Sys2Proof.Proofs.CaptureAndReads

open Sys2Proof Sys2Proof.Machine Sys2Proof.Proofs.Frames Sys2Proof.Proofs.Steps Sys2Proof.Proofs.Boot

/-! ## Rows -/

theorem lt_three_of_maskHas {mask : Vector Bool 3} {c : Nat} (h : maskHas mask c = true) : c < 3 := by
  by_contra above
  rw [maskHas, Vector.getElem?_eq_none (Nat.not_lt.1 above)] at h
  cases h

/-- Within 3 channels of 28 rows the row index names its plane, channel and row. -/
theorem rowIndex_inj {p c y p' c' y' : Nat} (hc : c < 3) (hc' : c' < 3) (hy : y < 28) (hy' : y' < 28)
    (h : rowIndex p c y = rowIndex p' c' y') : p = p' ∧ c = c' ∧ y = y' := by
  unfold rowIndex at h
  omega

theorem rowIndex_lt {p c y : Nat} (hp : p < 4) (hc : c < 3) (hy : y < 28) : rowIndex p c y < 336 := by
  unfold rowIndex
  omega

/-- The entry that a PUT_ROW stores (R37). -/
def storedRow (a : RowArgs) (cap : Cap) : Row :=
  { dup := match rowAt a.plane a.channel a.y cap with
      | some old => min (old.dup + 1) 255
      | none => 0
    values := a.values }

/-- The capture with the row stored, before the test for the last absent entry. -/
def withRow (a : RowArgs) (cap : Cap) : Cap :=
  { cap with rows := cap.rows.setIfInBounds (rowIndex a.plane a.channel a.y) (some (storedRow a cap)) }

theorem storeRow_withRow (a : RowArgs) (sh : Shape) (cap : Cap) :
    storeRow a sh cap =
      if cap.state == .opened && presentRows (withRow a cap) == totalRows sh then
        { withRow a cap with state := .complete }
      else withRow a cap := rfl

theorem storeRow_eq (a : RowArgs) (sh : Shape) (cap : Cap) :
    storeRow a sh cap =
      { withRow a cap with
        state := if cap.state = .opened ∧ presentRows (storeRow a sh cap) = totalRows sh then .complete
                 else cap.state } := by
  have rows : (storeRow a sh cap).rows = (withRow a cap).rows := by
    rw [storeRow_withRow]
    split <;> rfl
  have present : presentRows (storeRow a sh cap) = presentRows (withRow a cap) := by
    rw [presentRows, rows, presentRows]
  rw [present, storeRow_withRow]
  by_cases last : cap.state = .opened ∧ presentRows (withRow a cap) = totalRows sh
  · rw [if_pos last, if_pos (by simpa using last)]
  · rw [if_neg last, if_neg (by simpa using last)]
    rfl

theorem rowAt_storeRow_self {a : RowArgs} {sh : Shape} {cap : Cap}
    (inside : rowIndex a.plane a.channel a.y < 336) :
    rowAt a.plane a.channel a.y (storeRow a sh cap) = some (storedRow a cap) := by
  rw [storeRow_eq, rowAt]
  simp [withRow, inside]

theorem rowAt_storeRow_other {a : RowArgs} {sh : Shape} {cap : Cap} {p c y : Nat}
    (other : rowIndex p c y ≠ rowIndex a.plane a.channel a.y) :
    rowAt p c y (storeRow a sh cap) = rowAt p c y cap := by
  rw [storeRow_eq, rowAt, rowAt]
  simp [withRow, Ne.symm other]

/-! ## The capture's requests -/

theorem ownsCapture_of_owner {i : Station} {s : State} (owner : s.cap.owner = some i) :
    ownsCapture (.station i) s = true := by
  simp [ownsCapture, owner]

theorem storedRow_fits {a : RowArgs} {sh : Shape} (fits : rowFits a sh = true) :
    a.plane < sh.codes.length ∧ a.channel < 3 ∧ a.y < 28 := by
  simp only [rowFits, Bool.and_eq_true, decide_eq_true_eq] at fits
  obtain ⟨⟨plane, channel⟩, row⟩ := fits
  exact ⟨plane, lt_three_of_maskHas channel, Nat.lt_succ_of_le row⟩

theorem putRow_taken {s : State} {i : Station} {req : Request} {a : RowArgs} {sh : Shape}
    (asked : lineRequest .capture .putRow i req s) (owner : s.cap.owner = some i)
    (state : s.cap.state = .opened ∨ s.cap.state = .complete) (row : parseRow req.body = some a)
    (shape : s.cap.shape = some sh) (fits : rowFits a sh = true) :
    putRow req (withoutRequest req s) =
      reply req .ok (rowReply a (storeRow a sh s.cap)) ((withoutRequest req s).setCap (storeRow a sh s.cap)) := by
  obtain ⟨waiting, master, kind, role, stage⟩ := lineRequest_spec asked
  have owns : ownsCapture (.station i) (withoutRequest req s) = true := ownsCapture_of_owner owner
  have shape' : (withoutRequest req s).cap.shape = some sh := shape
  have door : (!(stationWith .capture req.master (withoutRequest req s) &&
      ownsCapture req.master (withoutRequest req s))) = false := by rw [master, role, owns]; rfl
  unfold putRow
  rw [door, stage]
  rcases state with opened | complete
  · have state' : (withoutRequest req s).cap.state = .opened := opened
    simp only [state', row, shape', fits]
    rfl
  · have state' : (withoutRequest req s).cap.state = .complete := complete
    simp only [state', row, shape', fits]
    rfl

/-- Settles O25. -/
theorem capturesAreOpenedFilledAndDiscarded : Obligations.CapturesAreOpenedFilledAndDiscarded := by
  refine ⟨fun s i req => ⟨fun asked unlocked sh shape => ?_, fun asked owner empty state => ?_⟩,
    fun s i req a sh asked owner state row shape planes fits => ?_⟩
  · obtain ⟨waiting, master, kind, role, stage⟩ := lineRequest_spec asked
    refine exec_of_effect ((serve_some waiting).trans ?_)
    have free : ((withoutRequest req s).cap.state == .locked) = false := beq_false_of_ne unlocked
    rw [← master] at role
    simp only [openCapture, role, stage, free, shape]
    rw [master]
    rfl
  · obtain ⟨waiting, master, kind, role, stage⟩ := lineRequest_spec asked
    refine exec_of_effect ((serve_some waiting).trans ?_)
    have owns : ownsCapture (.station i) (withoutRequest req s) = true := ownsCapture_of_owner owner
    have nothing : noArguments req.body = true := by rw [empty]; rfl
    have door : (!(stationWith .capture req.master (withoutRequest req s) &&
        ownsCapture req.master (withoutRequest req s))) = false := by rw [master, role, owns]; rfl
    unfold discardCapture
    rw [door, stage, nothing]
    have same : (withoutRequest req s).cap.state = s.cap.state := rfl
    rw [same]
    rcases state with state | state | state <;> rw [state] <;> rfl
  · obtain ⟨waiting, -⟩ := lineRequest_spec asked
    obtain ⟨plane, channel, y⟩ := storedRow_fits fits
    refine ⟨storeRow a sh s.cap,
      exec_of_effect ((serve_some waiting).trans (putRow_taken asked owner state row shape fits)), ?_,
      rowAt_storeRow_self (rowIndex_lt (by omega) channel y), fun p c z hc hz other => rowAt_storeRow_other fun same =>
        other (rowIndex_inj hc channel hz y same), ?_⟩
    · rw [storeRow_eq]
      rfl
    · exact congrArg Cap.state (storeRow_eq a sh s.cap)

/-! ## The requests that read -/

theorem mem_unless {α : Type} (present : Bool) (x y : α) :
    x ∈ (if present then [] else [y]) ↔ present = false ∧ x = y := by
  cases present <;> simp

theorem mem_missingItems (x : MissingItem) (s : State) :
    x ∈ missingItems s ↔
      (mapPresent s.mfc.header = false ∧
          x = .map (!s.mfc.header.committed) (!s.mfc.header.converged) s.mfc.header.mixed (s.mfc.header.faulty != 0)
            s.mfc.header.faulty) ∨
        (keysPresent s = false ∧
          x = .keys ((missingSlots s).map fun k => (k.val, slotStateCode (slotAt k s).state))) ∨
        (regionPresent s = false ∧
          x = .region s.srb.region.version s.srb.region.pending s.srb.region.homeFault) ∨
        (labelPresent s = false ∧ x = .label s.srb.label.version s.srb.label.pending s.srb.label.homeFault) := by
  simp only [missingItems, List.mem_append, mem_unless, or_assoc]

theorem mapPresent_false_iff (h : Header) :
    mapPresent h = false ↔ ¬(h.committed = true ∧ h.converged = true ∧ h.mixed = false ∧ h.faulty = 0) := by
  rw [← Bool.not_eq_true, mapPresent]
  simp [and_assoc]

theorem nodup_missingItems (s : State) : (missingItems s).Nodup := by
  unfold missingItems
  dsimp only
  cases mapPresent s.mfc.header <;> cases keysPresent s <;> cases regionPresent s <;> cases labelPresent s <;> simp

/-- A required slot does not count for the KEYS item (R157). -/
theorem mem_missingSlots (k : Fin 12) (s : State) :
    k ∈ missingSlots s ↔
      s.config.required.getLsbD k.val = true ∧
        ((∀ key : Key, s.srb.keys[k].state ≠ .fixed key) ∨ s.srb.keys[k].pending = true) := by
  have counts : slotCounts (slotAt k s) = false ↔
      (∀ key : Key, s.srb.keys[k].state ≠ .fixed key) ∨ s.srb.keys[k].pending = true := by
    rw [slotAt, slotCounts]
    cases state : s.srb.keys[k].state <;> simp
  rw [missingSlots, List.mem_filter, Bool.and_eq_true, Bool.not_eq_true', counts]
  simp

theorem keysPresent_false_iff (s : State) : keysPresent s = false ↔ ∃ k, k ∈ missingSlots s := by
  simp [keysPresent, List.eq_nil_iff_forall_not_mem]

theorem missingSlots_ascend (s : State) : (missingSlots s).Pairwise (· < ·) :=
  (List.pairwise_lt_finRange 12).filter _

/-- A row's presence entry (R41). -/
def presence (p c : Nat) (cap : Cap) (y : Nat) : PresenceEntry :=
  match rowAt p c y cap with
  | some r => { y := y, present := true, dup := r.dup }
  | none => { y := y, present := false, dup := 0 }

theorem captureDetail_inside {sh : Shape} {p c : Nat} {cap : Cap} (shape : cap.shape = some sh)
    (plane : p < sh.codes.length) (channel : maskHas sh.mask c = true) :
    captureDetail p c cap = some ((List.range 28).map (presence p c cap)) := by
  simp only [captureDetail, shape, plane, channel, and_self, if_true]
  rfl

theorem captureDetail_outside {sh : Shape} {p c : Nat} {cap : Cap} (shape : cap.shape = some sh)
    (outside : sh.codes.length ≤ p ∨ maskHas sh.mask c = false) : captureDetail p c cap = none := by
  have off : ¬(p < sh.codes.length ∧ maskHas sh.mask c = true) := by
    rintro ⟨plane, channel⟩
    rcases outside with beyond | unmasked
    · omega
    · rw [channel] at unmasked
      cases unmasked
  simp only [captureDetail, shape, if_neg off]

/-- Settles O26. -/
theorem readsReplyAndChangeNothing : Obligations.ReadsReplyAndChangeNothing := by
  intro s m req
  have noneGiven : ∀ {body : List Byte}, body = [] → noArguments body = true := by rintro _ rfl; rfl
  refine ⟨fun waiting empty => exec_of_effect ((serve_some waiting).trans ?_), fun waiting p c given => ?_,
    fun waiting empty => exec_of_effect ((serve_some waiting).trans ?_),
    fun waiting k slot => exec_of_effect ((serve_some waiting).trans ?_),
    fun waiting empty => exec_of_effect ((serve_some waiting).trans ?_),
    fun waiting empty => exec_of_effect ((serve_some waiting).trans ?_), nodup_missingItems s, ?_, ?_, ?_, ?_, ?_⟩
  · have none_asked : parseDetail req.body = some none := by rw [empty]; rfl
    simp only [captureState, none_asked]
    rfl
  · refine ⟨captureDetail p c s.cap, exec_of_effect ((serve_some waiting).trans ?_), fun unshaped => ?_,
      fun sh shape => ⟨captureDetail_outside shape, fun plane channel =>
        ⟨_, captureDetail_inside shape plane channel, by simp, fun y hy => ⟨fun absent => ?_, fun r present => ?_⟩⟩⟩⟩
    · simp only [captureState, given]
      rfl
    · simp only [captureDetail, unshaped]
    · simp [hy, presence, absent]
    · simp [hy, presence, present]
  · simp only [readProfile, noneGiven empty]
    rfl
  · simp only [checkKey, slot]
    rfl
  · simp only [stageQuery, noneGiven empty]
    rfl
  · simp only [readCounters, noneGiven empty]
    rfl
  · intro c v x f n
    rw [mem_missingItems, mapPresent_false_iff]
    have faulty : (s.mfc.header.faulty != 0) = decide (s.mfc.header.faulty ≠ 0) := by
      by_cases none_faulty : s.mfc.header.faulty = 0 <;> simp [none_faulty]
    simp [faulty]
  · simp only [mem_missingItems, keysPresent_false_iff, mem_missingSlots]
    simp
  · intro slots mem
    rw [mem_missingItems] at mem
    have these : slots = (missingSlots s).map fun k => (k.val, slotStateCode (slotAt k s).state) := by
      rcases mem with ⟨-, e⟩ | ⟨-, e⟩ | ⟨-, e⟩ | ⟨-, e⟩ <;> cases e
      rfl
    subst these
    refine ⟨?_, fun x => ?_⟩
    · rw [List.map_map, List.pairwise_map]
      exact missingSlots_ascend s
    · simp only [List.mem_map, mem_missingSlots]
      exact exists_congr fun k => and_congr_right fun _ => eq_comm
  · intro v p f
    rw [mem_missingItems]
    simp [regionPresent]
  · intro v p f
    rw [mem_missingItems]
    simp [labelPresent]

end Sys2Proof.Proofs.CaptureAndReads
end

section
/-! The job table's requests (R48 to R60): submitting, holding, editing, reading, cancelling and freeing a box. -/

namespace Sys2Proof.Proofs.JobTable

open Sys2Proof Sys2Proof.Machine Sys2Proof.Proofs.Frames Sys2Proof.Proofs.Steps Sys2Proof.Proofs.Boot
open Sys2Proof.Proofs.RunningJob

/-! ## Doors -/

theorem jobDoor_open {k : Kind} {i : Station} {req : Request} {s : State} (asked : lineRequest .map k i req s) :
    jobDoor req (withoutRequest req s) = none := by
  obtain ⟨-, master, -, role, stage⟩ := lineRequest_spec asked
  rw [jobDoor, master, role, stage]
  rfl

theorem ownsBox_iff (i : Station) (x : Box) : ownsBox (.station i) x = true ↔ x.owner = i :=
  beq_iff_eq.trans eq_comm

theorem ownBox_eq {i : Station} {req : Request} {s : State} {b : Fin 16} {x : Box} (master : req.master = .station i)
    (named : parseBoxOnly req.body = some b) (held : boxAt b s = some x) (owner : x.owner = i) :
    ownBox req s = .ok (b, x) := by
  simp only [ownBox, named, held, master, (ownsBox_iff i x).2 owner, if_true]

theorem holdsBox_eq {i : Station} {x : Box} (owner : x.owner = i) (hold : x.hold.isSome = true) :
    holdsBox (.station i) x = true := by
  rw [holdsBox, hold, (ownsBox_iff i x).2 owner]
  rfl

/-! ## Boxes -/

theorem setBox_setBox (b : Fin 16) (x y : Option Box) (s : State) : setBox b y (setBox b x s) = setBox b y s := by
  simp only [setBox, State.setJobs, Vector.set_set]

/-- The highest-numbered FREE box is the one above which none is FREE (R49). -/
theorem highestFree_eq {s : State} {b : Fin 16} (free : boxAt b s = none)
    (above : ∀ c : Fin 16, b < c → (boxAt c s).isSome = true) : highestFree s = some b := by
  have place : 15 - b.val < (List.finRange 16).reverse.length := by simp; omega
  refine List.find?_eq_some_iff_getElem.2 ⟨by simp [free], 15 - b.val, place, ?_, fun j hj => ?_⟩
  · refine Fin.ext ?_
    simp
    omega
  · have later : b < (List.finRange 16).reverse[j]'(by simp; omega) := by
      rw [Fin.lt_def]
      simp
      omega
    obtain ⟨x, held⟩ := Option.isSome_iff_exists.1 (above _ later)
    rw [held]
    rfl

/-! ## Submitting and holding -/

theorem submitJob_taken {s : State} {i : Station} {req : Request} {k : JobKind} {a : Option PassArgs} {b : Fin 16}
    (asked : lineRequest .map .submitJob i req s) (parsed : parseSubmit req.body = some (k, a))
    (room : ownedBoxes i s < 4) (free : highestFree s = some b) :
    submitJob req (withoutRequest req s) =
      reply req .ok (.submitted b s.jobs.seq)
        ((withoutRequest req s).setJobs
          { s.jobs with boxes := s.jobs.boxes.set b (some (queuedBox i k a s.jobs.seq)), seq := s.jobs.seq + 1 }) := by
  obtain ⟨-, master, -⟩ := lineRequest_spec asked
  have room' : ¬4 ≤ ownedBoxes i (withoutRequest req s) := Nat.not_le.2 room
  have free' : highestFree (withoutRequest req s) = some b := free
  simp only [submitJob, jobDoor_open asked, parsed]
  rw [master]
  simp only [if_neg room', free']
  rfl

theorem boxAt_withoutRequest (b : Fin 16) (req : Request) (s : State) : boxAt b (withoutRequest req s) = boxAt b s := rfl

/-- Settles O27. -/
theorem jobsAreSubmittedAndHeld : Obligations.JobsAreSubmittedAndHeld := by
  refine ⟨fun s i req k a b asked parsed room free above => ?_, fun s i req b x held =>
    ⟨fun asked named owner queued unheld => ?_, fun asked owner hold bytes a parsed args => ?_,
      fun asked named owner hold => ?_, fun unheld => exec_of_effect ?_, fun d hold => ?_⟩⟩
  · obtain ⟨waiting, -⟩ := lineRequest_spec asked
    exact exec_of_effect ((serve_some waiting).trans (submitJob_taken asked parsed room (highestFree_eq free above)))
  · obtain ⟨waiting, master, -⟩ := lineRequest_spec asked
    refine exec_of_effect ((serve_some waiting).trans ?_)
    simp only [holdBox, jobDoor_open asked, ownBox_eq master named ((boxAt_withoutRequest b req s).trans held) owner,
      queued, unheld]
    rfl
  · obtain ⟨waiting, master, -⟩ := lineRequest_spec asked
    refine exec_of_effect ((serve_some waiting).trans ?_)
    simp only [editBox, jobDoor_open asked, parsed, boxAt_withoutRequest, held, master, holdsBox_eq owner hold,
      Bool.not_true, Bool.false_eq_true, if_false, args]
  · obtain ⟨waiting, master, -⟩ := lineRequest_spec asked
    refine exec_of_effect ((serve_some waiting).trans ?_)
    simp only [releaseBox, jobDoor_open asked, named, boxAt_withoutRequest, held, master, holdsBox_eq owner hold,
      Bool.not_true, Bool.false_eq_true, if_false]
  · refine holdExpiry_unheld fun y here => ?_
    obtain rfl := Option.some.inj (held.symm.trans here)
    exact unheld
  · obtain ⟨form, here, others⟩ := holdExpiry_held held hold
    refine ⟨_, rfl, form, here, fun c away => ⟨fun free => ?_, fun y there => ⟨fun unheld => ?_, fun e hold' =>
      ⟨fun passed => ?_, fun ahead => ?_⟩⟩⟩⟩
    · exact (others c away).trans (by rw [free]; rfl)
    · refine (others c away).trans ?_
      rw [there]
      simp only [Option.map_some, holdAt, unheld]
    · refine (others c away).trans ?_
      rw [there]
      simp only [Option.map_some, holdAt, hold', if_pos passed, expired]
    · refine (others c away).trans ?_
      rw [there]
      simp only [Option.map_some, holdAt, hold', if_neg (Nat.not_lt.2 ahead)]

/-! ## Reading, cancelling and freeing -/

theorem markRead_held {b : Fin 16} {x : Box} {s : State} (m : Master) (held : boxAt b s = some x) :
    markRead m b s =
      if boxEnded x.state && ownsBox m x then setBox b (some { x with newResult := false }) s else s := by
  simp only [markRead, held]

/-- A read changes the read box's new-result flag alone (R53). -/
theorem markRead_spec (m : Master) (b : Fin 16) (s : State) :
    ∃ jobs : Jobs, markRead m b s = { s with jobs := jobs } ∧ otherBoxesKept b s (markRead m b s) ∧
      jobs.seq = s.jobs.seq ∧ jobs.running = s.jobs.running ∧
      ∀ x : Box, boxAt b s = some x →
        boxAt b (markRead m b s) = some { x with newResult := x.newResult && !(boxEnded x.state && ownsBox m x) } := by
  cases held : boxAt b s with
  | none =>
    have kept : markRead m b s = s := by simp only [markRead, held]
    rw [kept]
    exact ⟨_, rfl, fun _ _ => rfl, rfl, rfl, fun x here => nomatch here⟩
  | some x =>
    rw [markRead_held m held]
    cases read : boxEnded x.state && ownsBox m x with
    | false =>
      refine ⟨_, rfl, fun _ _ => rfl, rfl, rfl, fun y here => ?_⟩
      obtain rfl := Option.some.inj here
      simp [read, held]
    | true =>
      refine ⟨_, rfl, fun c away => boxAt_setBox_other _ _ away, rfl, rfl, fun y here => ?_⟩
      obtain rfl := Option.some.inj here
      refine (boxAt_setBox_self b _ s).trans ?_
      simp [read]

theorem withdrawable_iff (s : State) :
    withdrawable s = true ↔
      s.tlc.job = some .presented ∨ s.tlc.job = some .waitWay ∨ s.tlc.job = some (.resumed false) := by
  unfold withdrawable
  split <;> simp_all

/-- The running job ends with its box (R52, R71). -/
theorem endRunning_eq {b : Fin 16} {x : Box} {s : State} (held : boxAt b s = some x) (st : BoxState) (r : JobResult) :
    endRunning b st r s =
      { raise .jobEnded s with
        jobs := { s.jobs with
          boxes := s.jobs.boxes.set b (some { x with state := st, result := some r, newResult := true, hold := none })
          running := none }
        tlc := { s.tlc with job := none, jobWait := 0 } } := by
  rw [endRunning, endBox_some held]
  rfl

theorem endRunning_setBox (b : Fin 16) (x : Box) (s : State) (st : BoxState) (n : Nat) :
    endRunning b st (.stopped true n) (setBox b (some x) s) = stoppedJob b x st n s := by
  rw [endRunning_eq (boxAt_setBox_self b _ s)]
  simp only [stoppedJob, setBox, State.setJobs, raise, State.setSyp, Vector.set_set]

theorem endPassEarly_setBox (b : Fin 16) (x : Box) (s : State) (st : BoxState) (n : Nat) :
    endPassEarly b st n (setBox b (some x) s) =
      { stoppedJob b x st n s with cap := { s.cap with state := .consumed } } := by
  have swap : consumeCapture (setBox b (some x) s) = setBox b (some x) (consumeCapture s) := rfl
  rw [endPassEarly, swap, endRunning_setBox]
  rfl

/-- What a CANCEL_JOB of a box's own station does, by the state of the box (R58, R59). -/
def cancelOwn (req : Request) (b : Fin 16) (x : Box) (s : State) : State :=
  match x.state with
  | .queued => reply req .ok .empty (endBox b .cancelled (.stopped false 0) s)
  | .running =>
    match x.kind with
    | .commitMap => refuse req .busy s
    | .runPass | .clearMap => reply req .ok .empty (noteCancel b x s)
  | .done | .failed _ | .cancelled => refuse req .refusedState s

theorem cancelJob_own {s : State} {i : Station} {req : Request} {b : Fin 16} {x : Box}
    (asked : lineRequest .map .cancelJob i req s) (named : parseBoxOnly req.body = some b) (held : boxAt b s = some x)
    (owner : x.owner = i) :
    exec (.cancelJob (.station i)) s = .next (cancelOwn req b x (withoutRequest req s)) := by
  obtain ⟨waiting, master, -⟩ := lineRequest_spec asked
  refine exec_of_effect ((serve_some waiting).trans ?_)
  simp only [cancelJob, jobDoor_open asked, ownBox_eq master named ((boxAt_withoutRequest b req s).trans held) owner]
  rfl

/-- Settles O28. -/
theorem boxesAreReadCancelledAndFreed : Obligations.BoxesAreReadCancelledAndFreed := by
  intro s req b named
  refine ⟨fun m waiting => ?_, fun i x held owner => ⟨fun asked queued => ?_, fun asked running kind stays => ?_,
    fun asked running kind leaves => ?_, fun asked running kind => ?_, fun asked ended => ?_, fun asked ended => ?_⟩⟩
  · obtain ⟨-, -, master⟩ := waitingRequest_spec waiting
    obtain ⟨jobs, form, others, seq, running, read⟩ := markRead_spec m b (withoutRequest req s)
    have jobs_eq : (markRead m b (withoutRequest req s)).jobs = jobs := by rw [form]
    refine ⟨markRead m b (withoutRequest req s), exec_of_effect ((serve_some waiting).trans ?_), ?_, others, ?_, ?_, read⟩
    · simp only [readBox, named, master]
      rfl
    · rw [jobs_eq, form]
    · rw [jobs_eq, seq]
      rfl
    · rw [jobs_eq, running]
      rfl
  · rw [cancelJob_own asked named held owner]
    simp only [cancelOwn, queued]
    rw [endBox_some ((boxAt_withoutRequest b req s).trans held)]
  · rw [cancelJob_own asked named held owner]
    have stays' : withdrawable (withoutRequest req s) = false := by
      rw [← Bool.not_eq_true, withdrawable_iff]
      exact stays
    cases h : x.kind with
    | commitMap => exact absurd h kind
    | runPass | clearMap => simp only [cancelOwn, running, noteCancel, stays', h, Bool.false_eq_true, if_false]
  · rw [cancelJob_own asked named held owner]
    have leaves' : withdrawable (withoutRequest req s) = true := (withdrawable_iff _).2 leaves
    cases h : x.kind with
    | commitMap => exact absurd h kind
    | runPass =>
      simp only [cancelOwn, running, noteCancel, leaves', h, if_true, endPassEarly_setBox]
      rfl
    | clearMap =>
      simp only [cancelOwn, running, noteCancel, leaves', h, if_true, endClearEarly, endRunning_setBox]
      rfl
  · rw [cancelJob_own asked named held owner]
    simp only [cancelOwn, running, kind]
  · rw [cancelJob_own asked named held owner]
    unfold cancelOwn
    cases state : x.state <;> first | rfl | (rw [state] at ended; cases ended)
  · obtain ⟨waiting, master, -⟩ := lineRequest_spec asked
    refine exec_of_effect ((serve_some waiting).trans ?_)
    simp only [freeBox, jobDoor_open asked, ownBox_eq master named ((boxAt_withoutRequest b req s).trans held) owner,
      ended, if_true]

end Sys2Proof.Proofs.JobTable
end

section
/-! JOB_START (R51, R52, R61, R64, R108): which box starts, and what its start checks make of it. -/

namespace Sys2Proof.Proofs.JobStarts

open Sys2Proof Sys2Proof.Machine Sys2Proof.Proofs.Frames Sys2Proof.Proofs.Steps Sys2Proof.Proofs.Boot
open Sys2Proof.Proofs.JobTable

/-! ## The oldest box -/

/-- Box `b` starts before box `c`: it is older, or of the same age and no higher (R51). -/
def startsBefore (s : State) (b c : Fin 16) : Prop :=
  ageOf c s < ageOf b s ∨ ageOf c s = ageOf b s ∧ b ≤ c

/-- One box more in the search of `oldestStartable`. -/
def olderOf (s : State) (best : Option (Fin 16)) (b : Fin 16) : Option (Fin 16) :=
  if startable b s then
    match best with
    | none => some b
    | some x => if ageOf x s < ageOf b s then some b else some x
  else best

theorem oldestStartable_eq (s : State) : oldestStartable s = (List.finRange 16).foldl (olderOf s) none := rfl

/-- The best of the boxes seen: startable, and before every other startable one of them. -/
def BestOf (s : State) (seen : Fin 16 → Prop) (best : Option (Fin 16)) : Prop :=
  (best = none → ∀ c, seen c → startable c s = false) ∧
    ∀ b, best = some b → startable b s = true ∧ seen b ∧ ∀ c, seen c → startable c s = true → startsBefore s b c

theorem bestOf_olderOf {s : State} {seen : Fin 16 → Prop} {best : Option (Fin 16)} {d : Fin 16}
    (h : BestOf s seen best) (later : ∀ c, seen c → c < d) :
    BestOf s (fun c => seen c ∨ c = d) (olderOf s best d) := by
  obtain ⟨none_found, found⟩ := h
  unfold olderOf
  split
  next starts =>
    cases best with
    | none =>
      refine ⟨fun h => (nomatch h), fun b hb => ?_⟩
      obtain rfl := Option.some.inj hb
      refine ⟨starts, .inr rfl, fun c hc startable_c => ?_⟩
      rcases hc with old | rfl
      · rw [none_found rfl c old] at startable_c
        cases startable_c
      · exact .inr ⟨rfl, le_refl _⟩
    | some x =>
      obtain ⟨startable_x, seen_x, before⟩ := found x rfl
      dsimp only
      split
      next older =>
        refine ⟨fun h => (nomatch h), fun b hb => ?_⟩
        obtain rfl := Option.some.inj hb
        refine ⟨starts, .inr rfl, fun c hc startable_c => ?_⟩
        rcases hc with old | rfl
        · have this := before c old startable_c
          unfold startsBefore at this ⊢
          omega
        · exact .inr ⟨rfl, le_refl _⟩
      next younger =>
        refine ⟨fun h => (nomatch h), fun b hb => ?_⟩
        obtain rfl := Option.some.inj hb
        refine ⟨startable_x, .inl seen_x, fun c hc startable_c => ?_⟩
        rcases hc with old | rfl
        · exact before c old startable_c
        · have above := later x seen_x
          unfold startsBefore
          omega
  next waits =>
    refine ⟨fun h c hc => ?_, fun b hb => ?_⟩
    · rcases hc with old | rfl
      · exact none_found h c old
      · simpa using waits
    · obtain ⟨startable_b, seen_b, before⟩ := found b hb
      refine ⟨startable_b, .inl seen_b, fun c hc startable_c => ?_⟩
      rcases hc with old | rfl
      · exact before c old startable_c
      · exact absurd startable_c waits

theorem bestOf_foldl {s : State} (l : List (Fin 16)) {seen : Fin 16 → Prop} {best : Option (Fin 16)}
    (h : BestOf s seen best) (ascending : l.Pairwise (· < ·)) (later : ∀ c, seen c → ∀ d ∈ l, c < d) :
    BestOf s (fun c => seen c ∨ c ∈ l) (l.foldl (olderOf s) best) := by
  induction l generalizing seen best with
  | nil => simpa using h
  | cons d l ih =>
    obtain ⟨first, ascending⟩ := List.pairwise_cons.1 ascending
    have step := ih (bestOf_olderOf h fun c hc => later c hc d List.mem_cons_self) ascending fun c hc e he => by
      rcases hc with old | rfl
      · exact later c old e (List.mem_cons_of_mem _ he)
      · exact first e he
    simpa only [List.mem_cons, or_assoc, List.foldl_cons] using step

/-- The box that starts is startable, and before every other startable one (R51). -/
theorem oldestStartable_spec {s : State} {b : Fin 16} (h : oldestStartable s = some b) :
    startable b s = true ∧ ∀ c : Fin 16, startable c s = true → startsBefore s b c := by
  have best : BestOf s (fun c => False ∨ c ∈ List.finRange 16) (oldestStartable s) := by
    rw [oldestStartable_eq]
    exact bestOf_foldl (List.finRange 16) ⟨fun _ _ no => no.elim, fun _ no => nomatch no⟩
      (List.pairwise_lt_finRange 16) fun _ no => no.elim
  obtain ⟨starts, -, before⟩ := best.2 b h
  exact ⟨starts, fun c => before c (.inr (List.mem_finRange c))⟩

/-! ## The start checks of a pass -/

theorem mem_windowNodes (w : Window) (x y : Nat) :
    (x, y) ∈ windowNodes w ↔ (w.x0 ≤ x ∧ x ≤ w.x1) ∧ w.y0 ≤ y ∧ y ≤ w.y1 := by
  simp only [windowNodes, List.mem_flatMap, List.mem_map, List.mem_range'_1, Prod.mk.injEq]
  constructor
  · rintro ⟨y', rows, x', columns, rfl, rfl⟩
    omega
  · rintro ⟨columns, rows⟩
    exact ⟨y, by omega, x, by omega, rfl, rfl⟩

/-- A window has no value at a plane when every node of it is saturated (R9). -/
theorem windowValues_isEmpty (cap : Cap) (w : Window) (p c : Nat) :
    (windowValues cap w p c).isEmpty = true ↔
      ∀ x y : Nat, w.x0 ≤ x → x ≤ w.x1 → w.y0 ≤ y → y ≤ w.y1 → measured cap p c x y = 65535 := by
  simp only [windowValues, List.isEmpty_iff, List.filter_eq_nil_iff, List.mem_map, forall_exists_index, and_imp,
    Prod.forall, bne_iff_ne, ne_eq, not_not]
  constructor
  · intro saturated x y hx0 hx1 hy0 hy1
    exact saturated _ x y ((mem_windowNodes w x y).2 ⟨⟨hx0, hx1⟩, hy0, hy1⟩) rfl
  · rintro saturated v x y mem rfl
    obtain ⟨⟨hx0, hx1⟩, hy0, hy1⟩ := (mem_windowNodes w x y).1 mem
    exact saturated x y hx0 hx1 hy0 hy1

/-- The model's test of a channel's reference windows (check 3 of R61). -/
def lacksReference (a : PassArgs) (sh : Shape) (cap : Cap) : Bool :=
  (List.finRange 3).any fun c =>
    maskHas sh.mask c.val && a.modes[c] == .window &&
      (List.range sh.codes.length).any fun p =>
        match a.window with
        | some w => (windowValues cap w p c.val).isEmpty
        | none => true

theorem maskHas_fin (mask : Vector Bool 3) (c : Fin 3) : maskHas mask c.val = mask[c] := by
  simp [maskHas]

theorem lacksReference_iff {a : PassArgs} {sh : Shape} {cap : Cap} {w : Window} (window : a.window = some w) :
    lacksReference a sh cap = true ↔ referenceLacks a sh cap := by
  simp only [lacksReference, window, List.any_eq_true, List.mem_finRange, true_and, Bool.and_eq_true, beq_iff_eq,
    List.mem_range, windowValues_isEmpty, maskHas_fin]
  constructor
  · rintro ⟨c, ⟨mask, mode⟩, p, plane, saturated⟩
    exact ⟨c, p, w, mask, mode, plane, window, saturated⟩
  · rintro ⟨c, p, v, mask, mode, plane, window', saturated⟩
    obtain rfl := Option.some.inj (window.symm.trans window')
    exact ⟨c, ⟨mask, mode⟩, p, plane, saturated⟩

theorem lacksReference_false {a : PassArgs} {sh : Shape} {cap : Cap} (has : ¬referenceLacks a sh cap)
    (window : (∃ c : Fin 3, a.modes[c] = .window) → a.window.isSome = true) : lacksReference a sh cap = false := by
  rw [← Bool.not_eq_true]
  cases given : a.window with
  | some w => rwa [lacksReference_iff given]
  | none =>
    intro lacks
    obtain ⟨c, -, tested⟩ := List.any_eq_true.1 lacks
    simp only [Bool.and_eq_true, beq_iff_eq] at tested
    have some_window := window ⟨c, tested.1.2⟩
    rw [given] at some_window
    cases some_window

theorem passStartFault_complete {a : PassArgs} {sh : Shape} {s : State} (complete : s.cap.state = .complete)
    (shape : s.cap.shape = some sh) :
    passStartFault a s =
      if s.mfc.header.codes ≠ [] ∧ s.mfc.header.codes ≠ sh.codes then some .planeMismatch
      else if lacksReference a sh s.cap then some .noReference else none := by
  simp only [passStartFault, complete, shape]
  rfl

theorem passStartFault_incomplete {a : PassArgs} {s : State} (incomplete : s.cap.state ≠ .complete) :
    passStartFault a s = some .noCapture := by
  unfold passStartFault
  split
  next state _ => exact absurd state incomplete
  next => rfl

/-! ## JOB_START -/

theorem exec_jobStart {s : State} {b : Fin 16} {x : Box} (free : engineFree s = true) (oldest : oldestStartable s = some b)
    (held : boxAt b s = some x) : exec .jobStart s = .next (startBox b x s) := by
  refine exec_of_effect ?_
  simp only [effect_jobStart, jobStart, free, oldest, held, if_true]

/-- A start check that fails ends the box in the same step (R52). -/
theorem endBox_runBox (b : Fin 16) (x : Box) (r : Reason) (result : JobResult) (s : State) :
    endBox b (.failed r) result (runBox b x false s) =
      raise .jobEnded (setBox b (some
        { x with state := .failed r, started := false, cancelNoted := false, hold := none, result := some result,
                 newResult := true }) s) := by
  rw [runBox, endBox_some (boxAt_setBox_self b _ s), setBox_setBox]

theorem startBox_pass_fails {b : Fin 16} {x : Box} {a : PassArgs} {r : Reason} {s : State} (kind : x.kind = .runPass)
    (args : x.args = some a) (fault : passStartFault a s = some r) :
    startBox b x s = endBox b (.failed r) (.stopped false 0) (runBox b x false s) := by
  simp only [startBox, kind, args, fault]

theorem startBox_commit_fails {b : Fin 16} {x : Box} {r : Reason} {s : State} (kind : x.kind = .commitMap)
    (fault : commitStartFault s = some r) :
    startBox b x s =
      endBox b (.failed r) (.commit (commitResult 0 commitAtStart none s)) (runBox b x false s) := by
  simp only [startBox, kind, fault]

theorem startBox_clear {b : Fin 16} {x : Box} {s : State} (kind : x.kind = .clearMap) :
    startBox b x s = startClear b (runBox b x true s) := by
  simp only [startBox, kind]

theorem startBox_commit {b : Fin 16} {x : Box} {s : State} (kind : x.kind = .commitMap)
    (passes : commitStartFault s = none) : startBox b x s = startCommit b (runBox b x true s) := by
  simp only [startBox, kind, passes]

theorem startBox_pass {b : Fin 16} {x : Box} {a : PassArgs} {sh : Shape} {s : State} (kind : x.kind = .runPass)
    (args : x.args = some a) (passes : passStartFault a s = none) (shape : s.cap.shape = some sh) :
    startBox b x s = startPass b a sh (runBox b x true s) := by
  simp only [startBox, kind, args, passes, shape]

/-- Settles O29, by the kind of the job and the first start check that fails. -/
theorem jobsStart : Obligations.JobsStart := by
  intro s b x free oldest held
  rw [exec_jobStart free oldest held]
  refine ⟨oldestStartable_spec oldest, fun kind => congrArg _ ?_, fun kind clean normal => congrArg _ ?_,
    fun r kind fault => ?_, fun a kind args => ⟨fun incomplete => congrArg _ ?_, fun sh complete shape =>
      ⟨fun planes differ => congrArg _ ?_, fun agrees => ⟨fun lacks => congrArg _ ?_, fun has window => congrArg _ ?_⟩⟩⟩⟩
  · exact (startBox_clear kind).trans rfl
  · have passes : commitStartFault s = none := by simp [commitStartFault, clean, normal]
    exact (startBox_commit kind passes).trans rfl
  · have fails : commitStartFault s = some r := by
      rcases fault with ⟨faulty, rfl⟩ | ⟨clean, worn, rfl⟩
      · simp [commitStartFault, faulty]
      · simp [commitStartFault, clean, worn]
    refine ⟨_, _, congrArg _ ((startBox_commit_fails kind fails).trans ((endBox_runBox b x r _ s).trans rfl)), rfl, ?_⟩
    rw [← unusedSpares_eq]
    rfl
  · rw [startBox_pass_fails kind args (passStartFault_incomplete incomplete), endBox_runBox]
  · have fails := passStartFault_complete (a := a) complete shape
    rw [if_pos ⟨planes, differ⟩] at fails
    rw [startBox_pass_fails kind args fails, endBox_runBox]
  · have fails := passStartFault_complete (a := a) complete shape
    obtain ⟨c, p, w, mask, mode, plane, window, saturated⟩ := lacks
    rw [if_neg (by tauto), (lacksReference_iff window).2 ⟨c, p, w, mask, mode, plane, window, saturated⟩] at fails
    rw [startBox_pass_fails kind args fails, endBox_runBox]
  · have passes := passStartFault_complete (a := a) complete shape
    rw [if_neg (by tauto), lacksReference_false has window] at passes
    exact (startBox_pass kind args passes shape).trans rfl

end Sys2Proof.Proofs.JobStarts
end

section
/-! The stages of a pass over one tile (chapter 1): targets and slopes, the substitution of flat nodes, the new values,
and what the tile adds to the counts and to R_max. -/

namespace Sys2Proof.Proofs.PassStages

open Sys2Proof Sys2Proof.Machine Sys2Proof.Proofs.CorrectionArithmetic Sys2Proof.Proofs.JobStarts

/-! ## Targets (R8, R9) -/

theorem nodup_windowNodes (w : Window) : (windowNodes w).Nodup := by
  refine List.nodup_flatMap.2 ⟨fun y _ => ?_, ?_⟩
  · exact (List.nodup_range' ..).map fun x x' same => congrArg Prod.fst same
  · refine (List.nodup_range' (s := w.y0) (n := w.y1 + 1 - w.y0) (step := 1)).imp fun {y y'} apart => ?_
    intro n left right
    obtain ⟨x, -, rfl⟩ := List.mem_map.1 left
    obtain ⟨x', -, same⟩ := List.mem_map.1 right
    exact apart (congrArg Prod.snd same).symm

theorem toFinset_windowNodes (w : Window) :
    (windowNodes w).toFinset = Finset.Icc w.x0 w.x1 ×ˢ Finset.Icc w.y0 w.y1 := by
  ext ⟨x, y⟩
  simp only [List.mem_toFinset, mem_windowNodes, Finset.mem_product, Finset.mem_Icc]

/-- The mean of a function over the distinct entries of a list. -/
theorem sum_and_length_filter {α β : Type} [DecidableEq α] [AddCommMonoid β] {l : List α} (distinct : l.Nodup) (p : α → Bool)
    (f : α → β) :
    ((l.filter p).map f).sum = ∑ n ∈ l.toFinset.filter fun n => p n = true, f n ∧
      (l.filter p).length = (l.toFinset.filter fun n => p n = true).card := by
  rw [← List.toFinset_filter, List.sum_toFinset _ (distinct.filter p),
    List.toFinset_card_of_nodup (distinct.filter p)]
  exact ⟨rfl, rfl⟩

theorem windowValues_eq (cap : Cap) (w : Window) (p c : Nat) :
    windowValues cap w p c =
      ((windowNodes w).filter fun n => measured cap p c n.1 n.2 != 65535).map fun n => measured cap p c n.1 n.2 :=
  List.filter_map ..

/-- The mean of a reference window at a plane (R9). -/
theorem meanTruncated_windowValues (cap : Cap) (w : Window) (p c : Nat) :
    meanTruncated (windowValues cap w p c) =
      let nodes := (Finset.Icc w.x0 w.x1 ×ˢ Finset.Icc w.y0 w.y1).filter fun n => measured cap p c n.1 n.2 ≠ 65535
      (∑ n ∈ nodes, measured cap p c n.1 n.2) / nodes.card := by
  obtain ⟨sum, card⟩ := sum_and_length_filter (nodup_windowNodes w) (fun n => measured cap p c n.1 n.2 != 65535)
    fun n => measured cap p c n.1 n.2
  rw [meanTruncated, windowValues_eq, sum, List.length_map, card, toFinset_windowNodes]
  simp only [bne_iff_ne]

theorem prepareTargets_included {cap : Cap} {sh : Shape} {a : PassArgs} {c : Fin 3} {p : Fin 4}
    (channel : sh.mask[c] = true) (plane : p.val < sh.codes.length) :
    (prepareTargets cap sh a)[c][p] = targetOf cap a c p := by
  have mask : maskHas sh.mask c.val = true := (maskHas_fin _ c).trans channel
  simp [prepareTargets, mask, plane]

/-! ## Slopes (R10 to R12) -/

theorem slopePair_eq {planes p : Nat} (two : 2 ≤ planes) :
    slopePair planes p =
      ((if p + 1 < planes then p else planes - 2), (if p + 1 < planes then p else planes - 2) + 1) := by
  unfold slopePair
  split
  · rfl
  · rw [show planes - 2 + 1 = planes - 1 by omega]

theorem nonFlatSlope_eq (cap : Cap) (sh : Shape) (least p c x y : Nat) :
    nonFlatSlope cap sh least p c x y =
      let pair := slopePair sh.codes.length p
      let slope := slopeOf (measured cap pair.1 c x y) (measured cap pair.2 c x y) (planeCode sh pair.1)
        (planeCode sh pair.2)
      if (measured cap p c x y = Config.saturated ∨ measured cap pair.1 c x y = Config.saturated ∨
          measured cap pair.2 c x y = Config.saturated) ∨ slope < least then none
      else some slope := by
  unfold nonFlatSlope
  dsimp only
  by_cases saturated : measured cap p c x y = Config.saturated ∨
      measured cap (slopePair sh.codes.length p).1 c x y = Config.saturated ∨
      measured cap (slopePair sh.codes.length p).2 c x y = Config.saturated
  · rw [if_pos saturated, if_pos (.inl saturated)]
  · rw [if_neg saturated]
    simp only [saturated, false_or]

/-- Settles O32. -/
theorem targetsAndSlopesArePrepared : Obligations.TargetsAndSlopesArePrepared := by
  refine ⟨fun cap sh a c p channel plane => ⟨fun ts fixed => ?_, fun w mode window => ?_⟩,
    fun cap sh least p c x y two plane => ?_⟩
  · simp only [prepareTargets_included channel plane, targetOf, fixed]
  · simp only [prepareTargets_included channel plane, targetOf, mode, window]
    exact meanTruncated_windowValues cap w p c
  · rw [nonFlatSlope_eq, slopePair_eq two]
    refine ⟨fun flat => if_pos ?_, fun here lower upper steep => if_neg ?_⟩
    · exact or_assoc.2 (flat.imp_right fun h => or_assoc.2 h)
    · rintro ((saturated | saturated | saturated) | shallow)
      · exact here saturated
      · exact lower saturated
      · exact upper saturated
      · exact absurd steep (Int.not_le.2 shallow)

/-! ## Stage 5 (R16) -/

theorem limitTo_eq (limit : Nat) (v : Int) : limitTo limit v = max (-(limit : Int)) (min (limit : Int) v) := by
  unfold limitTo
  split
  · omega
  · split <;> omega

theorem abs_limitTo_le (limit : Nat) (v : Int) : |limitTo limit v| ≤ limit := by
  rw [limitTo_eq, abs_le]
  omega

/-- The stage-5 value of a node, 0 for a flat one. -/
def stageFive (i : PassInput) (p c : Nat) (n : Nat × Nat) : Int :=
  match nonFlatSlope i.cap i.shape i.args.minSlope p c n.1 n.2 with
  | some slope => limitTo i.args.stepLimit (rawResidual (targetAt i p c) (measured i.cap p c n.1 n.2) slope)
  | none => 0

theorem stageFive_some {i : PassInput} {p c : Nat} {n : Nat × Nat} {slope : Int}
    (h : nonFlatSlope i.cap i.shape i.args.minSlope p c n.1 n.2 = some slope) :
    stageFive i p c n =
      limitTo i.args.stepLimit (rawResidual (targetAt i p c) (measured i.cap p c n.1 n.2) slope) := by
  simp only [stageFive, h]

/-- The node has a slope of its own. -/
def lends (i : PassInput) (p c : Nat) (n : Nat × Nat) : Bool :=
  (nonFlatSlope i.cap i.shape i.args.minSlope p c n.1 n.2).isSome

theorem filterMap_eq_map_filter {α β : Type} (f : α → Option β) (g : α → β) (p : α → Bool) (l : List α)
    (none_of : ∀ n, p n = false → f n = none) (some_of : ∀ n, p n = true → f n = some (g n)) :
    l.filterMap f = (l.filter p).map g := by
  induction l with
  | nil => rfl
  | cons n l ih =>
    cases h : p n with
    | true => simp [h, some_of n h, ih]
    | false => simp [h, none_of n h, ih]

/-- The borrowed values are the stage-5 values of the neighbours that have one (R17, R18). -/
theorem borrowed_eq (i : PassInput) (p c x y : Nat) :
    ((neighbours x y).filterMap fun n => (residualAt i p c n.1 n.2).map (limitTo i.args.stepLimit)) =
      ((neighbours x y).filter (lends i p c)).map (stageFive i p c) := by
  refine filterMap_eq_map_filter _ _ _ _ (fun n none_lent => ?_) fun n lent => ?_
  · have flat := Option.isSome_eq_false_iff.1 none_lent
    rw [Option.isNone_iff_eq_none] at flat
    simp only [residualAt, flat, Option.map_none]
  · obtain ⟨slope, h⟩ := Option.isSome_iff_exists.1 lent
    rw [residualAt_of_nonFlatSlope h, stageFive_some h]
    rfl

/-- The mean of no borrowed value is 0, as the truncated quotient by 0 is. -/
theorem borrowedMean_eq (ds : List Int) : borrowedMean ds = ds.sum.tdiv ds.length := by
  unfold borrowedMean
  split
  next empty =>
    rw [List.isEmpty_iff.1 empty]
    rfl
  next => rfl

theorem nodup_neighbours (x y : Nat) : (neighbours x y).Nodup := by
  unfold neighbours
  split <;> split <;> split <;> split <;> simp <;> omega

/-- The 4-neighbours of a node within the grid of 48 by 28 nodes (R17). -/
theorem toFinset_neighbours {x y : Nat} (hx : x < 48) (hy : y < 28) :
    (neighbours x y).toFinset = (Finset.range 48 ×ˢ Finset.range 28).filter fun n =>
      n.1 = x ∧ (n.2 + 1 = y ∨ n.2 = y + 1) ∨ n.2 = y ∧ (n.1 + 1 = x ∨ n.1 = x + 1) := by
  have mem_if : ∀ (b : Prop) [Decidable b] (n m : Nat × Nat),
      n ∈ (if b then [m] else []) ↔ b ∧ n = m := by
    intro b _ n m
    split <;> simp_all
  ext ⟨a, b⟩
  simp only [List.mem_toFinset, neighbours, List.mem_append, mem_if, Finset.mem_filter, Finset.mem_product,
    Finset.mem_range, Prod.mk.injEq]
  omega

theorem nodeX_lt (t : TileNo) (k : Fin 32) : nodeX t k < 48 := by
  unfold nodeX
  omega

theorem nodeY_lt (t : TileNo) (k : Fin 32) : nodeY t k < 28 := by
  unfold nodeY
  omega

/-- What stages 2 to 6 give for a node with a slope (R14, R16). -/
theorem tileResidual_some {i : PassInput} {t : TileNo} {k : Fin 32} {slope : Int}
    (h : nonFlatSlope i.cap i.shape i.args.minSlope (tilePlane t) (tileChannel t) (nodeX t k) (nodeY t k) = some slope) :
    tileResidual i t k =
      let r := rawResidual (targetAt i (tilePlane t) (tileChannel t))
        (measured i.cap (tilePlane t) (tileChannel t) (nodeX t k) (nodeY t k)) slope
      { d := limitTo i.args.stepLimit r, flat := false, stepClamped := isOutside i.args.stepLimit r } := by
  rw [tileResidual, nodeResidual, residualAt_of_nonFlatSlope h]

/-- What stages 2 to 6 give for a flat node (R17). -/
theorem tileResidual_none {i : PassInput} {t : TileNo} {k : Fin 32}
    (h : nonFlatSlope i.cap i.shape i.args.minSlope (tilePlane t) (tileChannel t) (nodeX t k) (nodeY t k) = none) :
    tileResidual i t k =
      { d := substituted i (tilePlane t) (tileChannel t) (nodeX t k) (nodeY t k), flat := true, stepClamped := false } := by
  have flat : residualAt i (tilePlane t) (tileChannel t) (nodeX t k) (nodeY t k) = none := by
    rw [residualAt, h, Option.map_none]
  rw [tileResidual, nodeResidual, flat]

/-- The lenders of a node: its 4-neighbours within the grid that have a slope (R17). -/
theorem substituted_eq (i : PassInput) (p c : Nat) {x y : Nat} (hx : x < 48) (hy : y < 28) :
    substituted i p c x y =
      let lenders := (Finset.range 48 ×ˢ Finset.range 28).filter fun n =>
        lends i p c n = true ∧
          (n.1 = x ∧ (n.2 + 1 = y ∨ n.2 = y + 1) ∨ n.2 = y ∧ (n.1 + 1 = x ∨ n.1 = x + 1))
      (∑ n ∈ lenders, stageFive i p c n).tdiv lenders.card := by
  obtain ⟨sum, card⟩ := sum_and_length_filter (nodup_neighbours x y) (lends i p c) (stageFive i p c)
  rw [substituted, borrowed_eq, borrowedMean_eq, List.length_map, sum, card, toFinset_neighbours hx hy,
    Finset.filter_filter]
  simp only [and_comm]

theorem natAbs_sum_le {limit : Nat} (ds : List Int) (h : ∀ d ∈ ds, d.natAbs ≤ limit) :
    ds.sum.natAbs ≤ limit * ds.length := by
  induction ds with
  | nil => simp
  | cons d ds ih =>
    have first := h d List.mem_cons_self
    have rest := ih fun e he => h e (List.mem_cons_of_mem _ he)
    rw [List.sum_cons, List.length_cons, Nat.mul_succ]
    exact (Int.natAbs_add_le d ds.sum).trans (by omega)

/-- A mean of values within a limit lies within it (R17). -/
theorem abs_borrowedMean_le {limit : Nat} {ds : List Int} (h : ∀ d ∈ ds, |d| ≤ limit) : |borrowedMean ds| ≤ limit := by
  have sum := natAbs_sum_le ds fun d hd => by
    have bound := h d hd
    rw [Int.abs_eq_natAbs] at bound
    exact_mod_cast bound
  rw [borrowedMean_eq, Int.abs_eq_natAbs, Int.natAbs_tdiv, Int.natAbs_natCast]
  exact_mod_cast Nat.div_le_of_le_mul (by rwa [Nat.mul_comm] at sum)

theorem abs_tileResidual_d_le (i : PassInput) (t : TileNo) (k : Fin 32) : |(tileResidual i t k).d| ≤ i.args.stepLimit := by
  cases h : nonFlatSlope i.cap i.shape i.args.minSlope (tilePlane t) (tileChannel t) (nodeX t k) (nodeY t k) with
  | some slope =>
    rw [tileResidual_some h]
    exact abs_limitTo_le _ _
  | none =>
    rw [tileResidual_none h]
    refine abs_borrowedMean_le fun d hd => ?_
    obtain ⟨n, -, lent⟩ := List.mem_filterMap.1 hd
    obtain ⟨r, -, rfl⟩ := Option.map_eq_some_iff.1 lent
    exact abs_limitTo_le _ _

/-- Settles O33. -/
theorem nodesAreComputedInStages : Obligations.NodesAreComputedInStages := by
  intro i t k old
  dsimp only
  refine ⟨fun slope h => ?_, fun h => ?_, abs_tileResidual_d_le i t k, ?_⟩
  · rw [tileResidual_some h]
    refine ⟨rfl, ?_, isOutside_iff _ _⟩
    rw [h]
    exact limitTo_eq _ _
  · rw [tileResidual_none h]
    refine ⟨rfl, rfl, (substituted_eq i _ _ (nodeX_lt t k) (nodeY_lt t k)).trans ?_⟩
    have five : stageFive i (tilePlane t) (tileChannel t) = fun n =>
        match nonFlatSlope i.cap i.shape i.args.minSlope (tilePlane t) (tileChannel t) n.1 n.2 with
        | some slope => max (-(i.args.stepLimit : Int)) (min (i.args.stepLimit : Int)
            (rawResidual (targetAt i (tilePlane t) (tileChannel t))
              (measured i.cap (tilePlane t) (tileChannel t) n.1 n.2) slope))
        | none => 0 := by
      funext n
      simp only [stageFive, limitTo_eq]
    generalize stageFive i (tilePlane t) (tileChannel t) = f at five ⊢
    subst five
    rfl
  · rw [← limitTo_eq]
    simp [newValues, nodeSum]

/-! ## The counts of a pass (R13, R16, R19, R20, R24) -/

/-- The greatest |d| and its node after the nodes of a list. -/
def maxAfter (i : PassInput) (t : TileNo) (l : List (Fin 32)) (acc : Nat × Option Node) : Nat × Option Node :=
  l.foldl (fun acc k => raiseMax acc (tileResidual i t k) (nodeOf t k)) acc

/-- What R_max and its node have become after the nodes of a list (R24). -/
structure MaxOver (i : PassInput) (t : TileNo) (l : List (Fin 32)) (acc top : Nat × Option Node) : Prop where
  reached : ∀ k ∈ l, (tileResidual i t k).flat = false → top.2 ≠ none ∧ (tileResidual i t k).d.natAbs ≤ top.1
  kept : acc.2 ≠ none → top.2 ≠ none ∧ acc.1 ≤ top.1
  origin : top = acc ∨ ∃ k ∈ l, (tileResidual i t k).flat = false ∧ top.1 = (tileResidual i t k).d.natAbs ∧
    top.2 = some (nodeOf t k) ∧ (acc.2 = none ∨ acc.1 < top.1) ∧
    ∀ j ∈ l, j < k → (tileResidual i t j).flat = false → (tileResidual i t j).d.natAbs < top.1

theorem MaxOver.raise {i : PassInput} {t : TileNo} {l : List (Fin 32)} {acc top : Nat × Option Node} {k : Fin 32}
    (h : MaxOver i t l acc top) (later : ∀ j ∈ l, j < k) :
    MaxOver i t (l ++ [k]) acc (raiseMax top (tileResidual i t k) (nodeOf t k)) := by
  obtain ⟨reached, kept, origin⟩ := h
  unfold raiseMax
  split
  next flat =>
    refine ⟨fun j hj nonflat => ?_, kept, origin.imp_right ?_⟩
    · rcases List.mem_append.1 hj with old | new
      · exact reached j old nonflat
      · rw [List.mem_singleton.1 new, flat] at nonflat
        cases nonflat
    · rintro ⟨m, hm, nonflat, value, node, above, first⟩
      refine ⟨m, List.mem_append_left _ hm, nonflat, value, node, above, fun j hj before nonflat' => ?_⟩
      rcases List.mem_append.1 hj with old | new
      · exact first j old before nonflat'
      · rw [List.mem_singleton.1 new, flat] at nonflat'
        cases nonflat'
  next nonflat_k =>
    have nonflat_k : (tileResidual i t k).flat = false := by simpa using nonflat_k
    split
    next higher =>
      have higher : top.2 ≠ none → top.1 < (tileResidual i t k).d.natAbs := by simpa [or_iff_not_imp_left] using higher
      have below : ∀ j ∈ l, (tileResidual i t j).flat = false →
          (tileResidual i t j).d.natAbs < (tileResidual i t k).d.natAbs := fun j hj nonflat =>
        (reached j hj nonflat).2.trans_lt (higher (reached j hj nonflat).1)
      refine ⟨fun j hj nonflat => ⟨nofun, ?_⟩, fun held => ⟨nofun, ?_⟩, .inr ⟨k, by simp, nonflat_k, rfl, rfl, ?_, ?_⟩⟩
      · rcases List.mem_append.1 hj with old | new
        · exact (below j old nonflat).le
        · rw [List.mem_singleton.1 new]
      · exact (kept held).2.trans (higher (kept held).1).le
      · exact or_iff_not_imp_left.2 fun held => (kept held).2.trans_lt (higher (kept held).1)
      · intro j hj before nonflat
        rcases List.mem_append.1 hj with old | new
        · exact below j old nonflat
        · exact absurd (List.mem_singleton.1 new) before.ne
    next lower =>
      have lower : top.2 ≠ none ∧ (tileResidual i t k).d.natAbs ≤ top.1 := by simpa using lower
      refine ⟨fun j hj nonflat => ?_, kept, origin.imp_right ?_⟩
      · rcases List.mem_append.1 hj with old | new
        · exact reached j old nonflat
        · rw [List.mem_singleton.1 new]
          exact lower
      · rintro ⟨m, hm, nonflat, value, node, above, first⟩
        refine ⟨m, List.mem_append_left _ hm, nonflat, value, node, above, fun j hj before nonflat' => ?_⟩
        rcases List.mem_append.1 hj with old | new
        · exact first j old before nonflat'
        · rw [List.mem_singleton.1 new] at before
          exact absurd before (later m hm).asymm

theorem maxOver_maxAfter (i : PassInput) (t : TileNo) (l : List (Fin 32)) (acc : Nat × Option Node)
    (ascending : l.Pairwise (· < ·)) : MaxOver i t l acc (maxAfter i t l acc) := by
  induction l using List.reverseRecOn with
  | nil => exact ⟨nofun, fun held => ⟨held, le_refl _⟩, .inl rfl⟩
  | append_singleton l k ih =>
    obtain ⟨ascending', -, later⟩ := List.pairwise_append.1 ascending
    rw [maxAfter, List.foldl_concat]
    exact (ih ascending').raise fun j hj => later j hj k (List.mem_singleton_self k)

theorem isOutside_eq (limit : Nat) (v : Int) : isOutside limit v = decide ((limit : Int) < |v|) := by
  rw [Bool.eq_iff_iff, isOutside_iff, decide_eq_true_iff]

/-- Settles O34. -/
theorem passCountsFollowTheNodes : Obligations.PassCountsFollowTheNodes := by
  intro i t old wasFaulty w
  obtain ⟨reached, kept, origin⟩ :=
    maxOver_maxAfter i t (List.finRange 32) (w.rmax, w.rmaxNode) (List.pairwise_lt_finRange 32)
  refine ⟨?_, fun k => reached k (List.mem_finRange k), origin.imp ?_ ?_, fun a => ?_⟩
  · simp only [countTile, isOutside_eq, nodeSum]
  · exact fun same => ⟨congrArg Prod.fst same, congrArg Prod.snd same⟩
  · rintro ⟨k, -, nonflat, value, node, above, first⟩
    exact ⟨k, nonflat, value, node, above, fun j => first j (List.mem_finRange j)⟩
  · rw [passConverged, Bool.and_eq_true, decide_eq_true_iff, decide_eq_true_iff]

end Sys2Proof.Proofs.PassStages
end

section
/-! The victim of a set and the touch of a way (R74, R77, R78), and what a read access and a whole-tile write come to
(R72 to R75, R79, R82 to R85). -/

namespace Sys2Proof.Proofs.TileServed

open Sys2Proof Sys2Proof.Machine Sys2Proof.Proofs.Frames Sys2Proof.Proofs.Steps Sys2Proof.Proofs.Boot
open Sys2Proof.Proofs.TileAccess Sys2Proof.Proofs.StaleScan Sys2Proof.Proofs.Delivery

/-! ## The tree -/

/-- A tree is its seven nodes. -/
theorem tree_eq_nodes (tree : Vector Bool 7) :
    tree = #v[tree[0], tree[1], tree[2], tree[3], tree[4], tree[5], tree[6]] := by
  ext i hi
  interval_cases i <;> rfl

/-- The walk of the tree ends at an unlocked way, at each node on the side that is pointed to unless all of it is locked
(step 2 of R77). -/
theorem walkTree_ends (tree : Vector Bool 7) (lock : Fin 8) :
    walkEndsAt tree lock (walkTree tree lock.val) ∧ lock ≤ walkTree tree lock.val := by
  have nodes : ∀ (lock : Fin 8) (a b c d e f g : Bool),
      walkEndsAt #v[a, b, c, d, e, f, g] lock (walkTree #v[a, b, c, d, e, f, g] lock.val) ∧
        lock ≤ walkTree #v[a, b, c, d, e, f, g] lock.val := by
    unfold walkEndsAt
    decide +kernel
  rw [tree_eq_nodes tree]
  exact nodes ..

/-- A touch makes the three nodes on the way's path point away from it (R74). -/
theorem touchTree_getElem (w : Fin 8) (tree : Vector Bool 7) (n : Fin 7) :
    (touchTree w tree)[n] =
      if n.val = 0 then decide (w.val < 4)
      else if n.val = 1 + w.val / 4 then decide (w.val % 4 < 2)
      else if n.val = 3 + w.val / 2 then decide (w.val % 2 = 0)
      else tree[n] := by
  have nodes : ∀ (w : Fin 8) (n : Fin 7) (a b c d e f g : Bool),
      (touchTree w #v[a, b, c, d, e, f, g])[n] =
        if n.val = 0 then decide (w.val < 4)
        else if n.val = 1 + w.val / 4 then decide (w.val % 4 < 2)
        else if n.val = 3 + w.val / 2 then decide (w.val % 2 = 0)
        else #v[a, b, c, d, e, f, g][n] := by
    decide +kernel
  rw [tree_eq_nodes tree]
  exact nodes ..

/-! ## The victim -/

theorem eligible_false_iff (i : Fin 16) (w : Fin 8) (s : State) : eligible i w s = false ↔ ¬replaceable i w s := by
  rw [← eligible_iff, Bool.not_eq_true]

theorem chooseVictim_invalid {s : State} {i : Fin 16} {w : Fin 8} (invalid : entryAt i w s = none)
    (below : ∀ v : Fin 8, v < w → (entryAt i v s).isSome = true) : chooseVictim i s = some w := by
  have found : ((List.finRange 8).find? fun w => (entryAt i w s).isNone) = some w :=
    find?_finRange_eq_some_iff.2 ⟨by simp [invalid], fun v hv => by
      simpa using below v hv⟩
  simp only [chooseVictim, found]

/-- With every way valid the victim is where the walk ends, or else the lowest way that may be replaced (R77). -/
theorem chooseVictim_valid {s : State} {i : Fin 16} (valid : ∀ w : Fin 8, (entryAt i w s).isSome = true) :
    chooseVictim i s =
      let w := walkTree (s.tlc.sets[i]).tree s.tlc.lock.val
      if eligible i w s then some w else (List.finRange 8).find? fun v => eligible i v s := by
  have none_invalid : ((List.finRange 8).find? fun w => (entryAt i w s).isNone) = none := by
    refine List.find?_eq_none.2 fun w _ => ?_
    simp [Option.isSome_iff_ne_none.1 (valid w)]
  simp only [chooseVictim, none_invalid]

/-- Settles O35. -/
theorem victimsAreChosen : Obligations.VictimsAreChosen := by
  intro s i
  refine ⟨fun w => chooseVictim_invalid, fun valid => ?_, fun w => ⟨_, rfl, touchTree_getElem w _⟩⟩
  have choice := chooseVictim_valid valid
  dsimp only at choice
  obtain ⟨ends, unlocked⟩ := walkTree_ends (s.tlc.sets[i]).tree s.tlc.lock
  refine ⟨_, ends, unlocked, fun may => ?_, fun may_not => ⟨fun v may lowest => ?_, fun none_may => ?_⟩⟩
  · rw [choice, if_pos ((eligible_iff ..).2 may)]
  · rw [choice, if_neg (by rw [eligible_iff]; exact may_not)]
    exact find?_finRange_eq_some_iff.2 ⟨(eligible_iff ..).2 may, fun x hx => (eligible_false_iff ..).2 (lowest x hx)⟩
  · rw [choice, if_neg (by rw [eligible_iff]; exact may_not)]
    exact List.find?_eq_none.2 fun v _ => by rw [eligible_iff]; exact none_may v

/-! ## The queued copies and the fills (R75, R97, R99) -/

theorem newestCopy_none {t : TileNo} {q : List TileCopy} (h : ∀ c ∈ q, c.tile ≠ t) : newestCopy t q = none := by
  refine List.find?_eq_none.2 fun c hc => ?_
  simpa using h c (List.mem_reverse.1 hc)

theorem newestCopy_last {t : TileNo} {before after : List TileCopy} {c : TileCopy} (same : c.tile = t)
    (newest : ∀ d ∈ after, d.tile ≠ t) : newestCopy t (before ++ c :: after) = some c := by
  have later : after.reverse.find? (fun c => c.tile == t) = none :=
    List.find?_eq_none.2 fun d hd => by simpa using newest d (List.mem_reverse.1 hd)
  simp [newestCopy, List.find?_append, later, same]

theorem requestFill_flash {t : TileNo} {s : State} (h : ∀ c ∈ s.tlc.queue, c.tile ≠ t) :
    requestFill t s = s.setMfc { s.mfc with reads := s.mfc.reads ++ [.fill t] } := by
  simp only [requestFill, newestCopy_none h]

theorem requestFill_copy {t : TileNo} {s : State} {c : TileCopy} (h : newestCopy t s.tlc.queue = some c) :
    requestFill t s = s.setTlc { s.tlc with fills := s.tlc.fills ++ [{ tile := t, result := copyFill c }] } := by
  simp only [requestFill, h]

theorem copyFill_eq {t : TileNo} {c : TileCopy} (same : c.tile = t) :
    copyFill c = if c.code = codeOf t c.values then .values c.values else .failed := by
  simp [copyFill, codeAgrees, same]

/-- A fill is requested from the newest queued copy, or from the flash (R97, R99). -/
theorem requestFill_requested (t : TileNo) (s : State) : fillRequested t s (requestFill t s) := by
  refine ⟨fun none_queued => ?_, fun before after c queue same newest => ?_⟩
  · rw [requestFill_flash none_queued]
    exact ⟨rfl, rfl⟩
  · have copy : newestCopy t s.tlc.queue = some c := by rw [queue, newestCopy_last same newest]
    rw [requestFill_copy copy, copyFill_eq same]
    exact ⟨rfl, rfl⟩

/-- A request for a fill changes the fill FIFO or the flash reads alone. -/
theorem requestFill_eq (t : TileNo) (s : State) :
    requestFill t s =
      { s with tlc := { s.tlc with fills := (requestFill t s).tlc.fills },
               mfc := { s.mfc with reads := (requestFill t s).mfc.reads } } := by
  unfold requestFill
  split <;> rfl

/-! ## Repair and loss (R83, R84) -/

theorem repairTile_eq (t : TileNo) (w : Fin 8) (s : State) :
    repairTile t w s =
      { raise .tileRepaired s with
        tlc := { s.tlc with sets := (repairTile t w s).tlc.sets, fills := (repairTile t w s).tlc.fills }
        mfc := { s.mfc with reads := (repairTile t w s).mfc.reads } } := by
  have sets : (repairTile t w s).tlc.sets =
      (setEntry (setOf t) w (some { tile := t, state := .filling }) s).tlc.sets := by
    rw [repairTile, requestFill_eq]
    rfl
  conv_lhs => rw [repairTile, requestFill_eq]
  rw [sets]
  rfl

theorem repairTile_sets (t : TileNo) (w : Fin 8) (s : State) :
    (repairTile t w s).tlc.sets = (setEntry (setOf t) w (some { tile := t, state := .filling }) s).tlc.sets := by
  rw [repairTile, requestFill_eq]
  rfl

/-- A repair requests a fill of the tile (R83). -/
theorem repairTile_requested (t : TileNo) (w : Fin 8) (s : State) : fillRequested t s (repairTile t w s) :=
  requestFill_requested t (raise .tileRepaired (setEntry (setOf t) w (some { tile := t, state := .filling }) s))

theorem loseTile_sets (t : TileNo) (w : Fin 8) (s : State) :
    (loseTile t w s).tlc = (setEntry (setOf t) w (some { tile := t, state := .faulty }) s).tlc := by
  rw [loseTile, markChanged_eq]
  rfl

theorem loseTile_eq (t : TileNo) (w : Fin 8) (s : State) :
    loseTile t w s =
      { s with
        tlc := { s.tlc with sets := (loseTile t w s).tlc.sets }
        mfc := { s.mfc with header := { s.mfc.header with faulty := s.mfc.header.faulty + 1 } }
        pcd := (markChanged t s).pcd, syp := (markChanged t (raise .tileLost s)).syp } := by
  have directory : (loseTile t w s).pcd = (markChanged t s).pcd := markChanged_pcd_congr t rfl
  have flags : (loseTile t w s).syp = (markChanged t (raise .tileLost s)).syp := markChanged_syp_congr t rfl rfl
  rw [← directory, ← flags, loseTile_sets]
  unfold loseTile
  dsimp only
  conv_lhs => rw [markChanged_eq]
  have kept : ∀ u : State, { u.syp with flags := (markChanged t u).syp.flags } = (markChanged t u).syp := by
    intro u
    conv_rhs => rw [markChanged_eq]
  rw [kept]
  rfl

theorem flagSet_markChanged {t : TileNo} {s : State} {e : Event} (h : flagSet e s = true) :
    flagSet e (markChanged t s) = true := by
  unfold markChanged
  split
  · exact flagSet_appendNotice h
  all_goals exact h

theorem flagSet_loseTile (t : TileNo) (w : Fin 8) (s : State) : flagSet .tileLost (loseTile t w s) = true :=
  flagSet_markChanged (by simp [flagSet, setHeader, raise, eventMask, eventBit])

/-! ## The ways of a set -/

theorem wayGiven_touched {t : TileNo} {w : Fin 8} {e : EntryState} {s u : State} (h : wayGiven t w e s u) :
    wayGiven t w e s (touch (setOf t) w u) := by
  obtain ⟨entry, others, trees, queue⟩ := h
  refine ⟨(entryAt_touch ..).trans entry, fun j x away => (entryAt_touch ..).trans (others j x away), fun j => ?_, queue⟩
  rw [tree_touch, trees, trees]
  by_cases here : j = setOf t
  · rw [if_pos here, if_pos here, if_pos rfl, touchTree_idem]
  · rw [if_neg here, if_neg here]

theorem wayGiven_lost {t : TileNo} {w : Fin 8} {e : EntryState} {s u : State} (h : wayGiven t w e s u) :
    wayGiven t w .faulty s (loseTile t w u) := by
  obtain ⟨entry, others, trees, queue⟩ := h
  have sets := congrArg Tlc.sets (loseTile_sets t w u)
  refine ⟨?_, fun j x away => ?_, fun j => ?_, ?_⟩
  · rw [entryAt_congr sets, entryAt_setEntry_self]
  · rw [entryAt_congr sets, entryAt_setEntry_other _ _ away, others j x away]
  · rw [sets, tree_setEntry, trees]
  · rw [loseTile_sets]
    exact queue

/-- What replaces a victim on a miss of tile `t` is no copy of tile `t`: the victim would have been found. -/
theorem copyOfWay_other {t : TileNo} {w : Fin 8} {s : State} (missing : findWay t s = none) :
    ∀ c ∈ copyOfWay (setOf t) w s, c.tile ≠ t := by
  intro c hc same
  unfold copyOfWay at hc
  split at hc
  next u v k entry =>
    rw [List.mem_singleton] at hc
    subst hc
    have found := List.find?_eq_none.1 missing w (List.mem_finRange w)
    simp only [entry] at found
    exact found (beq_iff_eq.2 same)
  next => cases hc

/-! ## Accesses -/

theorem readTileAt_hit {t : TileNo} {w : Fin 8} {s : State} (found : findWay t s = some w) :
    readTileAt t s = readEntry t w s := by
  simp only [readTileAt, found]

theorem readEntry_clean_differs {t : TileNo} {w : Fin 8} {s : State} {v : TileValues} {c : CheckCode}
    (entry : entryAt (setOf t) w s = some { tile := t, state := .clean v c }) (differs : c ≠ codeOf t v) :
    readEntry t w s = (repairTile t w s, .waits .waitRepair) := by
  simp [readEntry, entry, codeAgrees, differs]

theorem readEntry_dirty_differs {t : TileNo} {w : Fin 8} {s : State} {v : TileValues} {c : CheckCode}
    (entry : entryAt (setOf t) w s = some { tile := t, state := .dirty v c }) (differs : c ≠ codeOf t v) :
    readEntry t w s = (loseTile t w s, .faulty w) := by
  simp [readEntry, entry, codeAgrees, differs]

theorem readEntry_dirty_agrees {t : TileNo} {w : Fin 8} {s : State} {v : TileValues} {c : CheckCode}
    (entry : entryAt (setOf t) w s = some { tile := t, state := .dirty v c }) (agrees : c = codeOf t v) :
    readEntry t w s = (touch (setOf t) w s, .values w v) := by
  simp [readEntry, entry, codeAgrees, agrees]

/-- A miss with a queued copy is served from it (case 2 of R75). -/
theorem readTileAt_copy {t : TileNo} {w : Fin 8} {s : State} {c : TileCopy} (missing : findWay t s = none)
    (victim : chooseVictim (setOf t) s = some w) (copy : newestCopy t s.tlc.queue = some c) :
    readTileAt t s = readEntry t w (giveWay (setOf t) w t (.dirty c.values c.code) s) := by
  simp only [readTileAt, missing, victim, copy]

/-- A miss without a queued copy requests a fill (case 3 of R75). -/
theorem readTileAt_fetch {t : TileNo} {w : Fin 8} {s : State} (missing : findWay t s = none)
    (victim : chooseVictim (setOf t) s = some w) (none_queued : ∀ c ∈ s.tlc.queue, c.tile ≠ t) :
    readTileAt t s = (requestFill t (giveWay (setOf t) w t .filling s), .waits .waitFill) := by
  simp only [readTileAt, missing, victim, newestCopy_none none_queued]

/-- With no way to give the tile an access waits, or is refused, and changes nothing (R79). -/
theorem access_noWay {t : TileNo} {s : State} (missing : findWay t s = none) (victim : chooseVictim (setOf t) s = none) :
    readTileAt t s = (s, if mayWaitForWay (setOf t) s then .waits .waitWay else .refused (s.mfc.wear == .worn)) ∧
      ∀ v : TileValues, writeTileAt t v s =
        (s, if mayWaitForWay (setOf t) s then .waits .waitWay else .refused (s.mfc.wear == .worn)) := by
  refine ⟨?_, fun v => ?_⟩
  · simp only [readTileAt, missing, victim]
  · simp only [writeTileAt, missing, victim]

/-- Settles O36: the hits by the state of the entry, then the misses with a victim, then those without. -/
theorem tileAccessesAreServed : Obligations.TileAccessesAreServed := by
  intro s t
  refine ⟨fun w found => ⟨fun v => readTileAt_holds, fun e v entry state => ⟨_, writeTileAt_hit v found entry state,
      storeWhole_stored found v, ?_⟩, fun entry => readTileAt_faulty found entry, fun entry => ?_,
      fun v c differs => ⟨fun entry => ⟨_, (readTileAt_hit found).trans (readEntry_clean_differs entry differs),
        repairTile_eq t w s, ?_, fun j x away => ?_, fun j => ?_, repairTile_requested t w s⟩,
      fun entry => ⟨_, (readTileAt_hit found).trans (readEntry_dirty_differs entry differs), loseTile_eq t w s, ?_,
        fun j x away => ?_, fun j => ?_⟩⟩⟩,
    fun missing => ⟨fun w victim => ⟨fun none_queued => ⟨_, readTileAt_fetch missing victim none_queued, ?_⟩,
        fun before after c queue same newest => ?_, fun v => ?_⟩, fun no_victim => ?_⟩⟩
  · have syp : (markChanged t s).syp = { s.syp with flags := (storeWhole t w v s).syp.flags } := by
      rw [storeWhole_syp]
      conv_lhs => rw [markChanged_eq]
    conv_lhs => rw [storeWhole_eq, syp, ← storeWhole_pcd t w v s]
  · refine ⟨(readTileAt_hit found).trans ?_, fun v => ?_⟩
    · simp [readEntry, entry]
    · simp [writeTileAt, found, entry]
  · rw [entryAt_congr (repairTile_sets t w s), entryAt_setEntry_self]
  · rw [entryAt_congr (repairTile_sets t w s), entryAt_setEntry_other _ _ away]
  · rw [repairTile_sets, tree_setEntry]
  · rw [entryAt_congr (congrArg Tlc.sets (loseTile_sets t w s)), entryAt_setEntry_self]
  · rw [entryAt_congr (congrArg Tlc.sets (loseTile_sets t w s)), entryAt_setEntry_other _ _ away]
  · rw [loseTile_sets, tree_setEntry]
  · have given := giveWay_wayGiven t w .filling s
    have form := giveWay_eq (setOf t) w t .filling s
    have none_after : ∀ c ∈ (giveWay (setOf t) w t .filling s).tlc.queue, c.tile ≠ t := by
      obtain ⟨-, -, -, queue⟩ := given
      rw [queue]
      intro c hc
      exact (List.mem_append.1 hc).elim (none_queued c) (copyOfWay_other missing c)
    rw [requestFill_flash none_after]
    refine ⟨?_, given⟩
    conv_lhs => rw [form]
    rw [form]
    rfl
  · have copy : newestCopy t s.tlc.queue = some c := by rw [queue, newestCopy_last same newest]
    have given := giveWay_wayGiven t w (.dirty c.values c.code) s
    have form := giveWay_eq (setOf t) w t (.dirty c.values c.code) s
    refine ⟨fun agrees => ⟨_, (readTileAt_copy missing victim copy).trans (readEntry_dirty_agrees given.1 agrees), ?_,
        wayGiven_touched given⟩,
      fun differs => ⟨_, (readTileAt_copy missing victim copy).trans (readEntry_dirty_differs given.1 differs),
        wayGiven_lost given, flagSet_loseTile .., ?_, ?_⟩⟩
    · conv_lhs => rw [form]
      rw [form]
      rfl
    · rw [loseTile_eq, form]
      rfl
    · rw [loseTile_eq]
      exact markChanged_pcd_congr t (by rw [form]; rfl)
  · obtain ⟨u, written, stored, form⟩ := writeTileAt_miss v missing victim
    exact ⟨u, written, form, stored⟩
  · obtain ⟨read, write⟩ := access_noWay missing no_victim
    refine ⟨fun must => ?_, fun worn => ?_, fun normal must_not => ?_⟩
    · have waits : mayWaitForWay (setOf t) s = true := (mayWaitForWay_iff ..).2 must
      rw [waits] at read write
      exact ⟨read, write⟩
    · have gives_up : mayWaitForWay (setOf t) s = false := by
        rw [← Bool.not_eq_true, mayWaitForWay_iff]
        rintro ⟨normal, -⟩
        rw [worn] at normal
        cases normal
      rw [gives_up, worn] at read write
      exact ⟨read, write⟩
    · have gives_up : mayWaitForWay (setOf t) s = false := by
        rw [← Bool.not_eq_true, mayWaitForWay_iff]
        exact must_not
      rw [gives_up, normal] at read write
      exact ⟨read, write⟩

end Sys2Proof.Proofs.TileServed
end

section
/-! The tile operations of a pass and of a clear (R20 to R27, R59, R62 to R66): what a granted operation leaves, tile by
tile, and how the job ends. -/

namespace Sys2Proof.Proofs.JobTiles

open Sys2Proof Sys2Proof.Machine Sys2Proof.Proofs.Frames Sys2Proof.Proofs.Steps Sys2Proof.Proofs.Boot
open Sys2Proof.Proofs.TileAccess Sys2Proof.Proofs.StaleScan Sys2Proof.Proofs.Ports Sys2Proof.Proofs.JobTable
open Sys2Proof.Proofs.TileServed

/-! ## The included tiles (R2, R6, R7) -/

theorem nextIncluded_some {sh : Shape} {n : Nat} {t : TileNo} (h : nextIncluded sh n = some t) :
    n ≤ t.val ∧ inPass sh t ∧ ∀ v : TileNo, n ≤ v.val → inPass sh v → t ≤ v := by
  obtain ⟨here, below⟩ := find?_finRange_eq_some_iff.1 h
  rw [Bool.and_eq_true, decide_eq_true_iff, tileIncluded_iff] at here
  refine ⟨here.1, here.2, fun v after included => le_of_not_gt fun before => ?_⟩
  have out := below v before
  rw [(tileIncluded_iff sh v).2 included, decide_eq_true after] at out
  cases out

theorem nextIncluded_none {sh : Shape} {n : Nat} (h : nextIncluded sh n = none) (v : TileNo) (after : n ≤ v.val) :
    ¬inPass sh v := by
  intro included
  have out := List.find?_eq_none.1 h v (List.mem_finRange v)
  rw [(tileIncluded_iff sh v).2 included, decide_eq_true after] at out
  exact out rfl

/-! ## What a read access leaves where it found or placed the tile -/

theorem findWay_eq_some_iff {t : TileNo} {w : Fin 8} {s : State} :
    findWay t s = some w ↔
      (∃ e, entryAt (setOf t) w s = some e ∧ e.tile = t) ∧
        ∀ x < w, ∀ e, entryAt (setOf t) x s = some e → e.tile ≠ t := by
  rw [findWay, find?_finRange_eq_some_iff]
  refine and_congr ?_ (forall₂_congr fun x _ => ?_)
  · cases entryAt (setOf t) w s <;> simp
  · cases entryAt (setOf t) x s <;> simp

theorem ne_tile_of_missing {t : TileNo} {s : State} (missing : findWay t s = none) (x : Fin 8) (e : Entry)
    (entry : entryAt (setOf t) x s = some e) : e.tile ≠ t := by
  intro same
  have out := List.find?_eq_none.1 missing x (List.mem_finRange x)
  simp only [entry] at out
  exact out (beq_iff_eq.2 same)

/-- A tile that stands in its way, with the other ways as they were, is found there. -/
theorem findWay_of_placed {t : TileNo} {w : Fin 8} {s u : State} {e : Entry} (before : findWay t s = some w ∨ findWay t s = none)
    (entry : entryAt (setOf t) w u = some e) (tile : e.tile = t)
    (others : ∀ x, x ≠ w → entryAt (setOf t) x u = entryAt (setOf t) x s) : findWay t u = some w := by
  refine findWay_eq_some_iff.2 ⟨⟨e, entry, tile⟩, fun x lower f there => ?_⟩
  rw [others x lower.ne] at there
  rcases before with found | missing
  · exact (findWay_eq_some_iff.1 found).2 x lower f there
  · exact ne_tile_of_missing missing x f there

theorem loseTile_entry (t : TileNo) (w : Fin 8) (s : State) :
    entryAt (setOf t) w (loseTile t w s) = some { tile := t, state := .faulty } := by
  rw [entryAt_congr (congrArg Tlc.sets (loseTile_sets t w s)), entryAt_setEntry_self]

theorem loseTile_otherWays (t : TileNo) (w : Fin 8) (s : State) : otherWaysKept (setOf t) w s (loseTile t w s) := by
  intro j x away
  rw [entryAt_congr (congrArg Tlc.sets (loseTile_sets t w s)), entryAt_setEntry_other _ _ away]

/-- A read access has the tile's values, or has lost them, in way `w`. -/
def foundIn (w : Fin 8) (lost : Bool) (o : ReadOutcome) : Prop :=
  (∃ v, o = .values w v ∧ lost = false) ∨ o = .faulty w ∧ lost = true

theorem isFaulty_iff (i : Fin 16) (w : Fin 8) (s : State) :
    isFaulty i w s = true ↔ ∃ t, entryAt i w s = some { tile := t, state := .faulty } := by
  unfold isFaulty
  split
  next e entry =>
    obtain ⟨t, st⟩ := e
    simp [entry]
  next absent => simp [absent]

/-- An access on an entry of the tile leaves the tile in its way, FAULTY exactly when it is lost, with the other ways as
they were and no change of the header but the faulty count. -/
theorem entryRead_found {t : TileNo} {w x : Fin 8} {s u : State} {o : ReadOutcome} {lost : Bool} {e : Entry}
    (read : EntryRead t w s u o) (found : foundIn x lost o) (entry : entryAt (setOf t) w s = some e) (tile : e.tile = t) :
    x = w ∧ (∃ f, entryAt (setOf t) w u = some f ∧ f.tile = t) ∧ isFaulty (setOf t) w u = lost ∧
      otherWaysKept (setOf t) w s u ∧ ∃ n, u.mfc.header = { s.mfc.header with faulty := n } := by
  cases read with
  | held f v c entry' content agrees =>
    obtain ⟨v', same, rfl⟩ | ⟨same, -⟩ := found
    · cases same
      obtain rfl := Option.some.inj (entry.symm.trans entry')
      refine ⟨rfl, ⟨e, (entryAt_touch ..).trans entry, tile⟩, ?_, fun j y _ => entryAt_touch .., _, rfl⟩
      rw [← Bool.not_eq_true, isFaulty_iff, entryAt_touch, entry]
      rintro ⟨t', same⟩
      rw [Option.some.inj same] at content
      rcases content with clean | dirty
      · cases clean
      · cases dirty
    · cases same
  | lost f v c entry' dirty differs =>
    obtain ⟨v', same, -⟩ | ⟨same, rfl⟩ := found
    · cases same
    · cases same
      refine ⟨rfl, ⟨_, loseTile_entry .., rfl⟩, (isFaulty_iff ..).2 ⟨t, loseTile_entry ..⟩, loseTile_otherWays t w s,
        s.mfc.header.faulty + 1, ?_⟩
      rw [loseTile_eq]
  | faulty f entry' state =>
    obtain ⟨v', same, -⟩ | ⟨same, rfl⟩ := found
    · cases same
    · cases same
      obtain ⟨t', st⟩ := f
      subst state
      exact ⟨rfl, ⟨e, entry, tile⟩, (isFaulty_iff ..).2 ⟨t', entry'⟩, fun _ _ _ => rfl, _, rfl⟩
  | repaired => rcases found with ⟨v', same, -⟩ | ⟨same, -⟩ <;> cases same
  | filling => rcases found with ⟨v', same, -⟩ | ⟨same, -⟩ <;> cases same

/-- After a read access that has the tile's values, or has lost them, the cache holds the tile in the way named, FAULTY
exactly when it is lost. -/
theorem tileRead_found {t : TileNo} {x : Fin 8} {s u : State} {o : ReadOutcome} {lost : Bool} (read : TileRead t s u o)
    (found : foundIn x lost o) :
    findWay t u = some x ∧ isFaulty (setOf t) x u = lost ∧ ∃ n, u.mfc.header = { s.mfc.header with faulty := n } := by
  cases read with
  | hit w here entryRead =>
    obtain ⟨e, entry, tile⟩ := findWay_some here
    obtain ⟨rfl, ⟨f, entry', tile'⟩, faulty, others, header⟩ := entryRead_found entryRead found entry tile
    exact ⟨findWay_of_placed (.inl here) entry' tile' fun y away => others _ y fun both => away both.2, faulty, header⟩
  | copied w c missing victim copy entryRead =>
    obtain ⟨entry, given, -⟩ := giveWay_wayGiven t w (.dirty c.values c.code) s
    obtain ⟨rfl, ⟨f, entry', tile'⟩, faulty, others, n, header⟩ := entryRead_found entryRead found entry rfl
    refine ⟨findWay_of_placed (.inr missing) entry' tile' fun y away => ?_, faulty, n, ?_⟩
    · exact (others _ y fun both => away both.2).trans (given _ y fun both => away both.2)
    · rw [header, giveWay_eq]
      rfl
  | noWay => rcases found with ⟨v', same, -⟩ | ⟨same, -⟩ <;> split at same <;> cases same
  | fetched => rcases found with ⟨v', same, -⟩ | ⟨same, -⟩ <;> cases same

theorem readTileAt_found {t : TileNo} {w : Fin 8} {s u : State} {o : ReadOutcome} {lost : Bool}
    (read : readTileAt t s = (u, o)) (found : foundIn w lost o) :
    findWay t u = some w ∧ isFaulty (setOf t) w u = lost ∧ ∃ n, u.mfc.header = { s.mfc.header with faulty := n } := by
  have spec := readTileAt_tileRead t s
  rw [read] at spec
  exact tileRead_found spec found

theorem readTileAt_jobs {t : TileNo} {s u : State} {o : ReadOutcome} (read : readTileAt t s = (u, o)) :
    u.cap = s.cap ∧ u.jobs = s.jobs ∧ u.tlc.job = s.tlc.job ∧ u.mfc.wear = s.mfc.wear := by
  have frame := readTileAt_frame t s
  have rest := readTileAt_rest t s
  rw [read] at frame rest
  simp only at frame rest
  tauto

/-! ## What a written tile leaves -/

/-- A whole-tile write in a way changes the sets, the working header, the directory and the event flags alone. -/
theorem storeWhole_parts (t : TileNo) (w : Fin 8) (v : TileValues) (s : State) :
    ∃ S H P F, storeWhole t w v s =
        { s with tlc := { s.tlc with sets := S }, mfc := { s.mfc with header := H }, pcd := P,
                 syp := { s.syp with flags := F } } ∧
      H = { s.mfc.header with
            committed := false, faulty := s.mfc.header.faulty - if isFaulty (setOf t) w s then 1 else 0 } := by
  refine ⟨(storeWhole t w v s).tlc.sets, _, (markChanged t s).pcd, (markChanged t s).syp.flags, ?_,
    storeWhole_header t w v s⟩
  have syp : (markChanged t s).syp = { s.syp with flags := (markChanged t s).syp.flags } := by
    conv_lhs => rw [markChanged_eq]
  conv_lhs => rw [storeWhole_eq, syp]

/-- What a write leaves is read off the sets, the queue, the header's two fields and the directory. -/
theorem tileStored_congr {t : TileNo} {w : Fin 8} {v : TileValues} {s u z : State} (h : tileStored t w v s u)
    (sets : z.tlc.sets = u.tlc.sets) (queue : z.tlc.queue = u.tlc.queue)
    (committed : z.mfc.header.committed = u.mfc.header.committed) (faulty : z.mfc.header.faulty = u.mfc.header.faulty)
    (pcd : z.pcd = u.pcd) : tileStored t w v s z := by
  obtain ⟨entry, others, trees, copies, clear, count, directory, dir, dirs⟩ := h
  have same : ∀ x, dirOf x z = dirOf x u := fun x => by rw [dirOf, pcd, dirOf]
  refine ⟨(entryAt_congr sets ..).trans entry, fun j x away => (entryAt_congr sets ..).trans (others j x away),
    fun j => ?_, queue.trans copies, committed.trans clear, faulty.trans count, pcd.trans directory, ?_, fun x away => ?_⟩
  · rw [sets, trees]
  · rw [same, dir]
  · rw [same, dirs x away]

/-- The tile is counted to the box's owner and to its progress. -/
theorem counted_eq (st : Station) (b : Fin 16) (y : Box) (z : State) :
    setBox b (some y) (rise (.station st) .tiles 1 z) =
      { z with jobs := { z.jobs with boxes := z.jobs.boxes.set b (some y) },
               syp := { z.syp with flags := risenFlags (.station st) .tiles 1 z.mct z.syp.flags },
               mct := risen (.station st) .tiles 1 z.mct } := by
  simp only [setBox, State.setJobs, rise_parts]

theorem risen_eq (m : Master) (k : CounterKind) (n : Nat) (s : State) : (rise m k n s).mct = risen m k n s.mct := by
  rw [rise_parts]

theorem box_set_other {b c : Fin 16} (away : c ≠ b) (y : Option Box) (boxes : Vector (Option Box) 16) :
    (boxes.set b y)[c] = boxes[c] :=
  Vector.getElem_set_ne _ _ fun same => away (Fin.ext same.symm)

/-! ## A granted pass tile operation -/

theorem exec_passTile {s : State} {b : Fin 16} {x : Box} {w : PassWork} {a : PassArgs} {sh : Shape}
    (grant : nextGrant s = some .job) (running : s.jobs.running = some { box := b, work := .pass w })
    (held : boxAt b s = some x) (args : x.args = some a) (shape : s.cap.shape = some sh) :
    exec .passTileOperation s = .next (passTile b x a sh w s) := by
  refine exec_of_effect ?_
  simp only [effect_passTileOperation, passTileOperation, grant, running, held, shape, args]

/-- A pass tile operation whose read access has the tile's values, or has lost them, writes the tile (R21). -/
theorem passTile_found {s u : State} {b : Fin 16} {x : Box} {w : PassWork} {a : PassArgs} {sh : Shape} {way : Fin 8}
    {old : TileValues} {lost : Bool}
    (read : readTileAt w.next (grantJob s) = (u, .values way old) ∧ lost = false ∨
      readTileAt w.next (grantJob s) = (u, .faulty way) ∧ old = Vector.replicate 32 0 ∧ lost = true) :
    passTile b x a sh w s = writePassTile b x a sh w way old lost u := by
  rcases read with ⟨read, rfl⟩ | ⟨read, rfl, rfl⟩ <;> simp only [passTile, read]

/-- The state of the part when a pass tile has been written and counted, before what follows it (R21). -/
structure PassTileWritten (b : Fin 16) (x : Box) (a : PassArgs) (sh : Shape) (w : PassWork) (way : Fin 8) (old : TileValues)
    (lost : Bool) (s u : State) (after : PassWork) (v : State) : Prop where
  work : after = countTile { cap := s.cap, shape := sh, targets := w.targets, args := a } w.next old lost w
  next : writePassTile b x a sh w way old lost u = passWritten b x a after (nextIncluded sh (w.next.val + 1)) v
  stored : tileStored w.next way
    (newValues { cap := s.cap, shape := sh, targets := w.targets, args := a } w.next old) u v
  form : v = { u with
    jobs := { s.jobs with boxes := s.jobs.boxes.set b (some { x with progress := w.tilesWritten + 1 }) }
    tlc := { u.tlc with sets := v.tlc.sets }
    mfc := { u.mfc with header := v.mfc.header }
    pcd := v.pcd
    syp := { u.syp with flags := v.syp.flags }
    mct := (rise (.station x.owner) .tiles 1 u).mct }
  header : v.mfc.header = { u.mfc.header with
    committed := false, faulty := u.mfc.header.faulty - if lost then 1 else 0 }
  count : u.mfc.header.passCount = s.mfc.header.passCount
  capture : v.cap = s.cap

theorem passTile_written {s u : State} {b : Fin 16} {x : Box} {w : PassWork} {a : PassArgs} {sh : Shape} {way : Fin 8}
    {old : TileValues} {lost : Bool}
    (read : readTileAt w.next (grantJob s) = (u, .values way old) ∧ lost = false ∨
      readTileAt w.next (grantJob s) = (u, .faulty way) ∧ old = Vector.replicate 32 0 ∧ lost = true) :
    ∃ after v, PassTileWritten b x a sh w way old lost s u after v := by
  have outcome : ∃ o, readTileAt w.next (grantJob s) = (u, o) ∧ foundIn way lost o := by
    rcases read with ⟨read, rfl⟩ | ⟨read, -, rfl⟩
    · exact ⟨_, read, .inl ⟨_, rfl, rfl⟩⟩
    · exact ⟨_, read, .inr ⟨rfl, rfl⟩⟩
  obtain ⟨o, read', found⟩ := outcome
  obtain ⟨here, faulty, n, header⟩ := readTileAt_found read' found
  obtain ⟨cap, jobs, -⟩ := readTileAt_jobs read'
  have cap : u.cap = s.cap := cap
  have jobs : u.jobs = s.jobs := jobs
  have stored := storeWhole_stored here
    (newValues { cap := s.cap, shape := sh, targets := w.targets, args := a } w.next old)
  obtain ⟨S, H, P, F, form, changed⟩ := storeWhole_parts w.next way
    (newValues { cap := s.cap, shape := sh, targets := w.targets, args := a } w.next old) u
  rw [faulty] at changed
  refine ⟨_, setBox b (some { x with progress := w.tilesWritten + 1 }) (rise (.station x.owner) .tiles 1
    (storeWhole w.next way (newValues { cap := s.cap, shape := sh, targets := w.targets, args := a } w.next old) u)),
    rfl, ?_, ?_, ?_, ?_, ?_, ?_⟩
  · rw [writePassTile, cap]
    rfl
  · rw [counted_eq]
    exact tileStored_congr stored rfl rfl rfl rfl rfl
  · rw [counted_eq, form, risen_eq, jobs]
  · rw [counted_eq, form]
    exact changed
  · rw [header]
    rfl
  · rw [counted_eq, form]
    exact cap

/-- The end of the running job changes the boxes, the running work, the JOB operation and the event flags alone. -/
theorem endRunning_form (b : Fin 16) (st : BoxState) (r : JobResult) (v : State) :
    ∃ J F, endRunning b st r v =
        { v with jobs := J, tlc := { v.tlc with job := none, jobWait := 0 }, syp := { v.syp with flags := F } } ∧
      ∀ c : Fin 16, c ≠ b → J.boxes[c] = v.jobs.boxes[c] := by
  cases held : boxAt b v with
  | none =>
    have same : endBox b st r v = v := by simp only [endBox, held]
    rw [endRunning, same]
    exact ⟨_, _, rfl, fun _ _ => rfl⟩
  | some x =>
    rw [endRunning_eq held]
    exact ⟨_, _, rfl, fun c away => box_set_other away _ _⟩

/-- What follows the writing of a tile changes the capture's state, the job table, the JOB operation, the header and the
event flags alone, and of the header neither committed nor the faulty count. -/
theorem passWritten_form (b : Fin 16) (x : Box) (a : PassArgs) (w : PassWork) (next : Option TileNo) (v : State) :
    ∃ C J O H F, passWritten b x a w next v =
        { v with cap := C, jobs := J, tlc := { v.tlc with job := O, jobWait := 0 }, mfc := { v.mfc with header := H },
                 syp := { v.syp with flags := F } } ∧
      C.rows = v.cap.rows ∧ (∀ c : Fin 16, c ≠ b → J.boxes[c] = v.jobs.boxes[c]) ∧
      H.committed = v.mfc.header.committed ∧ H.faulty = v.mfc.header.faulty := by
  unfold passWritten
  split
  next =>
    unfold completePass
    dsimp only
    obtain ⟨J, F, ended, boxes⟩ := endRunning_form b .done
      (.pass (passResult a w (min (v.mfc.header.passCount + 1) 65535)))
      (consumeCapture (setHeader { v.mfc.header with
        passCount := min (v.mfc.header.passCount + 1) 65535
        converged := passConverged a w && !w.outsideWrite
        mixed := false } v))
    exact ⟨_, J, none, _, F, ended, rfl, boxes, rfl, rfl⟩
  next =>
    split
    · obtain ⟨J, F, ended, boxes⟩ := endRunning_form b .cancelled (.stopped true w.tilesWritten) (consumeCapture v)
      exact ⟨_, J, none, v.mfc.header, F, ended, rfl, boxes, rfl, rfl⟩
    · exact ⟨v.cap, _, some .presented, v.mfc.header, v.syp.flags, rfl, rfl, fun _ _ => rfl, rfl, rfl⟩

/-- The completion of a pass (R27, R62). -/
theorem completePass_eq {b : Fin 16} {y : Box} {v : State} (a : PassArgs) (w : PassWork) (held : boxAt b v = some y) :
    completePass b a w v =
      let count := min (v.mfc.header.passCount + 1) 65535
      { raise .jobEnded v with
        cap := { v.cap with state := .consumed }
        jobs := { v.jobs with
          boxes := v.jobs.boxes.set b (some
            { y with state := .done, result := some (.pass (passResult a w count)), newResult := true, hold := none })
          running := none }
        tlc := { v.tlc with job := none, jobWait := 0 }
        mfc := { v.mfc with header := { v.mfc.header with
          passCount := count, converged := passConverged a w && !w.outsideWrite, mixed := false } } } := by
  unfold completePass
  dsimp only
  exact endRunning_eq (s := consumeCapture (setHeader { v.mfc.header with
    passCount := min (v.mfc.header.passCount + 1) 65535
    converged := passConverged a w && !w.outsideWrite
    mixed := false } v)) held _ _

/-- Settles O37. -/
theorem passTilesAreWritten : Obligations.PassTilesAreWritten := by
  refine ⟨fun sh n => ⟨fun t => nextIncluded_some, nextIncluded_none⟩,
    fun s u b x w a sh way old lost grant running held args shape read => ?_⟩
  obtain ⟨after, v, written⟩ := passTile_written (b := b) (x := x) (a := a) (sh := sh) read
  obtain ⟨C, J, O, H, F, followed, rows, boxes, committed, faulty⟩ :=
    passWritten_form b x a after (nextIncluded sh (w.next.val + 1)) v
  have reached : passTile b x a sh w s = passWritten b x a after (nextIncluded sh (w.next.val + 1)) v :=
    (passTile_found read).trans written.next
  refine ⟨_, (exec_passTile grant running held args shape).trans (congrArg _ reached), ?_, ?_, fun c away => ?_, ?_,
    fun t next quiet => ?_⟩
  · rw [followed]
    conv_lhs => rw [written.form]
  · rw [followed]
    exact tileStored_congr written.stored rfl rfl committed faulty rfl
  · rw [followed, boxAt, boxes c away, written.form]
    exact box_set_other away _ _
  · rw [followed, rows, written.capture]
  · rw [next]
    have goes : passWritten b x a after (some t) v = requestPassTile b { after with next := t } v := by
      simp [passWritten, quiet]
    rw [goes]
    refine ⟨?_, rfl, after, rfl, written.work⟩
    have boxes_now : (requestPassTile b { after with next := t } v).jobs.boxes = v.jobs.boxes := rfl
    rw [boxAt, boxes_now, written.form]
    exact Vector.getElem_set_self _

/-- Settles O38. -/
theorem passesComplete : Obligations.PassesComplete := by
  intro s u b x w a sh way old lost grant running held args shape read last
  obtain ⟨after, v, written⟩ := passTile_written (b := b) (x := x) (a := a) (sh := sh) read
  have reached : passTile b x a sh w s = completePass b a after v := by
    rw [passTile_found read, written.next, last]
    rfl
  have now : boxAt b v = some { x with progress := w.tilesWritten + 1 } := by
    rw [boxAt, written.form]
    exact Vector.getElem_set_self _
  have passes : v.mfc.header.passCount = s.mfc.header.passCount := by rw [written.header, written.count]
  have completed := completePass_eq a after now
  have counts := written.work
  rw [passes] at completed
  refine ⟨_, _, passResult a after (min (s.mfc.header.passCount + 1) 65535),
    (exec_passTile grant running held args shape).trans (congrArg _ (reached.trans completed)), rfl,
    Vector.getElem_set_self _, rfl, ⟨after, counts, rfl, rfl, rfl, rfl, rfl, ?_, ?_⟩, rfl, ?_, ?_, ?_, rfl, ?_, ?_⟩
  · rw [counts]
    rfl
  · rw [counts]
    rfl
  · simp [passResult, passConverged]
  · rw [counts]
    rfl
  · exact congrArg (fun c : Cap => { c with state := .consumed }) written.capture
  · have outside : after.outsideWrite = w.outsideWrite := by rw [counts]; rfl
    rw [← outside]
    exact congrArg (fun h : Header => { h with
      passCount := min (s.mfc.header.passCount + 1) 65535, converged := passConverged a after && !after.outsideWrite,
      mixed := false }) written.header
  · simp [flagSet, raise, eventMask, eventBit]

end Sys2Proof.Proofs.JobTiles
end

section
/-! The tile operations of a clear, and jobs that wait or end early (R22, R52, R59, R62 to R66, R107). -/

namespace Sys2Proof.Proofs.ClearTiles

open Sys2Proof Sys2Proof.Machine Sys2Proof.Proofs.Frames Sys2Proof.Proofs.Steps Sys2Proof.Proofs.Boot
open Sys2Proof.Proofs.TileAccess Sys2Proof.Proofs.Ports Sys2Proof.Proofs.JobTable
open Sys2Proof.Proofs.JobTiles

/-! ## A granted clear tile operation -/

theorem exec_clearTile {s : State} {b : Fin 16} {x : Box} {t : TileNo} (grant : nextGrant s = some .job)
    (running : s.jobs.running = some { box := b, work := .clear t }) (held : boxAt b s = some x) :
    exec .clearTileOperation s = .next (clearTile b x t s) := by
  refine exec_of_effect ?_
  simp only [effect_clearTileOperation, clearTileOperation, grant, running, held]

/-- The write that a grant to JOB carries out is judged by the state before the grant. -/
theorem tileStored_grantJob {t : TileNo} {w : Fin 8} {v : TileValues} {s z : State}
    (h : tileStored t w v (grantJob s) z) : tileStored t w v s z := by
  obtain ⟨entry, others, trees, copies, clear, count, directory, dir, dirs⟩ := h
  exact ⟨entry, others, trees, copies, clear, count, directory.trans (markChanged_pcd_congr t rfl), dir, dirs⟩

/-- What follows the writing and counting of a clear's tile (R59, R65, R66). -/
def afterClear (b : Fin 16) (x : Box) (t : TileNo) (v : State) : State :=
  if h : t.val + 1 < 504 then
    if x.cancelNoted then endClearEarly b .cancelled (x.progress + 1) v
    else setJobOp (some .presented) (setRunning (some { box := b, work := .clear ⟨t.val + 1, h⟩ }) v)
  else completeClear b (x.progress + 1) v

/-- The state of the part when a clear's tile has been written and counted, before what follows it (R65). -/
structure ClearTileWritten (b : Fin 16) (x : Box) (t : TileNo) (way : Fin 8) (s v : State) : Prop where
  next : clearTile b x t s = afterClear b x t v
  stored : tileStored t way (Vector.replicate 32 0) s v
  form : v = { s with
    jobs := { s.jobs with boxes := s.jobs.boxes.set b (some { x with progress := x.progress + 1 }) }
    tlc := { s.tlc with sets := v.tlc.sets, queue := v.tlc.queue, jobWait := 0 }
    mfc := { s.mfc with header := v.mfc.header }
    pcd := v.pcd
    syp := { s.syp with flags := v.syp.flags }
    mct := (rise (.station x.owner) .tiles 1 s).mct }
  header : v.mfc.header = { s.mfc.header with committed := false, faulty := v.mfc.header.faulty }

theorem clearTile_written {s : State} (b : Fin 16) (x : Box) {t : TileNo} {way : Fin 8} (may : wayToWrite t way s) :
    ∃ v, ClearTileWritten b x t way s v := by
  have may' : wayToWrite t way (grantJob s) := may
  obtain ⟨z, write, stored, form⟩ := writeTileAt_way (Vector.replicate 32 0) may'
  have syp : (markChanged t (grantJob s)).syp = { s.syp with flags := (markChanged t (grantJob s)).syp.flags } := by
    conv_lhs => rw [markChanged_eq]
    rfl
  rw [syp] at form
  refine ⟨setBox b (some { x with progress := x.progress + 1 }) (rise (.station x.owner) .tiles 1 z), ?_, ?_, ?_, ?_⟩
  · simp only [clearTile, write]
    rfl
  · rw [counted_eq]
    exact tileStored_grantJob (tileStored_congr stored rfl rfl rfl rfl rfl)
  · rw [counted_eq, risen_eq]
    conv_lhs => rw [form]
    rw [form]
    rfl
  · rw [counted_eq]
    conv_lhs => rw [form]
    rfl

theorem completeClear_eq {b : Fin 16} {y : Box} {v : State} (n : Nat) (held : boxAt b v = some y) :
    completeClear b n v =
      { raise .jobEnded v with
        jobs := { v.jobs with
          boxes := v.jobs.boxes.set b (some
            { y with state := .done, result := some (.cleared n), newResult := true, hold := none })
          running := none }
        tlc := { v.tlc with job := none, jobWait := 0 }
        mfc := { v.mfc with header := { v.mfc.header with
          codes := [], mixed := false, converged := false, passCount := 0 } } } := by
  unfold completeClear
  dsimp only
  exact endRunning_eq (s := setHeader { v.mfc.header with
    codes := [], mixed := false, converged := false, passCount := 0 } v) held _ _

theorem endClearEarly_eq {b : Fin 16} {y : Box} {v : State} (st : BoxState) (n : Nat) (held : boxAt b v = some y) :
    endClearEarly b st n v = stoppedJob b y st n v :=
  endRunning_eq held _ _

theorem endPassEarly_eq {b : Fin 16} {y : Box} {v : State} (st : BoxState) (n : Nat) (held : boxAt b v = some y) :
    endPassEarly b st n v = (stoppedJob b y st n v).setCap { v.cap with state := .consumed } :=
  endRunning_eq (s := consumeCapture v) held _ _

/-- What follows the writing of a clear's tile changes the job table, the JOB operation, the header and the event flags
alone, and of the header neither committed nor the faulty count. -/
theorem afterClear_form (b : Fin 16) (x : Box) (t : TileNo) (v : State) :
    ∃ J O H F, afterClear b x t v =
        { v with jobs := J, tlc := { v.tlc with job := O, jobWait := 0 }, mfc := { v.mfc with header := H },
                 syp := { v.syp with flags := F } } ∧
      (∀ c : Fin 16, c ≠ b → J.boxes[c] = v.jobs.boxes[c]) ∧
      H.committed = v.mfc.header.committed ∧ H.faulty = v.mfc.header.faulty := by
  unfold afterClear
  split
  next =>
    split
    · obtain ⟨J, F, ended, boxes⟩ := endRunning_form b .cancelled (.stopped true (x.progress + 1)) v
      exact ⟨J, none, v.mfc.header, F, ended, boxes, rfl, rfl⟩
    · exact ⟨_, some .presented, v.mfc.header, v.syp.flags, rfl, fun _ _ => rfl, rfl, rfl⟩
  next =>
    obtain ⟨J, F, ended, boxes⟩ := endRunning_form b .done (.cleared (x.progress + 1))
      (setHeader { v.mfc.header with codes := [], mixed := false, converged := false, passCount := 0 } v)
    exact ⟨J, none, _, F, ended, boxes, rfl, rfl⟩

theorem flagSet_jobEnded (s : State) : flagSet .jobEnded (raise .jobEnded s) = true := by
  simp [flagSet, raise, eventMask, eventBit]

/-- Settles O39. -/
theorem clearTilesAreWritten : Obligations.ClearTilesAreWritten := by
  intro s b x u way grant running held may
  obtain ⟨v, written⟩ := clearTile_written b x may
  obtain ⟨J, O, H, F, followed, boxes, committed, faulty⟩ := afterClear_form b x u v
  have now : boxAt b v = some { x with progress := x.progress + 1 } := by
    rw [boxAt, written.form]
    exact Vector.getElem_set_self _
  refine ⟨_, (exec_clearTile grant running held).trans (congrArg _ written.next), ?_, ?_, fun c away => ?_,
    fun more quiet => ?_, fun last => ?_⟩
  · rw [followed]
    conv_lhs => rw [written.form]
  · rw [followed]
    exact tileStored_congr written.stored rfl rfl committed faulty rfl
  · rw [followed, boxAt, boxes c away, written.form]
    exact box_set_other away _ _
  · have goes : afterClear b x u v =
        setJobOp (some .presented) (setRunning (some { box := b, work := .clear ⟨u.val + 1, more⟩ }) v) := by
      simp [afterClear, more, quiet]
    rw [goes]
    exact ⟨rfl, rfl, now⟩
  · have ends : afterClear b x u v = completeClear b (x.progress + 1) v := by simp [afterClear, last]
    rw [ends, completeClear_eq _ now]
    refine ⟨rfl, rfl, ?_, Vector.getElem_set_self _, flagSet_jobEnded v⟩
    conv_lhs => rw [written.header]

/-! ## Waits, refusals and cancels -/

theorem refusalReason_eq (worn : Bool) : refusalReason worn = if worn then .flashWorn else .tileFault := rfl

theorem passTile_waits {s u : State} {b : Fin 16} {x : Box} {w : PassWork} {p : OpPhase} (a : PassArgs) (sh : Shape)
    (held : boxAt b s = some x) (read : readTileAt w.next (grantJob s) = (u, .waits p)) :
    passTile b x a sh w s =
      if p = .waitWay ∧ x.cancelNoted = true then
        (stoppedJob b x .cancelled w.tilesWritten u).setCap { s.cap with state := .consumed }
      else u.setTlc { u.tlc with job := some p, jobWait := 0 } := by
  obtain ⟨cap, jobs, -⟩ := readTileAt_jobs read
  have held' : boxAt b u = some x := (boxAt_congr (congrArg Jobs.boxes jobs) b).trans held
  have cap' : u.cap = s.cap := cap
  simp only [passTile, read, Bool.and_eq_true, beq_iff_eq, endPassEarly_eq _ _ held', cap']
  rfl

theorem passTile_refused {s u : State} {b : Fin 16} {x : Box} {w : PassWork} {worn : Bool} (a : PassArgs) (sh : Shape)
    (held : boxAt b s = some x) (read : readTileAt w.next (grantJob s) = (u, .refused worn)) :
    passTile b x a sh w s =
      (stoppedJob b x (.failed (if worn then .flashWorn else .tileFault)) w.tilesWritten u).setCap
        { s.cap with state := .consumed } := by
  obtain ⟨cap, jobs, -⟩ := readTileAt_jobs read
  have held' : boxAt b u = some x := (boxAt_congr (congrArg Jobs.boxes jobs) b).trans held
  have cap' : u.cap = s.cap := cap
  simp only [passTile, read, endPassEarly_eq _ _ held', cap', refusalReason_eq]

/-- A whole-tile write that waits or is refused changes nothing (R73, R79). -/
theorem tileWrite_unwritten {t : TileNo} {v : TileValues} {s u : State} {o : WriteOutcome} (write : TileWrite t v s u o)
    (unwritten : o ≠ .written) : u = s := by
  cases write with
  | hit | missed => exact absurd rfl unwritten
  | filling | noWay => rfl

theorem writeTileAt_unwritten {t : TileNo} {v : TileValues} {s u : State} {o : WriteOutcome}
    (write : writeTileAt t v s = (u, o)) (unwritten : o ≠ .written) : u = s := by
  have spec := writeTileAt_tileWrite t v s
  rw [write] at spec
  exact tileWrite_unwritten spec unwritten

theorem clearTile_waits {s u : State} {b : Fin 16} {x : Box} {t : TileNo} {p : OpPhase} (held : boxAt b s = some x)
    (write : writeTileAt t (Vector.replicate 32 0) (grantJob s) = (u, .waits p)) :
    clearTile b x t s =
      if p = .waitWay ∧ x.cancelNoted = true then stoppedJob b x .cancelled x.progress u
      else u.setTlc { u.tlc with job := some p, jobWait := 0 } := by
  obtain rfl := writeTileAt_unwritten write nofun
  have held' : boxAt b (grantJob s) = some x := held
  simp only [clearTile, write, Bool.and_eq_true, beq_iff_eq, endClearEarly_eq _ _ held']
  rfl

theorem clearTile_refused {s u : State} {b : Fin 16} {x : Box} {t : TileNo} {worn : Bool} (held : boxAt b s = some x)
    (write : writeTileAt t (Vector.replicate 32 0) (grantJob s) = (u, .refused worn)) :
    clearTile b x t s = stoppedJob b x (.failed (if worn then .flashWorn else .tileFault)) x.progress u := by
  obtain rfl := writeTileAt_unwritten write nofun
  have held' : boxAt b (grantJob s) = some x := held
  simp only [clearTile, write, endClearEarly_eq _ _ held', refusalReason_eq]

theorem stoppedJob_jobs (b : Fin 16) (x y : Box) (st : BoxState) (n : Nat) (jobs : Jobs) {v : State}
    (written : v.jobs = { jobs with boxes := jobs.boxes.set b (some y) }) :
    (stoppedJob b x st n v).jobs =
      { jobs with
        boxes := jobs.boxes.set b (some
          { x with state := st, result := some (.stopped true n), newResult := true, hold := none })
        running := none } := by
  simp only [stoppedJob, written, Vector.set_set]

/-- Settles O40: the pass first, then the clear. -/
theorem jobsWaitAndEndEarly : Obligations.JobsWaitAndEndEarly := by
  intro s b x grant held
  refine ⟨fun w a sh running args shape => ?_, fun t running => ?_⟩
  · rw [exec_passTile grant running held args shape]
    refine ⟨fun u p read => congrArg _ (passTile_waits a sh held read),
      fun u worn read => congrArg _ (passTile_refused a sh held read), fun u way old next read cancel more => ?_⟩
    have outcome : ∃ (old : TileValues) (lost : Bool),
        readTileAt w.next (grantJob s) = (u, .values way old) ∧ lost = false ∨
          readTileAt w.next (grantJob s) = (u, .faulty way) ∧ old = Vector.replicate 32 0 ∧ lost = true := by
      rcases read with read | read
      · exact ⟨old, false, .inl ⟨read, rfl⟩⟩
      · exact ⟨_, true, .inr ⟨read, rfl, rfl⟩⟩
    obtain ⟨old', lost, read'⟩ := outcome
    obtain ⟨after, v, written⟩ := passTile_written (b := b) (x := x) (a := a) (sh := sh) read'
    have now : boxAt b v = some { x with progress := w.tilesWritten + 1 } := by
      rw [boxAt, written.form]
      exact Vector.getElem_set_self _
    have tiles : after.tilesWritten = w.tilesWritten + 1 := by rw [written.work]; rfl
    have reached : passTile b x a sh w s =
        (stoppedJob b { x with progress := w.tilesWritten + 1 } .cancelled (w.tilesWritten + 1) v).setCap
          { s.cap with state := .consumed } := by
      rw [passTile_found read', written.next, more, ← written.capture, ← tiles]
      rw [← tiles] at now
      rw [← endPassEarly_eq _ _ now]
      simp [passWritten, cancel]
    rw [reached]
    refine ⟨_, rfl, stoppedJob_jobs b _ { x with progress := w.tilesWritten + 1 } _ _ s.jobs ?_, rfl, rfl,
      flagSet_jobEnded v, ?_⟩
    · rw [written.form]
    · show v.mfc.header = { u.mfc.header with committed := false, faulty := v.mfc.header.faulty }
      rw [written.header]
  · rw [exec_clearTile grant running held]
    refine ⟨fun u p write => congrArg _ (clearTile_waits held write),
      fun u worn write => congrArg _ (clearTile_refused held write), fun way may cancel more => ?_⟩
    obtain ⟨v, written⟩ := clearTile_written b x may
    have now : boxAt b v = some { x with progress := x.progress + 1 } := by
      rw [boxAt, written.form]
      exact Vector.getElem_set_self _
    have reached : clearTile b x t s =
        stoppedJob b { x with progress := x.progress + 1 } .cancelled (x.progress + 1) v := by
      rw [written.next, ← endClearEarly_eq _ _ now]
      simp [afterClear, cancel, more]
    rw [reached]
    refine ⟨_, rfl, stoppedJob_jobs b _ { x with progress := x.progress + 1 } _ _ s.jobs ?_, ?_, rfl,
      flagSet_jobEnded v, written.header⟩
    · rw [written.form]
    · show v.cap = s.cap
      rw [written.form]

end Sys2Proof.Proofs.ClearTiles
end

section
/-! The copy-out of a commit (R88, R110, R111). -/

namespace Sys2Proof.Proofs.CopyOuts

open Sys2Proof Sys2Proof.Machine Sys2Proof.Proofs.Frames Sys2Proof.Proofs.Steps Sys2Proof.Proofs.Boot
open Sys2Proof.Proofs.TileAccess Sys2Proof.Proofs.Ports Sys2Proof.Proofs.JobTable
open Sys2Proof.Proofs.JobTiles

theorem queueFull_iff (s : State) : queueFull s = true ↔ 4 ≤ s.tlc.queue.length :=
  decide_eq_true_iff

theorem queueFull_eq_false (s : State) : queueFull s = false ↔ s.tlc.queue.length < 4 := by
  rw [← Bool.not_eq_true, queueFull_iff, Nat.not_le]

/-- A commit that fails (R105, R111, R112). -/
theorem failCommit_eq {b : Fin 16} {x : Box} {s : State} (held : boxAt b s = some x) (w : CommitWork) (reason : Reason)
    (c : Option Bool) :
    failCommit b w reason c s =
      { raise .jobEnded s with
        jobs := { s.jobs with
          boxes := s.jobs.boxes.set b (some
            { x with
              state := .failed reason
              result := some (.commit
                { generation := s.mfc.header.generation
                  placed := x.progress
                  programmed := w.programmed
                  sparesUsed := w.sparesUsed
                  sparesLeft := sparesUnused s
                  previous := w.previous
                  converged := c })
              newResult := true
              hold := none })
          running := none }
        tlc := { s.tlc with job := none, jobWait := 0 }
        mfc := { s.mfc with header := { s.mfc.header with committed := false } } } := by
  have held' : boxAt b (setHeader { s.mfc.header with committed := false } s) = some x := held
  have placed : progressOf b (setHeader { s.mfc.header with committed := false } s) = x.progress := by
    simp only [progressOf, held']
  rw [failCommit]
  dsimp only
  rw [endRunning_eq held', placed, ← unusedSpares_eq]
  rfl

/-- The copy of a DIRTY entry, with its box (R88, R110). -/
theorem copyOut_eq {b : Fin 16} {x : Box} {s : State} (held : boxAt b s = some x) (t : TileNo) (way : Fin 8)
    (v : TileValues) (c : CheckCode) :
    copyOut b t way v c s =
      { s with
        jobs := { s.jobs with boxes := s.jobs.boxes.set b (some { x with progress := x.progress + 1 }) }
        tlc := { s.tlc with
          sets := (setEntry (setOf t) way (some { tile := t, state := .clean v c }) s).tlc.sets
          queue := s.tlc.queue ++ [{ tile := t, values := v, code := c }] } } := by
  have now : boxAt b (setEntry (setOf t) way (some { tile := t, state := .clean v c })
      (s.setTlc { s.tlc with queue := s.tlc.queue ++ [{ tile := t, values := v, code := c }] })) = some x := held
  rw [copyOut]
  dsimp only
  rw [now]
  rfl

/-- The sweep goes on, or its drain begins: the running work and the JOB operation alone change (R110, R111). -/
theorem nextCopyOut_spec (b : Fin 16) (w : CommitWork) (u : TileNo) (s : State) :
    ∃ r p, nextCopyOut b w u s =
        { s with jobs := { s.jobs with running := r }, tlc := { s.tlc with job := p, jobWait := 0 } } ∧
      (∀ h : u.val + 1 < 504, p = some .presented ∧
        r = some { box := b, work := .commit { w with phase := .sweep ⟨u.val + 1, h⟩ } }) ∧
      (u.val = 503 → p = none ∧ r = some { box := b, work := .commit { w with phase := .drain (drained s) } }) := by
  by_cases more : u.val + 1 < 504
  · refine ⟨some { box := b, work := .commit { w with phase := .sweep ⟨u.val + 1, more⟩ } }, some .presented, ?_,
      fun _ => ⟨rfl, rfl⟩, fun last => absurd more (by omega)⟩
    rw [nextCopyOut, dif_pos more]
    rfl
  · refine ⟨some { box := b, work := .commit { w with phase := .drain (drained s) } }, none, ?_,
      fun h => absurd h more, fun _ => ⟨rfl, rfl⟩⟩
    rw [nextCopyOut, dif_neg more]
    rfl

theorem exec_copyOut {s : State} {b : Fin 16} {w : CommitWork} {u : TileNo} (grant : nextGrant s = some .job)
    (running : s.jobs.running = some { box := b, work := .commit w }) (phase : w.phase = .sweep u) :
    exec .commitCopyOut s = .next (copyOutTile b w u (grantJob s)) := by
  refine exec_of_effect ?_
  simp only [effect_commitCopyOut, commitCopyOut, grant, running, phase]

theorem copyOutTile_dirty {b : Fin 16} {w : CommitWork} {u : TileNo} {s : State} {way : Fin 8} {v : TileValues}
    {c : CheckCode} (here : findWay u s = some way)
    (entry : entryAt (setOf u) way s = some { tile := u, state := .dirty v c }) :
    copyOutTile b w u s = copyOutDirty b w u way v c s := by
  simp only [copyOutTile, here, entry]

/-- A copy-out of a tile that is absent or not DIRTY goes on at once (R88). -/
theorem copyOutTile_none {b : Fin 16} {w : CommitWork} {u : TileNo} {s : State}
    (none_dirty : findWay u s = none ∨ ∃ (way : Fin 8) (e : Entry), findWay u s = some way ∧
      entryAt (setOf u) way s = some e ∧ ∀ v c, e.state ≠ .dirty v c) :
    copyOutTile b w u s = nextCopyOut b w u s := by
  rcases none_dirty with missing | ⟨way, e, here, entry, clean⟩
  · simp only [copyOutTile, missing]
  · simp only [copyOutTile, here, entry]
    split
    next same =>
      obtain rfl := Option.some.inj same
      exact absurd rfl (clean _ _)
    · rfl

/-- Settles O41. -/
theorem commitsCopyOut : Obligations.CommitsCopyOut := by
  intro s b x w u grant running phase held
  have at_grant := exec_copyOut grant running phase
  have held' : boxAt b (grantJob s) = some x := held
  refine ⟨fun way v c here entry room => ?_, fun way v c here entry full => ⟨fun normal => ?_, fun worn => ?_⟩,
    fun clean => ?_⟩
  · have notFull : queueFull (grantJob s) = false := (queueFull_eq_false _).2 room
    obtain ⟨r, p, goes, more, last⟩ := nextCopyOut_spec b w u (copyOut b u way v c (grantJob s))
    have copied := copyOut_eq held' u way v c
    have reached : copyOutTile b w u (grantJob s) = nextCopyOut b w u (copyOut b u way v c (grantJob s)) := by
      have step := copyOutTile_dirty (b := b) (w := w) (s := grantJob s) here entry
      rw [step, copyOutDirty, notFull]
      rfl
    have waiting : drained (copyOut b u way v c (grantJob s)) = false := by
      simp [copied, drained]
    rw [waiting] at last
    rw [goes, copied] at reached
    refine ⟨_, at_grant.trans (congrArg _ reached), rfl, entryAt_setEntry_self .., ?_, fun j => ?_, rfl,
      Vector.getElem_set_self _, fun d away => box_set_other away _ _, more, last⟩
    · exact fun j y away => entryAt_setEntry_other _ (grantJob s) away
    · exact tree_setEntry (setOf u) j way (some { tile := u, state := .clean v c }) (grantJob s)
  · have isFull : queueFull (grantJob s) = true := (queueFull_iff _).2 full
    have notWorn : (grantJob s).mfc.wear ≠ .worn := fun worn => by cases normal.symm.trans worn
    refine at_grant.trans (congrArg _ ?_)
    have step := copyOutTile_dirty (b := b) (w := w) (s := grantJob s) here entry
    rw [step, copyOutDirty, isFull, if_pos rfl, if_neg notWorn]
    rfl
  · have isFull : queueFull (grantJob s) = true := (queueFull_iff _).2 full
    have isWorn : (grantJob s).mfc.wear = .worn := worn
    have reached : copyOutTile b w u (grantJob s) = failCommit b w .flashWorn none (grantJob s) := by
      have step := copyOutTile_dirty (b := b) (w := w) (s := grantJob s) here entry
      rw [step, copyOutDirty, isFull, if_pos rfl, if_pos isWorn]
    exact ⟨_, _, _, at_grant.trans (congrArg _ (reached.trans (failCommit_eq held' w _ _))), rfl, rfl, rfl⟩
  · obtain ⟨r, p, goes, more, last⟩ := nextCopyOut_spec b w u (grantJob s)
    have step := copyOutTile_none (b := b) (w := w) (s := grantJob s) clean
    exact ⟨_, at_grant.trans (congrArg _ (step.trans goes)), rfl, more, last⟩

end Sys2Proof.Proofs.CopyOuts
end

section
/-! The direct tile requests (R70, R71, R89, R90): their presenting, the arbiter's order, and what a granted READ_TILE or
WRITE_TILE comes to. -/

namespace Sys2Proof.Proofs.DirectTiles

open Sys2Proof Sys2Proof.Machine Sys2Proof.Proofs.Frames Sys2Proof.Proofs.Steps Sys2Proof.Proofs.Boot
open Sys2Proof.Proofs.TileAccess Sys2Proof.Proofs.Ports Sys2Proof.Proofs.JobTiles

/-! ## The order of the ACCESS operations (R70) -/

theorem insertAccess_perm (o : AccessOp) (l : List AccessOp) : (insertAccess o l).Perm (o :: l) := by
  induction l with
  | nil => exact .refl _
  | cons x rest ih =>
    unfold insertAccess
    split
    · exact .refl _
    · exact (ih.cons x).trans (.swap o x rest)

theorem insertAccess_sorted (o : AccessOp) {l : List AccessOp}
    (sorted : l.Pairwise fun x y => x.req.ticket ≤ y.req.ticket) :
    (insertAccess o l).Pairwise fun x y => x.req.ticket ≤ y.req.ticket := by
  induction l with
  | nil => exact List.pairwise_singleton _ _
  | cons x rest ih =>
    obtain ⟨first, tail⟩ := List.pairwise_cons.1 sorted
    unfold insertAccess
    split
    next before =>
      refine List.pairwise_cons.2 ⟨fun y mem => ?_, sorted⟩
      rcases List.mem_cons.1 mem with rfl | later
      · exact before.le
      · exact before.le.trans (first y later)
    next after =>
      refine List.pairwise_cons.2 ⟨fun y mem => ?_, ih tail⟩
      rcases List.mem_cons.1 ((insertAccess_perm o rest).mem_iff.1 mem) with rfl | later
      · exact not_lt.1 after
      · exact first y later

/-! ## The arbiter (R70, R71) -/

theorem isResumed_iff (p : OpPhase) : isResumed p = true ↔ ∃ inFlight, p = .resumed inFlight := by
  cases p <;> simp [isResumed]

theorem nextGrant_overdue {s : State} (job : jobPresented s = true) (wait : 8 ≤ s.tlc.jobWait) :
    nextGrant s = some .job := by
  simp [nextGrant, job, Config.jobWaitLimit, wait]

/-- JOB is not served before its turn. -/
def jobNotOverdue (s : State) : Prop :=
  jobPresented s = false ∨ s.tlc.jobWait < 8

theorem overdue_false {s : State} (h : jobNotOverdue s) :
    (jobPresented s && decide (Config.jobWaitLimit ≤ s.tlc.jobWait)) = false := by
  rcases h with absent | early
  · rw [absent, Bool.false_and]
  · have notYet : decide (Config.jobWaitLimit ≤ s.tlc.jobWait) = false := decide_eq_false (Nat.not_le.2 early)
    rw [notYet, Bool.and_false]

theorem nextGrant_fills {s : State} (h : jobNotOverdue s) {f : Fill} {rest : List Fill} (fills : s.tlc.fills = f :: rest) :
    nextGrant s = some (.fill f) := by
  simp [nextGrant, overdue_false h, fills]

theorem nextGrant_panel {s : State} (h : jobNotOverdue s) (fills : s.tlc.fills = []) {o : PanelOp}
    (panel : s.tlc.panel = some o) (stands : isPresented o.phase = true) : nextGrant s = some (.panel o) := by
  have turn : (s.tlc.panel.filter fun o => isPresented o.phase) = some o := by
    rw [panel, Option.filter_some, stands]
    rfl
  unfold nextGrant
  rw [overdue_false h, fills, turn]
  rfl

/-- With no fill result and no presented PANEL operation the turn is ACCESS's, then JOB's. -/
theorem nextGrant_turn {s : State} (h : jobNotOverdue s) (fills : s.tlc.fills = [])
    (panel : ∀ o, s.tlc.panel = some o → isPresented o.phase = false) :
    nextGrant s = ((accessTurn s).map Grant.access).or (if jobPresented s then some .job else none) := by
  have idle : (s.tlc.panel.filter fun o => isPresented o.phase) = none := by
    rw [Option.filter_eq_none_iff]
    intro o held
    rw [panel o held]
    exact Bool.false_ne_true
  unfold nextGrant
  rw [overdue_false h, fills, idle]
  cases accessTurn s <;> rfl

theorem accessTurn_first {s : State} {before after : List AccessOp} {o : AccessOp} (split : s.tlc.access = before ++ o :: after)
    (turn : isResumed o.phase = true ∧ (∀ x ∈ before, isResumed x.phase = false) ∨
      isPresented o.phase = true ∧ (∀ x ∈ s.tlc.access, isResumed x.phase = false) ∧
        ∀ x ∈ before, isPresented x.phase = false) :
    accessTurn s = some o := by
  unfold accessTurn
  rcases turn with ⟨again, none_before⟩ | ⟨stands, no_again, none_before⟩
  · have found : (s.tlc.access.find? fun o => isResumed o.phase) = some o :=
      List.find?_eq_some_iff_append.2 ⟨again, before, after, split, fun x mem => by rw [none_before x mem]; rfl⟩
    rw [found]
  · have absent : (s.tlc.access.find? fun o => isResumed o.phase) = none :=
      List.find?_eq_none.2 fun x mem => by rw [no_again x mem]; exact Bool.false_ne_true
    have found : (s.tlc.access.find? fun o => isPresented o.phase) = some o :=
      List.find?_eq_some_iff_append.2 ⟨stands, before, after, split, fun x mem => by rw [none_before x mem]; rfl⟩
    rw [absent, found]

theorem accessTurn_none {s : State} (absent : ∀ o ∈ s.tlc.access, isPresented o.phase = false) : accessTurn s = none := by
  have waiting : (s.tlc.access.find? fun o => isPresented o.phase) = none :=
    List.find?_eq_none.2 fun x mem => by rw [absent x mem]; exact Bool.false_ne_true
  have fresh : (s.tlc.access.find? fun o => isResumed o.phase) = none := by
    refine List.find?_eq_none.2 fun x mem again => ?_
    have stands := (isPresented_iff _).2 (.inr ((isResumed_iff _).1 again))
    exact Bool.false_ne_true ((absent x mem).symm.trans stands)
  simp only [accessTurn, fresh, waiting]

theorem isPresented_eq_false {p : OpPhase} (h : ¬standsPresented p) : isPresented p = false := by
  rw [← Bool.not_eq_true, isPresented_iff]
  exact h

theorem isResumed_eq_false {p : OpPhase} (h : ¬∃ inFlight, p = .resumed inFlight) : isResumed p = false := by
  rw [← Bool.not_eq_true, isResumed_iff]
  exact h

theorem jobPresented_eq_false {s : State} (h : ¬∃ p, s.tlc.job = some p ∧ standsPresented p) : jobPresented s = false := by
  rw [← Bool.not_eq_true, jobPresented_iff]
  exact h

/-- Settles O42. -/
theorem tileRequestsArePresented : Obligations.TileRequestsArePresented := by
  intro s m req t
  refine ⟨fun waiting notPanel carried => ?_, fun v waiting origin stage carried => ?_, fun k u put => ?_,
    fun stands overdue => nextGrant_overdue ((jobPresented_iff s).2 stands) overdue, fun turn => ?_,
    fun stands => ?_, fun quiet => ?_, rfl⟩
  · obtain ⟨-, -, master⟩ := waitingRequest_spec waiting
    have admitted : Machine.notPanel req.master = true := by
      rw [master]
      cases m with
      | panel => exact absurd rfl notPanel
      | station | system => rfl
    refine exec_of_effect ((serve_some waiting).trans ?_)
    simp only [readTile, admitted, carried]
    rfl
  · obtain ⟨-, -, master⟩ := waitingRequest_spec waiting
    have origin' : mapOrSystem req.master (withoutRequest req s) = true := by rw [master]; exact origin
    have stage' : stageAdmits lineStage (withoutRequest req s) = true := stage
    refine exec_of_effect ((serve_some waiting).trans ?_)
    simp only [writeTile, origin', stage', carried]
    rfl
  · subst put
    exact ⟨rfl, insertAccess_perm _ _, insertAccess_sorted _⟩
  · have early : jobNotOverdue s := turn.imp_left jobPresented_eq_false
    refine ⟨fun f rest fills => nextGrant_fills early fills, fun fills =>
      ⟨fun o panel stands => nextGrant_panel early fills panel ((isPresented_iff _).2 stands), fun idle => ?_⟩⟩
    have served := nextGrant_turn early fills fun o panel =>
      isPresented_eq_false fun stands => idle ⟨o, panel, stands⟩
    refine ⟨fun before after o split first => ?_, fun absent => ?_⟩
    · have taken : accessTurn s = some o := by
        refine accessTurn_first split (first.imp (fun ⟨again, others⟩ => ⟨(isResumed_iff _).2 again,
          fun x mem => isResumed_eq_false (others x mem)⟩) fun ⟨fresh, noAgain, others⟩ =>
          ⟨(isPresented_iff _).2 (.inl fresh), fun x mem => isResumed_eq_false (noAgain x mem), fun x mem => ?_⟩)
        refine isPresented_eq_false fun stands => ?_
        rcases stands with presented | again
        · exact others x mem presented
        · exact noAgain x (by rw [split]; exact List.mem_append_left _ mem) again
      rw [served, taken]
      rfl
    · rw [served, accessTurn_none fun o mem => isPresented_eq_false (absent o mem)]
      refine ⟨fun stands => ?_, fun quiet => ?_⟩
      · rw [(jobPresented_iff s).2 stands]
        rfl
      · rw [jobPresented_eq_false quiet]
        rfl
  · rw [grantOther, if_pos ((jobPresented_iff s).2 stands)]
  · rw [grantOther, jobPresented_eq_false quiet]
    rfl

/-! ## A granted READ_TILE (R89) -/

/-- A grant to another requester changes the JOB wait count alone (R71). -/
theorem grantOther_eq (s : State) : ∃ n, grantOther s = s.setTlc { s.tlc with jobWait := n } := by
  unfold grantOther
  split
  · exact ⟨_, rfl⟩
  · exact ⟨s.tlc.jobWait, rfl⟩

theorem exec_readAccess {s : State} {o : AccessOp} (grant : nextGrant s = some (.access o)) (kind : o.kind = .read) :
    exec .readTileAccess s = .next (readAccess o s) := by
  refine exec_of_effect ?_
  simp only [effect_readTileAccess, readTileAccess, grant, kind]

theorem holdsTile_grantOther {t : TileNo} {w : Fin 8} {v : TileValues} {s : State} (h : holdsTile t w v s) :
    holdsTile t w v (grantOther s) := by
  obtain ⟨n, same⟩ := grantOther_eq s
  rw [same]
  exact h

/-- Settles O43. -/
theorem tilesAreRead : Obligations.TilesAreRead := by
  intro s o w grant kind
  have at_grant := exec_readAccess grant kind
  refine ⟨fun v held => ?_, fun here entry => ?_, fun u r read =>
    ⟨fun v found => ?_, fun lost => ?_, fun refused => ?_, fun p waits => ?_⟩⟩
  · have read := readTileAt_holds (holdsTile_grantOther held)
    refine at_grant.trans (congrArg _ ?_)
    simp only [readAccess, read]
  · have read : readTileAt o.tile (grantOther s) = (grantOther s, .faulty w) := by
      obtain ⟨n, same⟩ := grantOther_eq s
      rw [same]
      exact readTileAt_faulty (s := s.setTlc { s.tlc with jobWait := n }) here entry
    refine at_grant.trans (congrArg _ ?_)
    simp only [readAccess, read, zeroTile]
  · subst found
    refine at_grant.trans (congrArg _ ?_)
    simp only [readAccess, read]
  · refine at_grant.trans (congrArg _ ?_)
    rcases lost with rfl | rfl <;> simp only [readAccess, read, zeroTile]
  · subst refused
    refine at_grant.trans (congrArg _ ?_)
    simp only [readAccess, read]
  · subst waits
    refine at_grant.trans (congrArg _ ?_)
    simp only [readAccess, read]

/-! ## A granted WRITE_TILE (R23, R29, R90) -/

theorem exec_writeAccess {s : State} {o : AccessOp} {v : TileValues} {n : Nat} (grant : nextGrant s = some (.access o))
    (kind : o.kind = .write v n) : exec .writeTileAccess s = .next (writeAccess o v n s) := by
  refine exec_of_effect ?_
  simp only [effect_writeTileAccess, writeTileAccess, grant, kind]

theorem mapJobRunning_grantOther (s : State) : mapJobRunning (grantOther s) = mapJobRunning s := by
  obtain ⟨n, same⟩ := grantOther_eq s
  rw [same]
  rfl

theorem wayToWrite_grantOther {t : TileNo} {w : Fin 8} {s : State} (h : wayToWrite t w s) :
    wayToWrite t w (grantOther s) := by
  obtain ⟨n, same⟩ := grantOther_eq s
  rw [same]
  exact h

/-- A WRITE_TILE carried out changes the outside-write flag of a running pass, or else converged-last-pass (R23, R29). -/
theorem noteWrite_spec (s : State) :
    ∃ J c, noteWrite s = { s with jobs := J, mfc := { s.mfc with header := { s.mfc.header with converged := c } } } ∧
      (s.jobs.running = none → J = s.jobs ∧ c = false) ∧
      ∀ (b : Fin 16) (p : PassWork), s.jobs.running = some { box := b, work := .pass p } →
        J = { s.jobs with running := some { box := b, work := .pass { p with outsideWrite := true } } } ∧
        c = s.mfc.header.converged := by
  unfold noteWrite
  split
  next b w running =>
    refine ⟨_, s.mfc.header.converged, rfl, fun idle => ?_, fun b' p same => ?_⟩
    · cases running.symm.trans idle
    · cases running.symm.trans same
      exact ⟨rfl, rfl⟩
  next other => exact ⟨s.jobs, false, rfl, fun _ => ⟨rfl, rfl⟩, fun b p running => absurd running (other b p)⟩

/-- The write that a grant carries out is judged by the state before the grant. -/
theorem tileStored_setWait {t : TileNo} {w : Fin 8} {v : TileValues} {s z : State} {n : Nat}
    (h : tileStored t w v (s.setTlc { s.tlc with jobWait := n }) z) : tileStored t w v s z := by
  obtain ⟨entry, others, trees, copies, clear, count, directory, dir, dirs⟩ := h
  exact ⟨entry, others, trees, copies, clear, count, directory.trans (markChanged_pcd_congr t rfl), dir, dirs⟩

/-- Settles O44. -/
theorem tilesAreWritten : Obligations.TilesAreWritten := by
  refine ⟨fun s o v n way grant kind quiet may => ?_, fun s o v n grant kind => ⟨fun busy => ?_, fun quiet u =>
    ⟨fun write => ?_, fun p write => ?_, fun worn write => ?_⟩⟩⟩
  · obtain ⟨z, write, stored, form⟩ := writeTileAt_way v (wayToWrite_grantOther may)
    obtain ⟨J, c, noted, idle, pass⟩ := noteWrite_spec (dropAccess o z)
    have reached : writeAccess o v n s =
        reply o.req .ok (.tileWritten o.tile n) (rise o.req.master .tiles 1 (noteWrite (dropAccess o z))) := by
      simp only [writeAccess, mapJobRunning_grantOther, quiet, write]
      rfl
    obtain ⟨w, same⟩ := grantOther_eq s
    rw [same] at form stored
    have syp : (markChanged o.tile (s.setTlc { s.tlc with jobWait := w })).syp =
        { s.syp with flags := (markChanged o.tile (s.setTlc { s.tlc with jobWait := w })).syp.flags } := by
      conv_lhs => rw [markChanged_eq]
      rfl
    rw [syp] at form
    have jobs : z.jobs = s.jobs := by rw [form]; rfl
    have header : z.mfc.header = { s.mfc.header with committed := false, faulty := z.mfc.header.faulty } := by
      conv_lhs => rw [form]
      rfl
    refine ⟨_, (exec_writeAccess grant kind).trans (congrArg _ reached), ?_, ?_, ?_, fun none => ?_, fun b p running => ?_⟩
    · rw [noted, same]
      conv_lhs => rw [form]
      rw [form]
      rfl
    · rw [noted]
      exact tileStored_congr (tileStored_setWait stored) rfl rfl rfl rfl rfl
    · rw [noted]
      exact congrArg (fun h : Header => { h with converged := c }) header
    · obtain ⟨same_jobs, cleared⟩ := idle ((congrArg Jobs.running jobs).trans none)
      rw [noted]
      exact ⟨same_jobs.trans jobs, cleared⟩
    · obtain ⟨outside, kept⟩ := pass b p ((congrArg Jobs.running jobs).trans running)
      rw [noted]
      refine ⟨outside.trans ?_, kept.trans ?_⟩
      · rw [← jobs]
        rfl
      · exact (congrArg Header.converged header :)
  · refine (exec_writeAccess grant kind).trans (congrArg _ ?_)
    simp only [writeAccess, mapJobRunning_grantOther, busy]
    rfl
  · refine (exec_writeAccess grant kind).trans (congrArg _ ?_)
    simp only [writeAccess, mapJobRunning_grantOther, quiet, write]
    rfl
  · refine (exec_writeAccess grant kind).trans (congrArg _ ?_)
    simp only [writeAccess, mapJobRunning_grantOther, quiet, write]
    rfl
  · refine (exec_writeAccess grant kind).trans (congrArg _ ?_)
    simp only [writeAccess, mapJobRunning_grantOther, quiet, write]
    rfl

end Sys2Proof.Proofs.DirectTiles
end

section
/-! The panel snapshots (R126, R128, R134). -/

namespace Sys2Proof.Proofs.Snapshots

open Sys2Proof Sys2Proof.Machine Sys2Proof.Proofs.Frames Sys2Proof.Proofs.Steps Sys2Proof.Proofs.Boot
open Sys2Proof.Proofs.TileAccess Sys2Proof.Proofs.Ports Sys2Proof.Proofs.TileServed Sys2Proof.Proofs.DirectTiles

/-! ## What a read access leaves in the copy directory -/

theorem entryRead_pcd {t : TileNo} {w : Fin 8} {s u : State} {o : ReadOutcome} (read : EntryRead t w s u o) :
    u.pcd = s.pcd ∨ u.pcd = (markChanged t s).pcd := by
  cases read with
  | held => exact .inl rfl
  | repaired => exact .inl (by rw [repairTile_eq]; rfl)
  | lost => exact .inr (by rw [loseTile_eq])
  | faulty => exact .inl rfl
  | filling => exact .inl rfl

/-- A read access marks no tile changed but its own. -/
theorem tileRead_pcd {t : TileNo} {s u : State} {o : ReadOutcome} (read : TileRead t s u o) :
    u.pcd = s.pcd ∨ u.pcd = (markChanged t s).pcd := by
  cases read with
  | hit w found read => exact entryRead_pcd read
  | noWay => exact .inl rfl
  | copied w c missing victim copy read =>
    have given : (giveWay (setOf t) w t (.dirty c.values c.code) s).pcd = s.pcd := by
      rw [giveWay_eq]
      rfl
    rcases entryRead_pcd read with same | marked
    · exact .inl (same.trans given)
    · exact .inr (marked.trans (markChanged_pcd_congr t given))
  | fetched w missing victim noCopy =>
    refine .inl ?_
    rw [requestFill_eq, giveWay_eq]
    rfl

theorem markChanged_waiting {t : TileNo} {s : State} (waiting : dirOf t s = .waiting) : markChanged t s = s := by
  simp only [markChanged, waiting]

/-- A read access of a WAITING tile leaves it WAITING. -/
theorem readTileAt_waiting {t : TileNo} {s u : State} {o : ReadOutcome} (read : readTileAt t s = (u, o))
    (waiting : dirOf t s = .waiting) : dirOf t u = .waiting := by
  have spec := readTileAt_tileRead t s
  rw [read] at spec
  have same : u.pcd = s.pcd := by
    rcases tileRead_pcd spec with same | marked
    · exact same
    · rw [marked, markChanged_waiting waiting]
  rw [dirOf, same, ← waiting, dirOf]

/-! ## The snapshot point -/

theorem exec_snapshot {s : State} {o : PanelOp} (grant : nextGrant s = some (.panel o)) :
    exec .panelSnapshot s = .next (snapshot o s) := by
  refine exec_of_effect ?_
  simp only [effect_panelSnapshot, panelSnapshot, grant]

theorem presentSnapshot_idle {s : State} (idle : s.pnp.run = none) : presentSnapshot s = s := by
  unfold presentSnapshot
  split
  next r _ run => cases idle.symm.trans run
  · rfl

theorem presentSnapshot_next {s : State} {r : PanelRun} {v : TileNo} {more : List TileNo} (free : s.tlc.panel = none)
    (run : s.pnp.run = some r) (todo : r.todo = v :: more) :
    presentSnapshot s = setPanelOp (some { tile := v, abandoned := false, phase := .presented }) s := by
  simp only [presentSnapshot, free, run, todo, setPanelOp]

/-- The values, or the loss, that a snapshot takes, and the state of the tile's entry after it (R126, R128). -/
theorem snapshot_point {s u : State} {o : PanelOp} {r : ReadOutcome} (read : readTileAt o.tile (grantOther s) = (u, r))
    (point : ∀ p, r ≠ .waits p) : ∃ part d, snapshot o s = snapshotPoint o part d u := by
  simp only [snapshot, read]
  cases r with
  | values w v => exact ⟨_, _, rfl⟩
  | faulty w => exact ⟨_, _, rfl⟩
  | refused worn => exact ⟨_, _, rfl⟩
  | waits p => exact absurd rfl (point p)

theorem snapshotPoint_abandoned {o : PanelOp} (abandoned : o.abandoned = true) (part : RunTile) (d : DirState) (u : State) :
    snapshotPoint o part d u = presentSnapshot (setPanelOp none u) := by
  simp only [snapshotPoint, abandoned, if_true]

/-- The snapshot point of a run that goes on, or whose last tile it is (R126). -/
theorem snapshotPoint_run {o : PanelOp} {u : State} {run : PanelRun} {rest : List TileNo} (live : o.abandoned = false)
    (running : u.pnp.run = some run) (todo : run.todo = o.tile :: rest) (waiting : dirOf o.tile u = .waiting)
    (part : RunTile) (d : DirState) :
    snapshotPoint o part d u =
      let s := setDir o.tile d (setPanelOp none u)
      let r := { run with todo := rest, done := run.done ++ [part] }
      if rest.isEmpty then reply run.req .ok (.run run.first run.count r.done) (s.setPnp { s.pnp with run := none })
      else presentSnapshot (s.setPnp { s.pnp with run := some r }) := by
  have running' : (setPanelOp none u).pnp.run = some run := running
  have waiting' : dirOf o.tile (setPanelOp none u) = .waiting := waiting
  simp only [snapshotPoint, live, running', leaveWaiting, waiting', todo, List.tail_cons]
  rfl

/-- Settles O45. -/
theorem snapshotsAreTaken : Obligations.SnapshotsAreTaken := by
  intro s u o r grant read
  have at_grant := exec_snapshot grant
  have pnp : u.pnp = s.pnp := by
    have frame := readTileAt_frame o.tile (grantOther s)
    rw [read] at frame
    obtain ⟨n, same⟩ := grantOther_eq s
    rw [same] at frame
    exact frame.2.2.2.2.1
  refine ⟨fun p waits => ?_, fun abandoned point => ?_, fun run rest part d live running todo waiting outcome => ?_⟩
  · subst waits
    refine at_grant.trans (congrArg _ ?_)
    simp only [snapshot, read]
  · obtain ⟨part, d, taken⟩ := snapshot_point read point
    rw [snapshotPoint_abandoned abandoned] at taken
    refine ⟨fun idle => at_grant.trans (congrArg _ (taken.trans (presentSnapshot_idle ?_))),
      fun run v more running todo => at_grant.trans (congrArg _ (taken.trans ?_))⟩
    · exact (congrArg Pnp.run pnp).trans idle
    · exact presentSnapshot_next rfl ((congrArg Pnp.run pnp).trans running) todo
  · have waiting' : dirOf o.tile u = .waiting := by
      refine readTileAt_waiting read ?_
      obtain ⟨n, same⟩ := grantOther_eq s
      rw [same]
      exact waiting
    have taken : snapshot o s = snapshotPoint o part d u := by
      simp only [snapshot, read]
      rcases outcome with ⟨⟨w, v, rfl, rfl⟩, rfl⟩ | ⟨rfl, ⟨⟨w, rfl⟩, rfl⟩ | ⟨⟨worn, rfl⟩, rfl⟩⟩ <;> rfl
    rw [snapshotPoint_run live ((congrArg Pnp.run pnp).trans running) todo waiting'] at taken
    refine ⟨fun last => at_grant.trans (congrArg _ (taken.trans ?_)),
      fun v more next => at_grant.trans (congrArg _ (taken.trans ?_))⟩
    · rw [last, ← pnp]
      rfl
    · rw [← pnp]
      subst next
      exact presentSnapshot_next (v := v) (more := more)
        (s := (setDir o.tile d (setPanelOp none u)).setPnp
          { u.pnp with run := some { run with todo := v :: more, done := run.done ++ [part] } }) rfl rfl rfl

end Sys2Proof.Proofs.Snapshots
end

section
/-! The fill reads and their installs (R72, R76, R94, R98, R99). -/

namespace Sys2Proof.Proofs.Fills

open Sys2Proof Sys2Proof.Machine Sys2Proof.Proofs.Frames Sys2Proof.Proofs.Steps Sys2Proof.Proofs.Boot
open Sys2Proof.Proofs.TileAccess Sys2Proof.Proofs.Ports Sys2Proof.Proofs.TileServed Sys2Proof.Proofs.JobTiles
open Sys2Proof.Proofs.DirectTiles Sys2Proof.Proofs.StaleScan

theorem codeAgrees_iff (t : TileNo) (v : TileValues) (c : CheckCode) :
    codeAgrees t v c = true ↔ c = { tile := t, values := v } := by
  rw [codeAgrees, beq_iff_eq]
  rfl

theorem readResult_of_agrees {t : TileNo} {x : TileRecord} (tile : x.tile = t)
    (code : x.code = { tile := t, values := x.values }) : readResult t (.holds x) = .values x.values := by
  rw [readResult, tile, (codeAgrees_iff ..).2 code]
  simp

theorem readResult_of_differs {t : TileNo} {x : TileRecord}
    (differs : x.tile ≠ t ∨ x.code ≠ { tile := t, values := x.values }) : readResult t (.holds x) = .failed := by
  refine if_neg fun both => ?_
  obtain ⟨tile, code⟩ := Bool.and_eq_true_iff.1 both
  exact differs.elim (fun other => other (beq_iff_eq.1 tile)) fun other => other ((codeAgrees_iff ..).1 code)

/-! ## The install -/

/-- A fill result has been installed in its FILLING entry, and nothing waits on it yet (R76). -/
structure FillInstalled (t : TileNo) (w : Fin 8) (r : FillResult) (s u : State) : Prop where
  form : u = { s with
    tlc := { s.tlc with sets := u.tlc.sets }
    mfc := { s.mfc with header := u.mfc.header }
    pcd := u.pcd
    syp := { s.syp with flags := u.syp.flags } }
  others : otherWaysKept (setOf t) w s u
  trees : ∀ j : Fin 16, (u.tlc.sets[j]).tree = (s.tlc.sets[j]).tree
  values : ∀ v : TileValues, r = .values v →
    entryAt (setOf t) w u = some { tile := t, state := .clean v (codeOf t v) } ∧
      u.mfc = s.mfc ∧ u.pcd = s.pcd ∧ u.syp = s.syp
  erased : r = .erased →
    entryAt (setOf t) w u = some { tile := t, state := .clean zeroTile (codeOf t zeroTile) } ∧
      u.mfc = s.mfc ∧ u.pcd = s.pcd ∧ u.syp = s.syp
  failed : r = .failed →
    entryAt (setOf t) w u = some { tile := t, state := .faulty } ∧ flagSet .tileLost u = true ∧
      u.mfc.header = { s.mfc.header with faulty := s.mfc.header.faulty + 1 } ∧ u.pcd = (markChanged t s).pcd

theorem fillInstalled_clean (t : TileNo) (w : Fin 8) (e : Option Entry) (s : State) :
    setEntry (setOf t) w e s = { s with tlc := { s.tlc with sets := (setEntry (setOf t) w e s).tlc.sets } } ∧
      otherWaysKept (setOf t) w s (setEntry (setOf t) w e s) ∧
      ∀ j : Fin 16, ((setEntry (setOf t) w e s).tlc.sets[j]).tree = (s.tlc.sets[j]).tree :=
  ⟨rfl, fun _ _ away => entryAt_setEntry_other _ _ away, fun j => tree_setEntry _ j _ _ _⟩

theorem installFill_installed (t : TileNo) (w : Fin 8) (r : FillResult) (s : State) :
    FillInstalled t w r s (installFill t w r s) := by
  cases r with
  | values v =>
    obtain ⟨form, others, trees⟩ := fillInstalled_clean t w (some { tile := t, state := .clean v (codeOf t v) }) s
    refine ⟨form, others, trees, fun v' same => ?_, fun same => (nomatch same), fun same => (nomatch same)⟩
    cases same
    exact ⟨entryAt_setEntry_self .., rfl, rfl, rfl⟩
  | erased =>
    obtain ⟨form, others, trees⟩ :=
      fillInstalled_clean t w (some { tile := t, state := .clean zeroTile (codeOf t zeroTile) }) s
    exact ⟨form, others, trees, fun v same => (nomatch same), fun _ => ⟨entryAt_setEntry_self .., rfl, rfl, rfl⟩,
      fun same => (nomatch same)⟩
  | failed =>
    have sets : (loseTile t w s).tlc.sets = (setEntry (setOf t) w (some { tile := t, state := .faulty }) s).tlc.sets :=
      congrArg Tlc.sets (loseTile_sets t w s)
    have syp : (loseTile t w s).syp = { s.syp with flags := (loseTile t w s).syp.flags } := by
      rw [loseTile_eq]
      change (markChanged t (raise .tileLost s)).syp = _
      conv_lhs => rw [markChanged_eq]
      rfl
    refine ⟨?_, loseTile_otherWays t w s, fun j => ?_, fun v same => (nomatch same), fun same => (nomatch same),
      fun _ => ⟨loseTile_entry t w s, flagSet_loseTile t w s, ?_, ?_⟩⟩
    · change loseTile t w s = _
      have header : (loseTile t w s).mfc.header = { s.mfc.header with faulty := s.mfc.header.faulty + 1 } := by
        rw [loseTile_eq]
      have directory : (loseTile t w s).pcd = (markChanged t s).pcd := by rw [loseTile_eq]
      have flags : (loseTile t w s).syp = (markChanged t (raise .tileLost s)).syp := by rw [loseTile_eq]
      change loseTile t w s = { s with
        tlc := { s.tlc with sets := (loseTile t w s).tlc.sets }
        mfc := { s.mfc with header := (loseTile t w s).mfc.header }
        pcd := (loseTile t w s).pcd
        syp := { s.syp with flags := (loseTile t w s).syp.flags } }
      rw [← syp, header, directory, flags]
      exact loseTile_eq t w s
    · change ((loseTile t w s).tlc.sets[j]).tree = _
      rw [sets, tree_setEntry]
    · change (loseTile t w s).mfc.header = _
      rw [loseTile_eq]
    · change (loseTile t w s).pcd = _
      rw [loseTile_eq]

/-- What the install of a tile's fill makes of an operation's phase (R72). -/
def installWakes (t u : TileNo) (p : OpPhase) : OpPhase :=
  if setOf u == setOf t then wayFreed (if u == t then fillDone p else p) else if u == t then fillDone p else p

theorem installWakes_self (t : TileNo) (p : OpPhase) : installWakes t t p = wayFreed (fillDone p) := by
  simp [installWakes]

theorem installWakes_other {t u : TileNo} (other : u ≠ t) (p : OpPhase) :
    installWakes t u p = if setOf u = setOf t then wayFreed p else p := by
  simp [installWakes, other]

theorem wakeInstall_goesOn (t : TileNo) (s : State) : operationsGoOn (installWakes t) s (wakeInstall t s) :=
  operationsGoOn_trans (f := fun u p => if u == t then fillDone p else p)
    (g := fun u p => if setOf u == setOf t then wayFreed p else p) (wake_operationsGoOn (fun u => u == t) fillDone s)
    (wake_operationsGoOn (fun u => setOf u == setOf t) wayFreed (wake (fun u => u == t) fillDone s)) rfl

theorem operationsGoOn_congr {f g : TileNo → OpPhase → OpPhase} {s t : State} (same : ∀ u p, f u p = g u p)
    (h : operationsGoOn f s t) : operationsGoOn g s t := by
  obtain rfl : f = g := funext fun u => funext fun p => same u p
  exact h

/-- The operations at the tile cache, and the tile of the JOB operation, are all that the ends of waits go by. -/
theorem operationsGoOn_from {f : TileNo → OpPhase → OpPhase} {s u t : State} (h : operationsGoOn f u t)
    (panel : u.tlc.panel = s.tlc.panel) (access : u.tlc.access = s.tlc.access) (job : u.tlc.job = s.tlc.job)
    (tile : jobTile u = jobTile s) : operationsGoOn f s t := by
  obtain ⟨panel', access', job'⟩ := h
  refine ⟨panel'.trans ?_, access'.trans ?_, job'.trans ?_⟩
  · rw [panel]
  · rw [access]
  · rw [tile, job]

theorem exec_fillInstall {s : State} {f : Fill} {w : Fin 8} (grant : nextGrant s = some (.fill f))
    (filling : fillingWay f.tile s = some w) :
    ∃ n, (grantOther s).tlc.jobWait = n ∧
      exec .fillInstall s = .next (wakeInstall f.tile (installFill f.tile w f.result
        (s.setTlc { s.tlc with fills := s.tlc.fills.tail, jobWait := n }))) := by
  obtain ⟨n, same⟩ := grantOther_eq s
  refine ⟨n, by rw [same]; rfl, exec_of_effect ?_⟩
  have filling' : fillingWay f.tile (s.setTlc { s.tlc with fills := s.tlc.fills.tail, jobWait := n }) = some w := filling
  have granted : (grantOther s).setTlc { (grantOther s).tlc with fills := s.tlc.fills.tail } =
      s.setTlc { s.tlc with fills := s.tlc.fills.tail, jobWait := n } := by
    rw [same]
    rfl
  simp only [effect_fillInstall, fillInstall, grant, installHead, granted, filling']

/-- Settles O46. -/
theorem fillsAreReadAndInstalled : Obligations.FillsAreReadAndInstalled := by
  refine ⟨fun s t home reading => ⟨readResult t (tileHomeContent t home s), exec_of_effect ?_, fun content => ?_,
    fun content => ?_, fun x content => ⟨fun tile code => ?_, fun differs => ?_⟩⟩, fun s f w grant filling => ?_⟩
  · simp only [effect_fillReadComplete, fillReadComplete, reading]
    rfl
  · rw [content, readResult]
  · rw [content, readResult]
  · rw [content, readResult_of_agrees tile code]
  · rw [content, readResult_of_differs differs]
  · obtain ⟨n, wait, reached⟩ := exec_fillInstall grant filling
    obtain ⟨form, others, trees, values, erased, failed⟩ := installFill_installed f.tile w f.result
      (s.setTlc { s.tlc with fills := s.tlc.fills.tail, jobWait := n })
    generalize installFill f.tile w f.result (s.setTlc { s.tlc with fills := s.tlc.fills.tail, jobWait := n }) = u
      at form others trees values erased failed reached
    refine ⟨_, reached, ?_, ?_, ?_, others, ?_, ?_, ?_, trees, ?_, values, erased, fun lost => ?_⟩
    · have parts : ∀ T, { u with tlc := T } = { s with
          tlc := T
          mfc := { s.mfc with header := u.mfc.header }
          pcd := u.pcd
          syp := { s.syp with flags := u.syp.flags } } := fun T => by
        conv_lhs => rw [form]
        rfl
      exact parts (wakeInstall f.tile u).tlc
    · change u.tlc.fills = _
      rw [form]
      rfl
    · change u.tlc.queue = _
      rw [form]
      rfl
    · change u.tlc.drains = _
      rw [form]
      rfl
    · change u.tlc.lock = _
      rw [form]
      rfl
    · change u.tlc.jobWait = _
      rw [form, wait]
      rfl
    · refine operationsGoOn_from (operationsGoOn_congr (fun v p => ?_) (wakeInstall_goesOn f.tile u)) ?_ ?_ ?_ ?_
      · by_cases same : v = f.tile
        · subst same
          rw [installWakes_self]
          cases p <;> simp [fillDone, wayFreed]
        · rw [installWakes_other same]
          cases p <;> simp [same, wayFreed]
      all_goals
        rw [form]
        rfl
    · obtain ⟨entry, flag, header, marked⟩ := failed lost
      have directory : u.pcd = (markChanged f.tile s).pcd := marked.trans (markChanged_pcd_congr f.tile rfl)
      have dir : ∀ x, dirOf x (wakeInstall f.tile u) = dirOf x (markChanged f.tile s) := fun x => by
        change (u.pcd.dir)[x] = _
        rw [directory]
        rfl
      refine ⟨entry, flag, header, directory, ?_, fun x away => ?_⟩
      · rw [dir, dirOf_markChanged, if_pos rfl]
      · rw [dir, dirOf_markChanged, if_neg away]

end Sys2Proof.Proofs.Fills
end

section
/-! Way locking, drains, storage faults and the flash arbiter (R72, R80, R82, R92, R96 to R106, R112). -/

namespace Sys2Proof.Proofs.FlashArbiter

open Sys2Proof Sys2Proof.Machine Sys2Proof.Proofs.Frames Sys2Proof.Proofs.Steps Sys2Proof.Proofs.Boot
open Sys2Proof.Proofs.TileAccess Sys2Proof.Proofs.Ports Sys2Proof.Proofs.Fills

/-! ## LOCK_WAYS (R72, R80) -/

/-- L takes a count; lowering it presents again the operations that wait for a way. -/
def lockSet (l : Fin 8) (s : State) : State :=
  if l < s.tlc.lock then wakeWays (s.setTlc { s.tlc with lock := l }) else s.setTlc { s.tlc with lock := l }

theorem lockWays_admitted {req : Request} {s : State} {l : Fin 8} (role : stationWith .map req.master s = true)
    (stage : stageAdmits lineStage s = true) (carried : parseLock req.body = some l) :
    lockWays req s = reply req .ok (.lockBefore s.tlc.lock.val) (lockSet l s) := by
  simp only [lockWays, role, stage, carried]
  rfl

theorem lockSet_form (l : Fin 8) (s : State) :
    lockSet l s = { s with tlc := { s.tlc with
      lock := l
      panel := (lockSet l s).tlc.panel
      access := (lockSet l s).tlc.access
      job := (lockSet l s).tlc.job } } := by
  unfold lockSet
  split <;> rfl

/-- What a change of L from `before` to `l` makes of an operation's phase. -/
def lockWakes (l before : Fin 8) (p : OpPhase) : OpPhase :=
  if l < before then wayFreed p else p

theorem operationsGoOn_refl {s t : State} (panel : t.tlc.panel = s.tlc.panel) (access : t.tlc.access = s.tlc.access)
    (job : t.tlc.job = s.tlc.job) : operationsGoOn (fun _ p => p) s t := by
  refine ⟨panel.trans ?_, access.trans ?_, job.trans ?_⟩
  · cases s.tlc.panel <;> rfl
  · exact (List.map_id' _).symm
  · split
    · rw [Option.map_id']
    · rfl

theorem lockSet_goesOn (l : Fin 8) (s : State) : operationsGoOn (fun _ => lockWakes l s.tlc.lock) s (lockSet l s) := by
  by_cases lower : l < s.tlc.lock
  · have woken := wake_operationsGoOn (fun _ => true) wayFreed (s.setTlc { s.tlc with lock := l })
    rw [lockSet, if_pos lower]
    refine operationsGoOn_from (operationsGoOn_congr (fun u p => ?_) woken) rfl rfl rfl rfl
    simp [lockWakes, lower]
  · rw [lockSet, if_neg lower]
    refine operationsGoOn_congr (fun u p => ?_) (operationsGoOn_refl (s := s)
      (t := s.setTlc { s.tlc with lock := l }) rfl rfl rfl)
    simp [lockWakes, lower]

/-! ## DRAIN (R92) -/

theorem drained_iff (s : State) : drained s = true ↔ s.tlc.queue = [] ∧ programming s = false := by
  simp [drained]

theorem drainDue_eq (s : State) :
    drainDue s = if s.mfc.wear = .worn then some .flashWorn
      else if s.tlc.queue = [] ∧ programming s = false then some .ok else none := by
  simp only [drainDue, drained_iff]

theorem drain_admitted {req : Request} {s : State} (origin : mapOrSystem req.master s = true) (body : req.body = []) :
    drain req s = s.setTlc { s.tlc with drains := s.tlc.drains ++ [(req, drainDue s)] } := by
  have empty : noArguments req.body = true := by
    rw [body]
    rfl
  simp only [drain, origin, empty]
  rfl

/-- The oldest DRAIN whose reply is due is answered and leaves the list. -/
theorem drainReply_due {s : State} {req : Request} {st : Status} {before after : List (Request × Option Status)}
    (drains : s.tlc.drains = before ++ (req, some st) :: after) (withheld : ∀ d ∈ before, d.2 = none) :
    drainReply s = reply req st .empty (s.setTlc { s.tlc with drains := before ++ after }) := by
  have found : (s.tlc.drains.find? fun d => d.2.isSome) = some (req, some st) :=
    List.find?_eq_some_iff_append.2 ⟨rfl, before, after, drains, fun d mem => by rw [withheld d mem]; rfl⟩
  have absent : (req, some st) ∉ before := fun mem => nomatch withheld _ mem
  have left : s.tlc.drains.erase (req, some st) = before ++ after := by
    rw [drains, List.erase_append_right _ absent, List.erase_cons_head]
  simp only [drainReply, found, left]

/-! ## Storage faults (R82) -/

theorem changesFit_of {changes : List (Fin 32 × Int)} (some_change : changes ≠ [])
    (fits : ∀ c ∈ changes, -511 ≤ c.2 ∧ c.2 ≤ 511) : changesFit changes = true := by
  simp only [changesFit, Bool.and_eq_true, List.all_eq_true, decide_eq_true_eq, Bool.not_eq_true',
    List.isEmpty_eq_false_iff]
  exact ⟨some_change, fits⟩

theorem modify_append_cons {α : Type} (f : α → α) (before after : List α) (x : α) :
    (before ++ x :: after).modify before.length f = before ++ f x :: after := by
  induction before with
  | nil => rfl
  | cons y ys ih => simpa using ih

/-- Settles O47. -/
theorem locksDrainsAndFaults : Obligations.LocksDrainsAndFaults := by
  intro s
  refine ⟨fun i req l asked carried => ?_, fun m req waiting origin body => ?_,
    fun req st before after drains withheld => ?_, fun changes some_change fits => ?_⟩
  · obtain ⟨waiting, master, kind, role, stage⟩ := lineRequest_spec asked
    rw [← master] at role
    refine ⟨lockSet l (withoutRequest req s), exec_of_effect ((serve_some waiting).trans ?_), ?_, ?_⟩
    · exact lockWays_admitted role stage carried
    · exact lockSet_form l (withoutRequest req s)
    · refine operationsGoOn_from (operationsGoOn_congr (fun u p => ?_) (lockSet_goesOn l (withoutRequest req s)))
        rfl rfl rfl rfl
      change lockWakes l s.tlc.lock p = _
      by_cases lower : l < s.tlc.lock <;> cases p <;> simp [lockWakes, lower, wayFreed]
  · obtain ⟨-, -, master⟩ := waitingRequest_spec waiting
    have admitted : mapOrSystem req.master (withoutRequest req s) = true := by
      rw [master]
      exact origin
    refine exec_of_effect ((serve_some waiting).trans ((drain_admitted admitted body).trans ?_))
    rw [drainDue_eq]
    rfl
  · refine exec_of_effect ?_
    simp only [effect_drainReply, drainReply_due drains withheld]
  · have fit := changesFit_of some_change fits
    refine ⟨fun i w t v c => ⟨fun entry => ?_, fun entry => ?_⟩, fun n before after x queue place => ?_⟩
    · refine exec_of_effect ?_
      simp only [effect_storageFault, storageFault, fit, entry, Option.map_some, strikeEntry, if_true]
    · refine exec_of_effect ?_
      simp only [effect_storageFault, storageFault, fit, entry, Option.map_some, strikeEntry, if_true]
    · refine exec_of_effect ?_
      simp only [effect_storageFault, storageFault, fit, if_true, queue, ← place, modify_append_cons, strikeCopy]

/-! ## The flash arbiter (R96 to R106, R112) -/

theorem nextGeneration_spec (g : BitVec 16) :
    nextGeneration g ≠ 0 ∧ (nextGeneration g).toNat = if g.toNat = 65535 then 1 else g.toNat + 1 := by
  unfold nextGeneration
  split
  next last =>
    subst last
    exact ⟨by decide, rfl⟩
  next other =>
    have below : g.toNat ≠ 65535 := fun same => other (BitVec.eq_of_toNat_eq same)
    have next : (g + 1).toNat = g.toNat + 1 := by bv_omega
    refine ⟨fun zero => ?_, ?_⟩
    · rw [zero] at next
      exact absurd next.symm (Nat.succ_ne_zero _)
    · rw [if_neg below, next]

theorem exec_flashGrant (s : State) : exec .flashGrant s = .next (flashGrant s) := rfl

theorem grantRecord_other {p : RecordProgram} (other : p ≠ .header) (s : State) :
    grantRecord p s = startProgram (.record p) s := by
  cases p with
  | header => exact absurd rfl other
  | _ => rfl

theorem grantTile_clear {c : TileCopy} {s : State} (clear : s.mfc.marker = false) :
    grantTile c s = startProgram (.tile c (homeOf c.tile s)) s :=
  if_neg (by rw [clear]; exact Bool.false_ne_true)

theorem grantTile_marked {c : TileCopy} {s : State} (marked : s.mfc.marker = true) :
    grantTile c s = startProgram (.uncommit (uncommitHeader s)) s :=
  if_pos marked

/-- Settles O48. -/
theorem flashGrantsFollowTheClasses : Obligations.FlashGrantsFollowTheClasses := by
  intro s idle
  have grant : flashGrant s = _ := if_pos idle
  refine ⟨fun t rest reads => ?_, fun rest reads => ?_, fun none_read p rest programs => ⟨fun other => ?_, fun header => ?_⟩,
    fun none_read none_program normal c rest queue => ⟨fun clear => ?_, fun marked => ?_⟩⟩
  · rw [exec_flashGrant, grant, reads]
    rfl
  · rw [exec_flashGrant, grant, reads]
    rfl
  · rw [exec_flashGrant, grant, none_read, programs]
    dsimp only
    rw [grantRecord_other other]
    rfl
  · subst header
    obtain ⟨nonzero, next⟩ := nextGeneration_spec s.mfc.header.generation
    refine ⟨commitHeader s, ?_, rfl, nonzero, next⟩
    rw [exec_flashGrant, grant, none_read, programs]
    rfl
  · rw [exec_flashGrant, grant, none_read, none_program, queue]
    dsimp only
    rw [if_pos normal, grantTile_clear clear]
    rfl
  · rw [exec_flashGrant, grant, none_read, none_program, queue]
    dsimp only
    rw [if_pos normal, grantTile_marked marked]
    rfl

end Sys2Proof.Proofs.FlashArbiter
end

section
/-! The ends of the flash programs (R92, R98, R102 to R105, R109, R111, R112). -/

namespace Sys2Proof.Proofs.ProgramEnds

open Sys2Proof Sys2Proof.Machine Sys2Proof.Proofs.Frames Sys2Proof.Proofs.Steps Sys2Proof.Proofs.Boot
open Sys2Proof.Proofs.TileAccess Sys2Proof.Proofs.Ports Sys2Proof.Proofs.Fills Sys2Proof.Proofs.JobTable
open Sys2Proof.Proofs.CopyOuts Sys2Proof.Proofs.JobTiles Sys2Proof.Proofs.StaleScan Sys2Proof.Proofs.Delivery
open Sys2Proof.Proofs.FlashArbiter

/-! ## The end of any program (R92, R111) -/

theorem commitGoesOn_congr {f g : CommitWork → CommitWork} {s t : State} (same : ∀ w, f w = g w)
    (h : commitGoesOn f s t) : commitGoesOn g s t := by
  obtain rfl : f = g := funext same
  exact h

theorem commitGoesOn_trans {f g : CommitWork → CommitWork} {s t u : State} (first : commitGoesOn f s t)
    (second : commitGoesOn g t u) : commitGoesOn (fun w => g (f w)) s u := by
  refine ⟨fun b w running => second.1 b (f w) (first.1 b w running), fun other => ?_⟩
  have kept := first.2 other
  exact (second.2 fun b w running => other b w (kept ▸ running)).trans kept

theorem drained_idle (s : State) : drained (setFlash .idle s) = true ↔ s.tlc.queue = [] := by
  refine (drained_iff _).trans ⟨fun h => h.1, fun h => ⟨h, rfl⟩⟩

theorem programDone_empty {s : State} (empty : s.tlc.queue = []) :
    programDone s = commitMoment (dueDrains .ok (setFlash .idle s)) :=
  if_pos ((drained_idle s).2 empty)

theorem programDone_queued {s : State} (queued : s.tlc.queue ≠ []) : programDone s = setFlash .idle s :=
  if_neg fun h => queued ((drained_idle s).1 h)

/-- The end of a program tests the drains. -/
theorem programDone_drainsTested (s : State) : drainsTested s (programDone s) := by
  by_cases empty : s.tlc.queue = []
  · have moment : commitGoesOn momentFound s (commitMoment (dueDrains .ok (setFlash .idle s))) :=
      commitMoment_goesOn (dueDrains .ok (setFlash .idle s))
    rw [programDone_empty empty]
    refine ⟨?_, commitGoesOn_congr (fun w => (if_pos empty).symm) moment⟩
    rw [commitMoment_eq, if_pos empty]
    rfl
  · rw [programDone_queued empty]
    exact ⟨(if_neg empty).symm, commitGoesOn_congr (fun w => (if_neg empty).symm) ⟨fun b w running => running, fun _ => rfl⟩⟩

/-- The end of a program changes the running work, the withheld replies and the flash state alone. -/
theorem programDone_form (s : State) :
    ∃ R, programDone s =
      { s with
        jobs := { s.jobs with running := R }
        tlc := { s.tlc with
          drains := if s.tlc.queue = [] then s.tlc.drains.map fun d => (d.1, some (d.2.getD .ok)) else s.tlc.drains }
        mfc := { s.mfc with flash := .idle } } := by
  obtain ⟨drains, -⟩ := programDone_drainsTested s
  refine ⟨(programDone s).jobs.running, ?_⟩
  rw [← drains]
  exact programDone_eq s

/-! ## Uncommits and header checks (R104, R109) -/

theorem previousHeader_holds (h : HeaderRecord) :
    previousHeader (.holds h) = if h.signed then .intact else .lost := rfl

/-- Settles O50. -/
theorem uncommitsAndHeaderChecksComplete : Obligations.UncommitsAndHeaderChecksComplete := by
  refine fun s => ⟨fun h q verified flash => ?_, fun p => rfl, fun t done => ?_, fun b w flash running phase =>
    ⟨previousHeader s.homes.header, exec_of_effect ?_, fun home => ?_, fun home => ?_, fun h home => ?_⟩⟩
  · obtain ⟨R, form⟩ := programDone_form ((setHeaderHome (if verified then .holds h else .failing) s).setMfc
      { (setHeaderHome (if verified then .holds h else .failing) s).mfc with marker := false })
    have tested := programDone_drainsTested ((setHeaderHome (if verified then .holds h else .failing) s).setMfc
      { (setHeaderHome (if verified then .holds h else .failing) s).mfc with marker := false })
    refine ⟨_, exec_of_effect ?_, ?_, tested⟩
    · simp only [effect_uncommitProgramComplete, uncommitProgramComplete, flash]
    · rw [form]
      rfl
  · subst done
    refine ⟨?_, programDone_drainsTested s⟩
    obtain ⟨R, form⟩ := programDone_form s
    rw [form]
  · have running' : (setFlash .idle s).jobs.running = some { box := b, work := .commit w } := running
    simp only [effect_headerCheckReadComplete, headerCheckReadComplete, flash, recordHeaderCheck, running', phase]
    rfl
  · rw [home, previousHeader]
  · rw [home, previousHeader]
  · rw [home, previousHeader_holds]

/-! ## The end of a commit (R105, R111, R112) -/

/-- A commit whose header has verified (step 3 of R112). -/
theorem headerVerified_eq {b : Fin 16} {x : Box} {s : State} (held : boxAt b s = some x) (w : CommitWork)
    (h : HeaderRecord) :
    headerVerified b w h s =
      { raise .jobEnded s with
        jobs := { s.jobs with
          boxes := s.jobs.boxes.set b (some
            { x with
              state := .done
              result := some (.commit
                { generation := h.generation
                  placed := x.progress
                  programmed := w.programmed
                  sparesUsed := w.sparesUsed
                  sparesLeft := sparesUnused s
                  previous := w.previous
                  converged := some h.converged })
              newResult := true
              hold := none })
          running := none }
        tlc := { s.tlc with job := none, jobWait := 0 }
        mfc := { s.mfc with header := { s.mfc.header with generation := h.generation, committed := true } } } := by
  have held' : boxAt b (setHeader { s.mfc.header with generation := h.generation, committed := true } s) = some x := held
  have placed : progressOf b (setHeader { s.mfc.header with generation := h.generation, committed := true } s) =
      x.progress := by
    simp only [progressOf, held']
  rw [headerVerified]
  dsimp only
  rw [endRunning_eq held', placed, ← unusedSpares_eq]
  rfl

theorem commitDrainDone_found {s : State} {b : Fin 16} {w : CommitWork}
    (running : s.jobs.running = some { box := b, work := .commit w }) (phase : w.phase = .drain true) :
    exec .commitDrainDone s = .next (endDrain b w s) := by
  refine exec_of_effect ?_
  simp only [effect_commitDrainDone, commitDrainDone, running, phase]

/-- The end of a commit by its header program, in the state that the program's end leaves. -/
def headerEnds (verified : Bool) (b : Fin 16) (w : CommitWork) (h : HeaderRecord) (s : State) : State :=
  if verified then headerVerified b w h s else failCommit b w .headerFault (some h.converged) s

theorem commitHeaderComplete_commit {s : State} {b : Fin 16} {w : CommitWork} {h : HeaderRecord} {q : BitVec 32}
    (verified : Bool) (running : s.jobs.running = some { box := b, work := .commit w })
    (flash : s.mfc.flash = .programming (.header h) q) :
    ∃ p v, exec (.commitHeaderComplete verified) s = .next (headerEnds verified b { w with phase := p } h v) ∧
      ∃ R, v =
        { s with
          jobs := { s.jobs with running := R }
          tlc := { s.tlc with
            drains := if s.tlc.queue = [] then s.tlc.drains.map fun d => (d.1, some (d.2.getD .ok)) else s.tlc.drains }
          mfc := { s.mfc with flash := .idle, marker := verified }
          homes := { s.homes with header := if verified then .holds h else .failing } } := by
  obtain ⟨p, now⟩ := programDone_commit (s := (setHeaderHome (if verified then .holds h else .failing) s).setMfc
    { (setHeaderHome (if verified then .holds h else .failing) s).mfc with marker := verified }) running
  obtain ⟨R, form⟩ := programDone_form ((setHeaderHome (if verified then .holds h else .failing) s).setMfc
    { (setHeaderHome (if verified then .holds h else .failing) s).mfc with marker := verified })
  refine ⟨p, _, exec_of_effect ?_, R, form.trans rfl⟩
  simp only [effect_commitHeaderComplete, commitHeaderComplete, flash, now, headerEnds]

/-- Settles O51. -/
theorem commitsEnd : Obligations.CommitsEnd := by
  intro s b x w running held
  refine ⟨fun phase sound => ?_, fun phase faulty => ?_, fun h q verified flash => ?_⟩
  · rw [commitDrainDone_found running phase, endDrain, if_neg (fun no => no sound)]
    rfl
  · have ends : endDrain b w s = failCommit b w .tileFault none s := if_pos faulty
    exact ⟨_, _, _, (commitDrainDone_found running phase).trans (congrArg _ (ends.trans (failCommit_eq held w _ _))),
      rfl, rfl, rfl⟩
  · obtain ⟨p, v, reached, R, form⟩ := commitHeaderComplete_commit verified running flash
    have held' : boxAt b v = some x := by
      rw [form]
      exact held
    cases verified with
    | true =>
      have ended := headerVerified_eq held' { w with phase := p } h
      subst form
      exact ⟨_, _, _, reached.trans (congrArg _ ended), rfl, rfl, rfl⟩
    | false =>
      have ended := failCommit_eq held' { w with phase := p } .headerFault (some h.converged)
      subst form
      exact ⟨_, _, _, reached.trans (congrArg _ ended), rfl, rfl, rfl⟩

end Sys2Proof.Proofs.ProgramEnds
end

section
/-! The completion of a tile program: verified, remapped, or the entry into WORN (R87, R101 to R103, R111, R112). -/

namespace Sys2Proof.Proofs.TilePrograms

open Sys2Proof Sys2Proof.Machine Sys2Proof.Proofs.Frames Sys2Proof.Proofs.Steps Sys2Proof.Proofs.Boot
open Sys2Proof.Proofs.TileAccess Sys2Proof.Proofs.Ports Sys2Proof.Proofs.Fills Sys2Proof.Proofs.JobTable
open Sys2Proof.Proofs.CopyOuts Sys2Proof.Proofs.JobTiles Sys2Proof.Proofs.StaleScan Sys2Proof.Proofs.Delivery
open Sys2Proof.Proofs.FlashArbiter Sys2Proof.Proofs.ProgramEnds Sys2Proof.Proofs.ClearTiles

/-! ## The waits that a queue removal ends (R72) -/

/-- What the end of the waits for a way and for queue room makes of a phase. -/
def queueWakes (p : OpPhase) : OpPhase :=
  roomMade (wayFreed p)

theorem wakeQueue_goesOn (s : State) : operationsGoOn (fun _ => queueWakes) s (wakeQueue s) :=
  operationsGoOn_congr (fun _ _ => if_pos rfl) (wake_operationsGoOn (fun _ => true) (fun p => roomMade (wayFreed p)) s)

/-- A count for a running commit leaves the tile of the JOB operation. -/
theorem jobTile_countForCommit (n k : Nat) (s : State) : jobTile (countForCommit n k s) = jobTile s := by
  unfold countForCommit
  split
  next b w running => simp only [jobTile, setCommit, setRunning, State.setJobs, running]
  · rfl

/-! ## Verified (R87, R102, R112) -/

/-- The home holds the record and the head has left the queue. -/
def tileLanded (c : TileCopy) (home : TileHome) (q : BitVec 32) (s : State) : State :=
  { s with
    tlc := { s.tlc with queue := s.tlc.queue.tail }
    homes := (setTileHome c.tile home (.holds (recordOf c q)) s).homes }

theorem tileVerified_eq (c : TileCopy) (home : TileHome) (q : BitVec 32) (s : State) :
    tileVerified c home q s = programDone (wakeQueue (countForCommit 1 0 (tileLanded c home q s))) := by
  have landed : (setTileHome c.tile home (.holds (recordOf c q)) s).setTlc
      { (setTileHome c.tile home (.holds (recordOf c q)) s).tlc with
        queue := (setTileHome c.tile home (.holds (recordOf c q)) s).tlc.queue.tail } = tileLanded c home q s := by
    rw [setTileHome_eq]
    rfl
  unfold tileVerified
  dsimp only
  rw [landed]

theorem exec_verified {s : State} {c : TileCopy} {home : TileHome} {q : BitVec 32}
    (flash : s.mfc.flash = .programming (.tile c home) q) :
    exec (.tileProgramComplete true) s =
      .next (programDone (wakeQueue (countForCommit 1 0 (tileLanded c home q s)))) := by
  refine exec_of_effect ?_
  rw [← tileVerified_eq]
  simp only [effect_tileProgramComplete, tileProgramComplete, flash, if_true]

/-! ## Failed (R101, R102) -/

/-- The spare that a tile leaves is DEAD, and the one it takes is MAPPED for it. -/
def remapped (t : TileNo) (home : TileHome) (k : Fin 24) (s : State) : State :=
  setSpare k (.mapped t) (leaveHome home s)

theorem leaveHome_spares (home : TileHome) (s : State) (j : Fin 24) :
    (leaveHome home s).mfc.spares[j] = if home = .spare j then .dead else s.mfc.spares[j] := by
  cases home with
  | own => rfl
  | spare i =>
    change (s.mfc.spares.set i .dead)[j.val] = _
    rw [Vector.getElem_set]
    refine if_congr ⟨fun same => ?_, fun same => ?_⟩ rfl rfl
    · rw [Fin.ext same]
    · cases same
      rfl

theorem remapped_spares (t : TileNo) (home : TileHome) (k j : Fin 24) (s : State) :
    (remapped t home k s).mfc.spares[j] =
      if j = k then .mapped t else if home = .spare j then .dead else s.mfc.spares[j] := by
  change ((leaveHome home s).mfc.spares.set k (.mapped t))[j.val] = _
  rw [Vector.getElem_set, ← leaveHome_spares home s j]
  refine if_congr ⟨fun same => (Fin.ext same).symm, fun same => ?_⟩ rfl rfl
  rw [same]

theorem remapped_eq (t : TileNo) (home : TileHome) (k : Fin 24) (s : State) :
    remapped t home k s = { s with mfc := { s.mfc with spares := (remapped t home k s).mfc.spares } } := by
  cases home <;> rfl

theorem exec_failed {s : State} {c : TileCopy} {home : TileHome} {q : BitVec 32}
    (flash : s.mfc.flash = .programming (.tile c home) q) :
    exec (.tileProgramComplete false) s = .next (tileFailed c home s) := by
  refine exec_of_effect ?_
  simp only [effect_tileProgramComplete, tileProgramComplete, flash]
  rfl

/-- The home that fails its check. -/
def homeFailed (t : TileNo) (home : TileHome) (s : State) : State :=
  { s with homes := (setTileHome t home .failing s).homes }

theorem tileFailed_remapped {c : TileCopy} {home : TileHome} {s : State} {k : Fin 24} (spare : nextSpare s = some k) :
    tileFailed c home s =
      startProgram (.tile c (.spare k)) (countForCommit 0 1 (remapped c.tile home k (homeFailed c.tile home s))) := by
  have failed : setTileHome c.tile home .failing s = homeFailed c.tile home s := setTileHome_eq ..
  have spare' : nextSpare (homeFailed c.tile home s) = some k := spare
  simp only [tileFailed, failed, spare', remapped]

theorem tileFailed_worn {c : TileCopy} {home : TileHome} {s : State} (none_left : nextSpare s = none) :
    tileFailed c home s = enterWorn (homeFailed c.tile home s) := by
  have failed : setTileHome c.tile home .failing s = homeFailed c.tile home s := setTileHome_eq ..
  have none_left' : nextSpare (homeFailed c.tile home s) = none := none_left
  simp only [tileFailed, failed, none_left']

theorem nextSpare_eq_some_iff {k : Fin 24} {s : State} :
    nextSpare s = some k ↔ s.mfc.spares[k] = .unused ∧ ∀ j < k, s.mfc.spares[j] ≠ .unused := by
  simp only [nextSpare, find?_finRange_eq_some_iff, beq_iff_eq, beq_eq_false_iff_ne]

theorem nextSpare_eq_none {s : State} (h : ∀ k : Fin 24, s.mfc.spares[k] ≠ .unused) : nextSpare s = none :=
  List.find?_eq_none.2 fun k _ same => h k (beq_iff_eq.1 same)

/-! ## The entry into WORN (R103, R111) -/

/-- The flash has entered WORN, and the waits and the withheld DRAINs have been ended (R103). -/
def wornFlash (s : State) : State :=
  dueDrains .flashWorn (wakeQueue (raise .flashWorn (s.setMfc { s.mfc with flash := .idle, wear := .worn })))

theorem enterWorn_eq (s : State) : enterWorn s = wornCommit (wornFlash s) := rfl

theorem wornCommit_commit {s : State} {b : Fin 16} {w : CommitWork}
    (running : s.jobs.running = some { box := b, work := .commit w }) :
    wornCommit s = failCommit b w .flashWorn none (withdrawHeader s) := by
  simp only [wornCommit, running]

theorem wornCommit_other {s : State} (other : ∀ b w, s.jobs.running ≠ some { box := b, work := .commit w }) :
    wornCommit s = s := by
  unfold wornCommit
  split
  next b w running => exact absurd running (other b w)
  · rfl

theorem flagSet_endRunning {b : Fin 16} {st : BoxState} {r : JobResult} {s : State} {e : Event} (h : flagSet e s = true) :
    flagSet e (endRunning b st r s) = true := by
  unfold endRunning endBox
  split
  · exact h
  · change flagSet e (raise .jobEnded s) = true
    rw [flagSet_raise, h, Bool.or_true]

/-- The failing of a running commit as the flash enters WORN: the parts that it changes. -/
theorem wornCommit_form (s : State) :
    ∃ J H P F p n, wornCommit s =
        { s with
          jobs := J
          tlc := { s.tlc with job := p, jobWait := n }
          mfc := { s.mfc with header := H, programs := P }
          syp := { s.syp with flags := F } } ∧
      ∀ e, flagSet e s = true → flagSet e (wornCommit s) = true := by
  by_cases commit : ∃ b w, s.jobs.running = some { box := b, work := .commit w }
  · obtain ⟨b, w, running⟩ := commit
    rw [wornCommit_commit running, failCommit]
    dsimp only
    obtain ⟨J, F, ended, -⟩ := endRunning_form b (.failed .flashWorn) (.commit (commitResult (progressOf b (setHeader
      { (withdrawHeader s).mfc.header with committed := false } (withdrawHeader s))) w none (setHeader
      { (withdrawHeader s).mfc.header with committed := false } (withdrawHeader s)))) (setHeader
      { (withdrawHeader s).mfc.header with committed := false } (withdrawHeader s))
    exact ⟨J, _, _, F, none, 0, ended.trans rfl, fun e set => flagSet_endRunning set⟩
  · have other : ∀ b w, s.jobs.running ≠ some { box := b, work := .commit w } :=
      fun b w running => commit ⟨b, w, running⟩
    rw [wornCommit_other other]
    exact ⟨_, _, _, _, _, _, rfl, fun _ set => set⟩

theorem sparesUnused_eq_zero {s : State} (h : ∀ k : Fin 24, s.mfc.spares[k] ≠ .unused) : sparesUnused s = 0 :=
  Finset.card_eq_zero.2 (Finset.filter_eq_empty_iff.2 fun k _ => h k)

/-- Settles O49. -/
theorem tileProgramsComplete : Obligations.TileProgramsComplete := by
  intro s c home q flash queueWaitsEnd
  have wakes : ∀ (u : TileNo) (p : OpPhase), queueWakes p = queueWaitsEnd u p := fun u p => by cases p <;> rfl
  refine ⟨?_, fun k unused lowest => ?_, fun none_left => ?_⟩
  · have count : commitGoesOn _ s _ := countForCommit_goesOn 1 0 (tileLanded c home q s)
    have tile : _ = jobTile s := jobTile_countForCommit 1 0 (tileLanded c home q s)
    have counted := countForCommit_eq 1 0 (tileLanded c home q s)
    have reached := exec_verified flash
    generalize countForCommit 1 0 (tileLanded c home q s) = u at count tile counted reached
    have tlc : u.tlc = { s.tlc with queue := s.tlc.queue.tail } := by
      rw [counted]
      rfl
    obtain ⟨R, done⟩ := programDone_form (wakeQueue u)
    obtain ⟨drains, moment⟩ := programDone_drainsTested (wakeQueue u)
    have queue : (wakeQueue u).tlc.queue = s.tlc.queue.tail := congrArg Tlc.queue tlc
    have withheld : (wakeQueue u).tlc.drains = s.tlc.drains := (congrArg Tlc.drains tlc :)
    have panel : u.tlc.panel = s.tlc.panel := (congrArg Tlc.panel tlc :)
    have access : u.tlc.access = s.tlc.access := (congrArg Tlc.access tlc :)
    have job : u.tlc.job = s.tlc.job := (congrArg Tlc.job tlc :)
    refine ⟨_, reached, ?_, ?_, ?_, ?_, ?_⟩
    · have parts : ∀ R P A J D,
          { u with
            jobs := { u.jobs with running := R }
            tlc := { u.tlc with panel := P, access := A, job := J, drains := D }
            mfc := { u.mfc with flash := .idle } } =
          { s with
            jobs := { s.jobs with running := R }
            tlc := { s.tlc with queue := s.tlc.queue.tail, panel := P, access := A, job := J, drains := D }
            mfc := { s.mfc with flash := .idle }
            homes := u.homes } := by
        intro R P A J D
        rw [counted]
        rfl
      rw [done]
      exact parts _ _ _ _ _
    · have woken := operationsGoOn_from (operationsGoOn_congr wakes (wakeQueue_goesOn u)) panel access job tile
      rw [done]
      exact woken
    · rw [drains, queue, withheld]
    · refine commitGoesOn_congr (fun w => ?_) (commitGoesOn_trans count moment)
      rw [queue]
      rfl
    · rw [done]
      change u.homes = _
      rw [counted]
      rfl
  · have reached := (exec_failed flash).trans (congrArg _
      (tileFailed_remapped (c := c) (home := home) (nextSpare_eq_some_iff.2 ⟨unused, lowest⟩)))
    have spares := fun j => remapped_spares c.tile home k j (homeFailed c.tile home s)
    obtain ⟨S, mapped⟩ : ∃ S, remapped c.tile home k (homeFailed c.tile home s) =
        { homeFailed c.tile home s with mfc := { s.mfc with spares := S } } := ⟨_, remapped_eq ..⟩
    rw [mapped] at reached spares
    have goes := countForCommit_goesOn 0 1 { homeFailed c.tile home s with mfc := { s.mfc with spares := S } }
    obtain ⟨R, counted⟩ : ∃ R, countForCommit 0 1 { homeFailed c.tile home s with mfc := { s.mfc with spares := S } } =
        { homeFailed c.tile home s with mfc := { s.mfc with spares := S }, jobs := { s.jobs with running := R } } :=
      ⟨_, countForCommit_eq ..⟩
    rw [counted] at reached goes
    refine ⟨_, reached, rfl, goes, ?_, fun j left away => ?_, fun j away kept => ?_⟩
    · exact (spares k).trans (if_pos rfl)
    · exact ((spares j).trans (if_neg away)).trans (if_pos left)
    · exact ((spares j).trans (if_neg away)).trans (if_neg kept)
  · have reached := (exec_failed flash).trans (congrArg _
      ((tileFailed_worn (c := c) (home := home) (nextSpare_eq_none none_left)).trans (enterWorn_eq _)))
    obtain ⟨J, H, P, F, p, n, form, flags⟩ := wornCommit_form (wornFlash (homeFailed c.tile home s))
    have worn : flagSet .flashWorn (wornFlash (homeFailed c.tile home s)) = true := by
      change flagSet .flashWorn (raise .flashWorn s) = true
      rw [flagSet_raise]
      rfl
    have woken : operationsGoOn queueWaitsEnd s (wornFlash (homeFailed c.tile home s)) :=
      operationsGoOn_congr wakes (wakeQueue_goesOn (raise .flashWorn ((homeFailed c.tile home s).setMfc
        { s.mfc with flash := .idle, wear := .worn })))
    refine ⟨_, reached, ?_, flags _ worn, ?_, fun b x w running held => ?_, fun other => ?_⟩
    · rw [form]
      rfl
    · rw [form]
      rfl
    · have commit := wornCommit_commit (s := wornFlash (homeFailed c.tile home s)) running
      have held' : boxAt b (withdrawHeader (wornFlash (homeFailed c.tile home s))) = some x := held
      obtain ⟨panel, access, -⟩ := woken
      rw [commit, failCommit_eq held']
      refine ⟨rfl, rfl, rfl, rfl, fun d away => box_set_other away _ _, rfl, flagSet_jobEnded _, panel, access, _, _,
        Vector.getElem_set_self _, rfl, ?_⟩
      have left : sparesUnused (withdrawHeader (wornFlash (homeFailed c.tile home s))) = 0 := sparesUnused_eq_zero none_left
      rw [left]
      rfl
    · rw [wornCommit_other (s := wornFlash (homeFailed c.tile home s)) other]
      exact ⟨rfl, rfl, rfl, woken⟩

end Sys2Proof.Proofs.TilePrograms
end

section
/-! The panel's requests: FETCH_RUN, the notices and PANEL_HELLO (R119, R121 to R126, R130 to R134). -/

namespace Sys2Proof.Proofs.PanelRequests

open Sys2Proof Sys2Proof.Machine Sys2Proof.Proofs.Frames Sys2Proof.Proofs.Steps Sys2Proof.Proofs.Boot
open Sys2Proof.Proofs.Layouts Sys2Proof.Proofs.Ports Sys2Proof.Proofs.Snapshots

theorem noArguments_nil {body : List Byte} (empty : body = []) : noArguments body = true := by
  rw [empty]
  rfl

/-! ## The body of a FETCH_RUN (R124) -/

theorem natOfBytes_one {n : Nat} (h : n < 256) : natOfBytes (bytesOfNat 1 n) = n := by
  change natOfBytes [BitVec.ofNat 8 n] = n
  rw [natOfBytes, List.foldl_cons, List.foldl_nil, BitVec.toNat_ofNat]
  omega

/-- What the body of a FETCH_RUN with tile number `t` and count `n` is read as. -/
theorem parseRun_fields {t n : Nat} (ht : t < 65536) (hn : n < 256) :
    parseRun (fieldBytes [(1, bytesOfNat 2 t), (2, bytesOfNat 1 n)]) =
      (tileOf t).bind fun tile => if n = 0 then none else some (tile, min n 6) := by
  have fields : bodyFields 2 (fieldBytes [(1, bytesOfNat 2 t), (2, bytesOfNat 1 n)]) =
      some [(1, bytesOfNat 2 t), (2, bytesOfNat 1 n)] := by
    refine bodyFields_fieldBytes 2 _ (by decide) rfl fun f mem => ?_
    rcases List.mem_cons.1 mem with rfl | rest
    · exact ⟨le_refl 1, one_le_two, by simp [bytesOfNat_two]⟩
    · obtain rfl := List.mem_singleton.1 rest
      exact ⟨one_le_two, le_refl 2, Nat.one_lt_succ_succ 65534⟩
  have tile : needNumber [(1, bytesOfNat 2 t), (2, bytesOfNat 1 n)] 1 2 = some t :=
    congrArg some (natOfBytes_two ht)
  have count : needNumber [(1, bytesOfNat 2 t), (2, bytesOfNat 1 n)] 2 1 = some n :=
    congrArg some (natOfBytes_one hn)
  simp only [parseRun, fields, tile, count, Option.bind_eq_bind, Option.bind_some]

/-! ## The tiles of a run (R124, R125) -/

theorem runTiles_val (t : TileNo) (n : Nat) :
    (runTiles t n).map (·.val) = (List.range n).map fun k => t.val - t.val % 6 + (t.val % 6 + k) % 6 := by
  simp [runTiles, Function.comp_def]

theorem length_runTiles (t : TileNo) (n : Nat) : (runTiles t n).length = n := by simp [runTiles]

theorem runTiles_nodup (t : TileNo) {n : Nat} (h : n ≤ 6) : (runTiles t n).Nodup := by
  refine List.Nodup.map_on (fun j hj k hk same => ?_) List.nodup_range
  have below_j := List.mem_range.1 hj
  have below_k := List.mem_range.1 hk
  have values := congrArg Fin.val same
  dsimp only at values
  omega

theorem foldl_waiting (ts : List TileNo) (dir : Vector DirState 504) (x : TileNo) :
    (ts.foldl (fun d t => d.set t .waiting) dir)[x] = if x ∈ ts then .waiting else dir[x] := by
  induction ts generalizing dir with
  | nil => simp
  | cons t ts ih =>
    rw [List.foldl_cons, ih]
    by_cases later : x ∈ ts
    · simp [later]
    · by_cases first : x = t
      · subst first
        simp [later]
      · have away : t.val ≠ x.val := fun same => first (Fin.ext same.symm)
        simp [later, first, Vector.getElem_set_ne _ _ away]

theorem dirOf_awaitTiles (ts : List TileNo) (x : TileNo) (s : State) :
    dirOf x (awaitTiles ts s) = if x ∈ ts then .waiting else dirOf x s :=
  foldl_waiting ts s.pcd.dir x

theorem presentSnapshot_eq (s : State) :
    presentSnapshot s = { s with tlc := { s.tlc with panel := (presentSnapshot s).tlc.panel } } := by
  unfold presentSnapshot
  split
  · split <;> rfl
  · rfl

theorem presentSnapshot_busy {s : State} {o : PanelOp} (busy : s.tlc.panel = some o) : (presentSnapshot s).tlc.panel = some o := by
  simp only [presentSnapshot, busy]

theorem presentSnapshot_first {s : State} {r : PanelRun} {v : TileNo} {more : List TileNo} (free : s.tlc.panel = none)
    (run : s.pnp.run = some r) (todo : r.todo = v :: more) :
    (presentSnapshot s).tlc.panel = some { tile := v, abandoned := false, phase := .presented } := by
  rw [presentSnapshot_next free run todo]
  rfl

theorem fetchRun_taken {req : Request} {s : State} {t : TileNo} {n : Nat} (master : req.master = .panel)
    (carried : parseRun req.body = some (t, n)) :
    fetchRun req s = presentSnapshot ((awaitTiles (runTiles t n) s).setPnp
      { s.pnp with run := some { req := req, first := t, count := n, todo := runTiles t n, done := [] } }) := by
  have origin : (req.master != .panel) = false := by rw [master]; rfl
  simp only [fetchRun, origin, carried]
  rfl

theorem fetchRun_bad {req : Request} {s : State} (master : req.master = .panel) (bad : parseRun req.body = none) :
    fetchRun req s = refuse req .badArg s := by
  have origin : (req.master != .panel) = false := by rw [master]; rfl
  simp only [fetchRun, origin, bad]
  rfl

/-- Settles O52. -/
theorem runsStayInTheirRowGroup : Obligations.RunsStayInTheirRowGroup := by
  intro s req t n waiting ht hn body
  obtain ⟨-, -, master⟩ := waitingRequest_spec waiting
  have read := parseRun_fields ht hn
  rw [← body] at read
  refine ⟨fun bad => ?_, fun inside some_tiles => ?_⟩
  · have unread : parseRun req.body = none := by
      rw [read]
      rcases bad with above | zero
      · rw [tileOf, dif_neg (by omega)]
        rfl
      · simp only [zero, if_true, Option.bind_fun_none]
    exact exec_of_effect ((serve_some waiting).trans (fetchRun_bad master unread))
  · have carried : parseRun req.body = some (⟨t, by omega⟩, min n 6) := by
      rw [read, tileOf, dif_pos (show t < 504 by omega)]
      exact if_neg some_tiles
    have reached := exec_of_effect (c := .fetchRun .panel) ((serve_some waiting).trans (fetchRun_taken master carried))
    have length := length_runTiles ⟨t, by omega⟩ (min n 6)
    refine ⟨_, { req := req, first := ⟨t, by omega⟩, count := min n 6, todo := runTiles ⟨t, by omega⟩ (min n 6), done := [] },
      reached, ?_, rfl, rfl, rfl, rfl, length, runTiles_nodup _ (Nat.min_le_right n 6), fun k below => ?_, fun x => ?_, ?_,
      ?_, ?_, fun free => ?_, fun o busy => ?_⟩
    · conv_lhs => rw [presentSnapshot_eq]
      rw [presentSnapshot_eq]
      rfl
    · rw [runTiles_val, List.getElem?_map, List.getElem?_range below]
      rfl
    · rw [presentSnapshot_eq]
      exact dirOf_awaitTiles _ x (withoutRequest req s)
    · rw [presentSnapshot_eq]
      rfl
    · rw [presentSnapshot_eq]
      rfl
    · rw [presentSnapshot_eq]
      rfl
    · cases tiles : runTiles ⟨t, by omega⟩ (min n 6) with
      | nil =>
        rw [tiles, List.length_nil] at length
        omega
      | cons x rest =>
        exact ⟨x, rest, rfl, presentSnapshot_first (more := rest) free rfl rfl⟩
    · exact presentSnapshot_busy busy

/-! ## Notices and PANEL_HELLO (R121 to R123, R130, R133) -/

theorem markChanged_current {t : TileNo} {s : State} (current : dirOf t s = .current) :
    markChanged t s = appendNotice t (setDir t .stale s) := by
  simp only [markChanged, current]

theorem appendNotice_overflowed {t : TileNo} {s : State} (flag : s.pcd.overflow = true) : appendNotice t s = s :=
  if_pos (by rw [flag, Bool.true_or])

/-- A tile that is not queued is judged by the room, with the overflow flag clear (R122). -/
theorem not_queued {t : TileNo} {s : State} (clear : s.pcd.overflow = false) (absent : t ∉ s.pcd.notices) :
    ¬(s.pcd.overflow || s.pcd.notices.contains t) = true := by
  rw [clear, Bool.false_or, List.contains_iff_mem]
  exact absent

theorem appendNotice_room {t : TileNo} {s : State} (clear : s.pcd.overflow = false) (absent : t ∉ s.pcd.notices)
    (room : s.pcd.notices.length < 32) :
    appendNotice t s = s.setPcd { s.pcd with notices := s.pcd.notices ++ [t] } :=
  (if_neg (not_queued clear absent)).trans (if_neg (Nat.not_le.2 room))

theorem appendNotice_full {t : TileNo} {s : State} (clear : s.pcd.overflow = false) (absent : t ∉ s.pcd.notices)
    (full : 32 ≤ s.pcd.notices.length) :
    appendNotice t s = raise .noticeOverflow (s.setPcd { s.pcd with notices := [], overflow := true }) :=
  (if_neg (not_queued clear absent)).trans (if_pos full)

theorem readNotices_queued {req : Request} {s : State} (master : req.master = .panel) (empty : req.body = [])
    (clear : s.pcd.overflow = false) :
    readNotices req s = reply req .ok (.notices (s.pcd.notices.take 8) (s.pcd.notices.length - 8))
      (s.setPcd { s.pcd with notices := s.pcd.notices.drop 8 }) := by
  unfold readNotices
  rw [if_neg (by simp [master]), if_neg (by simp [noArguments_nil empty]), if_neg (by simp [clear])]
  dsimp only
  rw [List.length_drop]

theorem readNotices_resync {req : Request} {s : State} (master : req.master = .panel) (empty : req.body = [])
    (flag : s.pcd.overflow = true) : readNotices req s = reply req .ok .resync s := by
  unfold readNotices
  rw [if_neg (by simp [master]), if_neg (by simp [noArguments_nil empty]), if_pos flag]

/-- Settles O54. -/
theorem noticesAreKeptAndHelloResetsThePanel : Obligations.NoticesAreKeptAndHelloResetsThePanel := by
  refine ⟨fun s t current absent => ⟨fun clear room => ?_, fun clear full => ?_, fun flag => ?_⟩,
    fun s t => ⟨fun sending => ?_, fun notCurrent notSending => ?_⟩,
    fun s req empty => ⟨fun waiting => ⟨fun clear => ?_, fun flag => ?_⟩, fun waiting => ?_⟩⟩
  · rw [markChanged_current current, appendNotice_room (s := setDir t .stale s) clear absent room]
    rfl
  · rw [markChanged_current current, appendNotice_full (s := setDir t .stale s) clear absent full]
    rfl
  · rw [markChanged_current current, appendNotice_overflowed (s := setDir t .stale s) flag]
    rfl
  · simp only [markChanged, sending]
    rfl
  · unfold markChanged
    split
    next current => exact absurd current notCurrent
    next sending => exact absurd sending notSending
    all_goals rfl
  · obtain ⟨-, -, master⟩ := waitingRequest_spec waiting
    exact exec_of_effect ((serve_some waiting).trans (readNotices_queued master empty clear))
  · obtain ⟨-, -, master⟩ := waitingRequest_spec waiting
    exact exec_of_effect ((serve_some waiting).trans (readNotices_resync master empty flag))
  · obtain ⟨-, kind, master⟩ := waitingRequest_spec waiting
    refine exec_of_effect ((serve_some waiting).trans ?_)
    simp only [panelHello, noArguments_nil empty, reply, master, kind, countReply]
    exact routeReply_panel (s := resetPanelSide req (withoutRequest req s)) _ rfl

end Sys2Proof.Proofs.PanelRequests
end

section
/-! Key slots (R136 to R142, R165): what each key request and completion does. -/

namespace Sys2Proof.Proofs.KeySlots

open Sys2Proof Sys2Proof.Machine Sys2Proof.Proofs.Frames Sys2Proof.Proofs.Steps Sys2Proof.Proofs.Boot

/-! ## The checks of R137 -/

/-- A request that its role and the stage allow is judged by its slot's pending flag. -/
theorem keyDoor_slot {k : Kind} {i : Station} {req : Request} {s : State} (asked : lineRequest .keys k i req s)
    (slot : Fin 12) :
    keyDoor req (some slot) (withoutRequest req s) = if (slotAt slot s).pending then .error .busy else .ok slot := by
  obtain ⟨-, master, -, role, stage⟩ := lineRequest_spec asked
  rw [← master] at role
  simp only [keyDoor, role, stage]
  rfl

theorem keyDoor_open {k : Kind} {i : Station} {req : Request} {s : State} {slot : Fin 12}
    (asked : lineRequest .keys k i req s) (quiet : (slotAt slot s).pending = false) :
    keyDoor req (some slot) (withoutRequest req s) = .ok slot := by
  rw [keyDoor_slot asked, quiet]
  rfl

theorem keyDoor_busy {k : Kind} {i : Station} {req : Request} {s : State} {slot : Fin 12}
    (asked : lineRequest .keys k i req s) (pending : (slotAt slot s).pending = true) :
    keyDoor req (some slot) (withoutRequest req s) = .error .busy := by
  rw [keyDoor_slot asked, pending]
  rfl

theorem isStation_iff (i j : Station) : isStation (.station i) j = true ↔ j = i := by
  rw [isStation, beq_iff_eq, Master.station.injEq]
  exact eq_comm

theorem isStation_eq_false {i j : Station} (other : j ≠ i) : isStation (.station i) j = false := by
  rw [← Bool.not_eq_true, isStation_iff]
  exact other

theorem slotAt_withoutRequest (k : Fin 12) (req : Request) (s : State) : slotAt k (withoutRequest req s) = slotAt k s := rfl

/-! ## LOAD_KEY (R138) -/

theorem loadKey_judged {i : Station} {req : Request} {s : State} {k : Fin 12} (asked : lineRequest .keys .loadKey i req s)
    (slot : parseLoadSlot req.body = some k) (quiet : (slotAt k s).pending = false) {st : Status}
    (refused : loadRefusal (.station i) (slotAt k s) = some st) :
    exec (.loadKey (.station i)) s = .next (refuse req st (withoutRequest req s)) := by
  obtain ⟨waiting, master, -⟩ := lineRequest_spec asked
  refine exec_of_effect ((serve_some waiting).trans ?_)
  simp only [loadKey, slot, keyDoor_open asked quiet, master, slotAt_withoutRequest, refused]

theorem loadKey_loaded {i : Station} {req : Request} {s : State} {k : Fin 12} {cls : KeyClass} {material : List Byte}
    (asked : lineRequest .keys .loadKey i req s) (slot : parseLoadSlot req.body = some k)
    (quiet : (slotAt k s).pending = false) (admitted : loadRefusal (.station i) (slotAt k s) = none)
    (carried : parseKey req.body = some (cls, material)) :
    exec (.loadKey (.station i)) s = .next (loadSlot req k cls material i (withoutRequest req s)) := by
  obtain ⟨waiting, master, -⟩ := lineRequest_spec asked
  refine exec_of_effect ((serve_some waiting).trans ?_)
  simp only [loadKey, slot, keyDoor_open asked quiet, master, slotAt_withoutRequest, admitted, carried]

/-! ## FIX_KEY and ERASE_KEY (R139, R140) -/

/-- A FIX_KEY that its slot's pending flag lets through is judged by the slot's state. -/
theorem fixKey_judged {i : Station} {req : Request} {s : State} {k : Fin 12} (asked : lineRequest .keys .fixKey i req s)
    (slot : parseSlotOnly req.body = some k) (quiet : (slotAt k s).pending = false) :
    ((slotAt k s).state = .empty ∨ (∃ key, (slotAt k s).state = .fixed key) →
      exec (.fixKey (.station i)) s = .next (refuse req .refusedState (withoutRequest req s))) ∧
    ∀ key, (slotAt k s).state = .loaded key →
      (key.loader ≠ i → exec (.fixKey (.station i)) s = .next (refuse req .refusedOrigin (withoutRequest req s))) ∧
      (key.loader = i →
        exec (.fixKey (.station i)) s = .next (presentProgram (.keyFix req k key)
          (setSlot k { slotAt k s with pending := true } (withoutRequest req s)))) := by
  obtain ⟨waiting, master, -⟩ := lineRequest_spec asked
  refine ⟨fun state => exec_of_effect ((serve_some waiting).trans ?_), fun key loaded =>
    ⟨fun other => exec_of_effect ((serve_some waiting).trans ?_), fun own =>
      exec_of_effect ((serve_some waiting).trans ?_)⟩⟩
  · rcases state with empty | ⟨key, fixed⟩
    · simp only [fixKey, slot, keyDoor_open asked quiet, slotAt_withoutRequest, empty]
    · simp only [fixKey, slot, keyDoor_open asked quiet, slotAt_withoutRequest, fixed]
  · simp only [fixKey, slot, keyDoor_open asked quiet, slotAt_withoutRequest, loaded, master, isStation_eq_false other]
    rfl
  · simp only [fixKey, slot, keyDoor_open asked quiet, slotAt_withoutRequest, loaded, master, (isStation_iff i _).2 own,
      if_true]

/-- An ERASE_KEY that its slot's pending flag lets through is judged by the slot's state. -/
theorem eraseKey_judged {i : Station} {req : Request} {s : State} {k : Fin 12}
    (asked : lineRequest .keys .eraseKey i req s) (slot : parseSlotOnly req.body = some k)
    (quiet : (slotAt k s).pending = false) :
    ((slotAt k s).state = .empty →
      exec (.eraseKey (.station i)) s = .next (refuse req .refusedState (withoutRequest req s))) ∧
    (∀ key, (slotAt k s).state = .loaded key →
      (key.loader ≠ i → exec (.eraseKey (.station i)) s = .next (refuse req .refusedOrigin (withoutRequest req s))) ∧
      (key.loader = i →
        exec (.eraseKey (.station i)) s =
          .next (reply req .ok .empty (setSlot k { slotAt k s with state := .empty } (withoutRequest req s))))) ∧
    ∀ key, (slotAt k s).state = .fixed key →
      (s.srb.stage.stage ≠ .rework →
        exec (.eraseKey (.station i)) s = .next (refuse req .refusedStage (withoutRequest req s))) ∧
      (s.srb.stage.stage = .rework →
        exec (.eraseKey (.station i)) s = .next (presentProgram (.keyErase req k)
          (setSlot k { slotAt k s with pending := true } (withoutRequest req s)))) := by
  obtain ⟨waiting, master, -⟩ := lineRequest_spec asked
  refine ⟨fun empty => exec_of_effect ((serve_some waiting).trans ?_), fun key loaded =>
    ⟨fun other => exec_of_effect ((serve_some waiting).trans ?_), fun own =>
      exec_of_effect ((serve_some waiting).trans ?_)⟩, fun key fixed =>
    ⟨fun outside => exec_of_effect ((serve_some waiting).trans ?_), fun inside =>
      exec_of_effect ((serve_some waiting).trans ?_)⟩⟩
  · simp only [eraseKey, slot, keyDoor_open asked quiet, slotAt_withoutRequest, empty]
  · simp only [eraseKey, slot, keyDoor_open asked quiet, slotAt_withoutRequest, loaded, master, isStation_eq_false other]
    rfl
  · simp only [eraseKey, slot, keyDoor_open asked quiet, slotAt_withoutRequest, loaded, master,
      (isStation_iff i _).2 own, if_true]
  · simp only [eraseKey, slot, keyDoor_open asked quiet, slotAt_withoutRequest, fixed]
    exact if_neg outside
  · simp only [eraseKey, slot, keyDoor_open asked quiet, slotAt_withoutRequest, fixed]
    exact if_pos inside

/-! ## RELEASE_KEY (R142) -/

theorem closedStage_admits {req : Request} {s : State} (closed : s.srb.stage.stage = .closed)
    (noReopen : s.srb.stage.program ≠ .reopening) : stageAdmits closedStage (withoutRequest req s) = true := by
  change stageAdmits closedStage s = true
  simp only [stageAdmits, closed]
  cases program : s.srb.stage.program with
  | none => rfl
  | closing => rfl
  | reopening => exact absurd program noReopen

/-- Settles O55. -/
theorem keysAreLoadedFixedErasedAndReleased : Obligations.KeysAreLoadedFixedErasedAndReleased := by
  intro s k key
  refine ⟨fun i req quiet => ⟨fun cls material asked slot carried state => ?_, fun asked slot loaded own => ?_,
    fun asked slot => ⟨fun loaded own => ?_, fun fixed rework => ?_⟩⟩, fun req q verified => ⟨fun flash => ?_, fun flash => ?_⟩,
    fun req waiting slot closed noReopen fixed cls => ?_⟩
  · have admitted : loadRefusal (.station i) (slotAt k s) = none := by
      rcases state with empty | ⟨loaded, own⟩
      · simp only [loadRefusal, empty]
      · simp only [loadRefusal, loaded, (isStation_iff i _).2 own, if_true]
    refine (loadKey_loaded asked slot quiet admitted carried).trans ?_
    rw [← quiet]
    rfl
  · exact ((fixKey_judged asked slot quiet).2 key loaded).2 own
  · exact ((eraseKey_judged asked slot quiet).2.1 key loaded).2 own
  · exact ((eraseKey_judged asked slot quiet).2.2 key fixed).2 rework
  · refine ⟨_, exec_of_effect ?_, rfl⟩
    simp only [effect_keyFixComplete, keyFixComplete, flash]
    cases verified <;> rfl
  · refine ⟨_, exec_of_effect ?_, rfl⟩
    simp only [effect_keyEraseComplete, keyEraseComplete, flash]
    cases verified <;> rfl
  · obtain ⟨-, -, master⟩ := waitingRequest_spec waiting
    have origin : (req.master != .system) = false := by rw [master]; rfl
    have released : releasable key.cls = true := by rcases cls with same | same <;> rw [same] <;> rfl
    refine exec_of_effect ((serve_some waiting).trans ?_)
    simp only [releaseKey, origin, slot, closedStage_admits closed noReopen, slotAt_withoutRequest, fixed, released]
    rfl

end Sys2Proof.Proofs.KeySlots
end

section
/-! The region and label records, the commissioning stage and the system side (R146 to R151, R159 to R163, R178, R184 to
R189). -/

namespace Sys2Proof.Proofs.SetRecords

open Sys2Proof Sys2Proof.Machine Sys2Proof.Proofs.Frames Sys2Proof.Proofs.Steps Sys2Proof.Proofs.Boot
open Sys2Proof.Proofs.PanelRequests

/-! ## The region and label records (R146 to R151) -/

/-- The checks of a WRITE_REGION before its reservation is judged (R148). -/
structure RegionWrite (m : Master) (req : Request) (c : RegionFields) (s : State) : Prop where
  waiting : waitingRequest .writeRegion m s = some req
  origin : recordsOrSystem m s = true
  stage : m = .system ∨ stageAdmits lineStage s = true
  carried : parseRegion req.body = some c

/-- The checks of a WRITE_LABEL before its reservation is judged (R148). -/
structure LabelWrite (m : Master) (req : Request) (c : LabelFields) (s : State) : Prop where
  waiting : waitingRequest .writeLabel m s = some req
  origin : recordsOrSystem m s = true
  stage : stageAdmits lineStage s = true
  carried : parseLabel req.body = some c

theorem reservationHolds_iff (m : Master) (t : Target) (v : BitVec 16) (s : State) :
    reservationHolds m t v s = true ↔ reservationOf m s = some (t, v) :=
  beq_iff_eq

/-- An admitted WRITE_REGION is judged by its reservation, then by the record's pending flag (R148, R149). -/
theorem writeRegion_judged {m : Master} {req : Request} {c : RegionFields} {s : State} (write : RegionWrite m req c s) :
    (reservationOf m s ≠ some (.region, s.srb.region.version) →
      exec (.writeRegion m) s = .next (refuse req .reservationLost (setReservation m none (withoutRequest req s)))) ∧
    (reservationOf m s = some (.region, s.srb.region.version) →
      (s.srb.region.pending = true → exec (.writeRegion m) s = .next (refuse req .busy (withoutRequest req s))) ∧
      (s.srb.region.pending = false →
        exec (.writeRegion m) s = .next (presentProgram (.region req c (s.srb.region.version + 1))
          (setRegion { s.srb.region with pending := true } (withoutRequest req s))))) := by
  obtain ⟨waiting, origin, stage, carried⟩ := write
  obtain ⟨-, -, master⟩ := waitingRequest_spec waiting
  have admitted : regionStage m s = true := by
    rw [regionStage, Bool.or_eq_true, beq_iff_eq]
    exact stage
  have served : exec (.writeRegion m) s = .next
      (if !reservationHolds m .region s.srb.region.version s then loseReservation req (withoutRequest req s)
       else if s.srb.region.pending then refuse req .busy (withoutRequest req s)
       else presentProgram (.region req c (s.srb.region.version + 1))
        (setRegion { s.srb.region with pending := true } (withoutRequest req s))) := by
    have origin' : recordsOrSystem m (withoutRequest req s) = true := origin
    have admitted' : regionStage m (withoutRequest req s) = true := admitted
    refine exec_of_effect ((serve_some waiting).trans ?_)
    simp only [writeRegion, master, origin', admitted', carried]
    rfl
  refine ⟨fun lost => served.trans (congrArg _ ?_), fun held => ⟨fun pending => served.trans (congrArg _ ?_),
    fun quiet => served.trans (congrArg _ ?_)⟩⟩
  · have differs : reservationHolds m .region s.srb.region.version s = false :=
      Bool.eq_false_iff.2 fun same => lost ((reservationHolds_iff ..).1 same)
    rw [differs, loseReservation, master]
    rfl
  · rw [(reservationHolds_iff ..).2 held, pending]
    rfl
  · rw [(reservationHolds_iff ..).2 held, quiet]
    rfl

/-- An admitted WRITE_LABEL is judged by its reservation, then by the record's pending flag (R148, R149). -/
theorem writeLabel_judged {m : Master} {req : Request} {c : LabelFields} {s : State} (write : LabelWrite m req c s) :
    (reservationOf m s ≠ some (.label, s.srb.label.version) →
      exec (.writeLabel m) s = .next (refuse req .reservationLost (setReservation m none (withoutRequest req s)))) ∧
    (reservationOf m s = some (.label, s.srb.label.version) →
      (s.srb.label.pending = true → exec (.writeLabel m) s = .next (refuse req .busy (withoutRequest req s))) ∧
      (s.srb.label.pending = false →
        exec (.writeLabel m) s = .next (presentProgram (.label req c (s.srb.label.version + 1))
          (setLabel { s.srb.label with pending := true } (withoutRequest req s))))) := by
  obtain ⟨waiting, origin, stage, carried⟩ := write
  obtain ⟨-, -, master⟩ := waitingRequest_spec waiting
  have served : exec (.writeLabel m) s = .next
      (if !reservationHolds m .label s.srb.label.version s then loseReservation req (withoutRequest req s)
       else if s.srb.label.pending then refuse req .busy (withoutRequest req s)
       else presentProgram (.label req c (s.srb.label.version + 1))
        (setLabel { s.srb.label with pending := true } (withoutRequest req s))) := by
    have origin' : recordsOrSystem m (withoutRequest req s) = true := origin
    have stage' : stageAdmits lineStage (withoutRequest req s) = true := stage
    refine exec_of_effect ((serve_some waiting).trans ?_)
    simp only [writeLabel, master, origin', stage', carried]
    rfl
  refine ⟨fun lost => served.trans (congrArg _ ?_), fun held => ⟨fun pending => served.trans (congrArg _ ?_),
    fun quiet => served.trans (congrArg _ ?_)⟩⟩
  · have differs : reservationHolds m .label s.srb.label.version s = false :=
      Bool.eq_false_iff.2 fun same => lost ((reservationHolds_iff ..).1 same)
    rw [differs, loseReservation, master]
    rfl
  · rw [(reservationHolds_iff ..).2 held, pending]
    rfl
  · rw [(reservationHolds_iff ..).2 held, quiet]
    rfl

/-- Settles O56. -/
theorem recordsAreReadAndWritten : Obligations.RecordsAreReadAndWritten := by
  intro s m req
  refine ⟨fun flag carried => ⟨fun waiting => ?_, fun waiting => ?_⟩, fun c waiting origin stage carried => ?_,
    fun c waiting origin stage carried => ?_, fun c v q flash => ⟨?_, ?_⟩, fun c v q flash => ⟨?_, ?_⟩⟩
  · obtain ⟨-, -, master⟩ := waitingRequest_spec waiting
    refine exec_of_effect ((serve_some waiting).trans ?_)
    simp only [readRegion, carried, master]
    rfl
  · obtain ⟨-, -, master⟩ := waitingRequest_spec waiting
    refine exec_of_effect ((serve_some waiting).trans ?_)
    simp only [readLabel, carried, master]
    rfl
  · obtain ⟨lost, held⟩ := writeRegion_judged ⟨waiting, origin, stage, carried⟩
    exact ⟨fun reserved => (held reserved).2, lost⟩
  · obtain ⟨lost, held⟩ := writeLabel_judged ⟨waiting, origin, stage, carried⟩
    exact ⟨fun reserved => (held reserved).2, lost⟩
  · refine ⟨clearTarget .region (setRegion (writtenRecord c s.srb.region)
      (setRegionHome (.holds { content := c, version := v, seq := q }) s)), exec_of_effect ?_, rfl,
      fun i => Vector.getElem_ofFn i.isLt⟩
    simp only [effect_recordWriteComplete, recordWriteComplete, flash]
    rfl
  · refine exec_of_effect ?_
    simp only [effect_recordWriteComplete, recordWriteComplete, flash]
    rfl
  · refine ⟨clearTarget .label (setLabel (writtenRecord c s.srb.label)
      (setLabelHome (.holds { content := c, version := v, seq := q }) s)), exec_of_effect ?_, rfl,
      fun i => Vector.getElem_ofFn i.isLt⟩
    simp only [effect_recordWriteComplete, recordWriteComplete, flash]
    rfl
  · refine exec_of_effect ?_
    simp only [effect_recordWriteComplete, recordWriteComplete, flash]
    rfl

/-! ## The commissioning stage (R159, R160, R163) -/

/-- A CLOSE_SET of a STAGE station, with no argument, in OPEN or REWORK is judged by what is in flight, then by the
items (R159). -/
theorem closeSet_judged {i : Station} {req : Request} {s : State} (waiting : waitingRequest .closeSet (.station i) s = some req)
    (role : s.config.roles[i].stage = true) (empty : req.body = []) (stage : s.srb.stage.stage ≠ .closed) :
    exec (.closeSet (.station i)) s = .next
      (if s.srb.stage.program ≠ .none then refuse req .busy (withoutRequest req s)
       else if mapBusy (withoutRequest req s) then refuse req .busy (withoutRequest req s)
       else if (missingItems s).isEmpty then takeClose req (withoutRequest req s)
       else reply req .notReady (.missing (missingItems s)) (withoutRequest req s)) := by
  obtain ⟨-, -, master⟩ := waitingRequest_spec waiting
  have origin : stationWith .stage req.master (withoutRequest req s) = true := by
    rw [master]
    exact role
  have open_ : lineStage (withoutRequest req s).srb.stage.stage = true := by
    change lineStage s.srb.stage.stage = true
    cases live : s.srb.stage.stage with
    | opened => rfl
    | rework => rfl
    | closed => exact absurd live stage
  refine exec_of_effect ((serve_some waiting).trans ?_)
  simp only [closeSet, origin, open_, noArguments_nil empty]
  rfl

/-- A REOPEN_SET of a STAGE station, with no argument, in CLOSED is judged by what is in flight, then by the limit
(R163). -/
theorem reopenSet_judged {i : Station} {req : Request} {s : State}
    (waiting : waitingRequest .reopenSet (.station i) s = some req) (role : s.config.roles[i].stage = true)
    (empty : req.body = []) (stage : s.srb.stage.stage = .closed) :
    exec (.reopenSet (.station i)) s = .next
      (if s.srb.stage.program ≠ .none then refuse req .busy (withoutRequest req s)
       else if s.config.reopenLimit ≤ s.srb.stage.reopenCount then refuse req .refusedLimit (withoutRequest req s)
       else takeReopen req (withoutRequest req s)) := by
  obtain ⟨-, -, master⟩ := waitingRequest_spec waiting
  have origin : stationWith .stage req.master (withoutRequest req s) = true := by
    rw [master]
    exact role
  have closed : closedStage (withoutRequest req s).srb.stage.stage = true := by
    change closedStage s.srb.stage.stage = true
    rw [stage]
    rfl
  refine exec_of_effect ((serve_some waiting).trans ?_)
  simp only [reopenSet, origin, closed, noArguments_nil empty]
  rfl

theorem mapBusy_iff (s : State) : mapBusy s = true ↔ s.jobs.running.isSome = true ∨ writeTaken s = true := by
  rw [mapBusy, Bool.or_eq_true]

/-- Settles O57. -/
theorem setsAreClosedAndReopened : Obligations.SetsAreClosedAndReopened := by
  intro s req
  refine ⟨fun i role empty quiet => ⟨fun waiting stage noJob noWrite => ?_, fun waiting closed => ?_⟩,
    fun c r q => ⟨fun flash => ⟨exec_of_effect ?_, exec_of_effect ?_⟩, fun flash => ⟨exec_of_effect ?_, exec_of_effect ?_⟩⟩⟩
  · have free : ¬mapBusy (withoutRequest req s) = true := by
      rw [mapBusy_iff, noWrite]
      change ¬(s.jobs.running.isSome = true ∨ false = true)
      rw [noJob]
      simp
    have judged := closeSet_judged waiting role empty stage
    rw [if_neg (not_not.2 quiet), if_neg free] at judged
    refine ⟨fun complete => judged.trans (congrArg _ ?_), fun missing => judged.trans (congrArg _ ?_)⟩
    · rw [complete]
      rfl
    · exact if_neg fun none_missing => missing (List.isEmpty_iff.1 none_missing)
  · have judged := reopenSet_judged waiting role empty closed
    rw [if_neg (not_not.2 quiet)] at judged
    exact ⟨fun below => judged.trans (congrArg _ (if_neg (Nat.not_le.2 below))),
      fun reached => judged.trans (congrArg _ (if_pos reached))⟩
  all_goals
    simp only [effect_closeProgramComplete, closeProgramComplete, effect_reopenProgramComplete, reopenProgramComplete, flash]
    rfl

end Sys2Proof.Proofs.SetRecords
end

section
/-! The system side: events, LINK_RESUME, counters and the configuration (R178, R184, R185, R187, R189). -/

namespace Sys2Proof.Proofs.SystemSide

open Sys2Proof Sys2Proof.Machine Sys2Proof.Proofs.Frames Sys2Proof.Proofs.Steps Sys2Proof.Proofs.Boot
open Sys2Proof.Proofs.PanelRequests

theorem flagSet_raise_iff (f e : Event) (s : State) : flagSet f (raise e s) = true ↔ flagSet f s = true ∨ f = e := by
  rw [flagSet_raise, Bool.or_eq_true, decide_eq_true_iff]
  exact or_comm

theorem resumeLink_eq (s : State) :
    resumeLink s =
      { (if s.fxl.link = .silent then raise .linkReleased s else s) with
        fxl := { s.fxl with lec := 0, link := .normal, release := 0 } } := by
  unfold resumeLink
  dsimp only
  split <;> rfl

theorem system_asked {k : Kind} {req : Request} {s : State} (waiting : waitingRequest k .system s = some req) :
    (req.master != .system) = false := by
  obtain ⟨-, -, master⟩ := waitingRequest_spec waiting
  rw [master]
  rfl

/-- The counters that a selector names. -/
theorem selects_iff (sel : CounterSelect) (i : Fin 24) :
    selects sel i = true ↔
      match sel with
      | .master m => i.val / 4 = m.val
      | .counter j => i = j := by
  cases sel <;> simp [selects]

theorem clearSelected_counter (sel : CounterSelect) (c : Mct) (i : Fin 24) :
    (clearSelected sel c).counter[i] = (if selects sel i then 0 else c.counter[i]) ∧
      (clearSelected sel c).wrap[i] = if selects sel i then false else c.wrap[i] :=
  ⟨Vector.getElem_ofFn i.isLt, Vector.getElem_ofFn i.isLt⟩

theorem openStage_admits {s : State} (opened : s.srb.stage.stage = .opened) (quiet : s.srb.stage.program = .none) :
    stageAdmits openStage s = true := by
  simp only [stageAdmits, opened, quiet]
  rfl

/-- Settles O58. -/
theorem theSystemSideIsServed : Obligations.TheSystemSideIsServed := by
  intro s req
  refine ⟨fun e => ⟨rfl, fun f => flagSet_raise_iff f e s⟩, fun waiting empty => ?_,
    fun bits carried => ⟨fun waiting => ?_, fun waiting => ?_⟩, fun sel waiting carried => ?_,
    fun c waiting opened quiet carried => ?_, fun c q flash => ⟨exec_of_effect ?_, exec_of_effect ?_⟩⟩
  · refine exec_of_effect ((serve_some waiting).trans ?_)
    simp only [linkResume, system_asked waiting, noArguments_nil empty, resumeLink_eq]
    rfl
  · refine exec_of_effect ((serve_some waiting).trans ?_)
    simp only [ackEvents, system_asked waiting, carried]
    rfl
  · refine exec_of_effect ((serve_some waiting).trans ?_)
    simp only [setEventMask, system_asked waiting, carried]
    rfl
  · refine ⟨clearSelected sel s.mct, exec_of_effect ((serve_some waiting).trans ?_), fun i => ?_⟩
    · simp only [clearCounters, system_asked waiting, carried]
      rfl
    · obtain ⟨counter, wrap⟩ := clearSelected_counter sel s.mct i
      have named_iff := selects_iff sel i
      refine ⟨fun named => ?_, fun other => ?_⟩
      · rw [counter, wrap, named_iff.2 named]
        exact ⟨rfl, rfl⟩
      · rw [counter, wrap, Bool.eq_false_iff.2 fun named => other (named_iff.1 named)]
        exact ⟨rfl, rfl⟩
  · have admitted : stageAdmits openStage (withoutRequest req s) = true :=
      openStage_admits (s := withoutRequest req s) opened quiet
    refine exec_of_effect ((serve_some waiting).trans ?_)
    simp only [writeConfig, system_asked waiting, admitted, carried]
    rfl
  all_goals
    simp only [effect_configProgramComplete, configProgramComplete, flash]
    rfl

end Sys2Proof.Proofs.SystemSide
end

section
/-! The refusals by origin, role and stage (the catalogue's masters, R48, R89 to R92, R119, R137, R148, R159, R163, R165). -/

namespace Sys2Proof.Proofs.OriginAndStage

open Sys2Proof Sys2Proof.Machine Sys2Proof.Proofs.Frames Sys2Proof.Proofs.Steps Sys2Proof.Proofs.Boot
open Sys2Proof.Proofs.KeySlots

/-- What the owning block of a kind does with a request. -/
def service : Kind → Request → State → State
  | .openCapture => openCapture
  | .putRow => putRow
  | .discardCapture => discardCapture
  | .captureState => captureState
  | .submitJob => submitJob
  | .readBox => readBox
  | .holdBox => holdBox
  | .editBox => editBox
  | .releaseBox => releaseBox
  | .cancelJob => cancelJob
  | .freeBox => freeBox
  | .readTile => readTile
  | .writeTile => writeTile
  | .lockWays => lockWays
  | .drain => drain
  | .panelHello => panelHello
  | .fetchRun => fetchRun
  | .readNotices => readNotices
  | .nextStale => nextStale
  | .readProfile => readProfile
  | .loadKey => loadKey
  | .fixKey => fixKey
  | .eraseKey => eraseKey
  | .checkKey => checkKey
  | .releaseKey => releaseKey
  | .readRegion => readRegion
  | .readLabel => readLabel
  | .writeRegion => writeRegion
  | .writeLabel => writeLabel
  | .stageQuery => stageQuery
  | .closeSet => closeSet
  | .reopenSet => reopenSet
  | .linkResume => linkResume
  | .ackEvents => ackEvents
  | .setEventMask => setEventMask
  | .readCounters => readCounters
  | .clearCounters => clearCounters
  | .writeConfig => writeConfig

/-- The command of a kind serves its waiting request by the kind's block. -/
theorem exec_commandOf {k : Kind} {m : Master} {req : Request} {s : State} (waiting : waitingRequest k m s = some req) :
    exec (commandOf k m) s = .next (service k req (withoutRequest req s)) := by
  refine exec_of_effect (Eq.trans ?_ (serve_some waiting))
  cases k <;> rfl

/-! ## The doors of the job table and of the key slots -/

theorem jobDoor_origin {req : Request} {s : State} (h : stationWith .map req.master s = false) :
    jobDoor req s = some .refusedOrigin :=
  if_pos (by rw [h]; rfl)

theorem jobDoor_stage {req : Request} {s : State} (role : stationWith .map req.master s = true)
    (h : stageAdmits lineStage s = false) : jobDoor req s = some .refusedStage :=
  (if_neg (by rw [role]; exact Bool.false_ne_true)).trans (if_pos (by rw [h]; rfl))

theorem keyDoor_origin {req : Request} {s : State} (slot : Option (Fin 12)) (h : stationWith .keys req.master s = false) :
    keyDoor req slot s = .error .refusedOrigin :=
  if_pos (by rw [h]; rfl)

theorem keyDoor_stage {req : Request} {s : State} (slot : Option (Fin 12)) (role : stationWith .keys req.master s = true)
    (h : stageAdmits lineStage s = false) : keyDoor req slot s = .error .refusedStage :=
  (if_neg (by rw [role]; exact Bool.false_ne_true)).trans (if_pos (by rw [h]; rfl))

theorem notPanel_eq (m : Master) : notPanel m = (m != .panel) := by
  cases m <;> rfl

/-- A failed first check refuses. -/
theorem refuses_first {α : Type} {check : Bool} {refused rest : α} (h : check = false) :
    (if !check then refused else rest) = refused :=
  if_pos (by rw [h]; rfl)

/-- A failed second check refuses. -/
theorem refuses_second {α : Type} {first second : Bool} {origin refused rest : α} (h1 : first = true) (h2 : second = false) :
    (if !first then origin else if !second then refused else rest) = refused :=
  (if_neg (by rw [h1]; exact Bool.false_ne_true)).trans (refuses_first h2)

/-! ## The refusals -/

/-- A request that the catalogue does not allow from its master is refused by the block's first check. -/
theorem service_origin {k : Kind} {req : Request} {s : State} (h : mayAsk k req.master s = false) :
    service k req s = refuse req .refusedOrigin s := by
  cases k with
  | submitJob => simp only [service, submitJob, jobDoor_origin h]
  | holdBox => simp only [service, holdBox, jobDoor_origin h]
  | editBox => simp only [service, editBox, jobDoor_origin h]
  | releaseBox => simp only [service, releaseBox, jobDoor_origin h]
  | cancelJob => simp only [service, cancelJob, jobDoor_origin h]
  | freeBox => simp only [service, freeBox, jobDoor_origin h]
  | loadKey => simp only [service, loadKey, keyDoor_origin _ h]
  | fixKey => simp only [service, fixKey, keyDoor_origin _ h]
  | eraseKey => simp only [service, eraseKey, keyDoor_origin _ h]
  | readTile => exact refuses_first ((notPanel_eq req.master).trans h)
  | captureState | readBox | readProfile | checkKey | readRegion | readLabel | stageQuery | readCounters => cases h
  | openCapture | putRow | discardCapture | writeTile | lockWays | drain | panelHello | fetchRun | readNotices | nextStale
  | releaseKey | writeRegion | writeLabel | closeSet | reopenSet | linkResume | ackEvents | setEventMask | clearCounters
  | writeConfig => exact refuses_first h

/-- A request that the stage does not allow is refused by the block's second check. -/
theorem service_stage {k : Kind} {req : Request} {s : State} (asks : mayAsk k req.master s = true)
    (h : stageOpenTo k req.master s = false) (slot : k = .releaseKey → (parseSlotOnly req.body).isSome = true) :
    service k req s = refuse req .refusedStage s := by
  cases k with
  | submitJob => simp only [service, submitJob, jobDoor_stage asks h]
  | holdBox => simp only [service, holdBox, jobDoor_stage asks h]
  | editBox => simp only [service, editBox, jobDoor_stage asks h]
  | releaseBox => simp only [service, releaseBox, jobDoor_stage asks h]
  | cancelJob => simp only [service, cancelJob, jobDoor_stage asks h]
  | freeBox => simp only [service, freeBox, jobDoor_stage asks h]
  | loadKey => simp only [service, loadKey, keyDoor_stage _ asks h]
  | fixKey => simp only [service, fixKey, keyDoor_stage _ asks h]
  | eraseKey => simp only [service, eraseKey, keyDoor_stage _ asks h]
  | releaseKey =>
    obtain ⟨n, named⟩ := Option.isSome_iff_exists.1 (slot rfl)
    have closed : stageAdmits closedStage s = false := h
    have origin : (req.master != .system) = false := by
      rw [bne, show (req.master == .system) = true from asks]
      rfl
    simp only [service, releaseKey, origin, named, closed]
    rfl
  | captureState | readBox | readTile | drain | panelHello | fetchRun | readNotices | nextStale | readProfile | checkKey
  | readRegion | readLabel | stageQuery | linkResume | ackEvents | setEventMask | readCounters | clearCounters => cases h
  | openCapture | putRow | discardCapture | writeTile | lockWays | writeRegion | writeLabel | closeSet | reopenSet
  | writeConfig => exact refuses_second asks h

theorem mayAsk_withoutRequest (k : Kind) (m : Master) (req : Request) (s : State) :
    mayAsk k m (withoutRequest req s) = mayAsk k m s := by
  cases k <;> rfl

theorem stageOpenTo_withoutRequest (k : Kind) (m : Master) (req : Request) (s : State) :
    stageOpenTo k m (withoutRequest req s) = stageOpenTo k m s := by
  cases k <;> rfl

/-- Settles O59. -/
theorem requestsAreRefusedByOriginAndStage : Obligations.RequestsAreRefusedByOriginAndStage := by
  intro s k m req waiting
  obtain ⟨-, -, master⟩ := waitingRequest_spec waiting
  have served := exec_commandOf waiting
  refine ⟨fun barred => served.trans (congrArg _ (service_origin ?_)),
    fun asks shut slot => served.trans (congrArg _ (service_stage ?_ ?_ slot)),
    fun i slot key from_station erase asked named fixed quiet outside => ?_⟩
  · rw [master, mayAsk_withoutRequest]
    exact barred
  · rw [master, mayAsk_withoutRequest]
    exact asks
  · rw [master, stageOpenTo_withoutRequest]
    exact shut
  · exact ((eraseKey_judged asked named quiet).2.2 key fixed).1 outside

end Sys2Proof.Proofs.OriginAndStage
end

section
/-! The refusals by the state of the object that a request names (R32 to R40, R48 to R60, R137 to R142, R148, R159,
R163). -/

namespace Sys2Proof.Proofs.ObjectStates

open Sys2Proof Sys2Proof.Machine Sys2Proof.Proofs.Frames Sys2Proof.Proofs.Steps Sys2Proof.Proofs.Boot
open Sys2Proof.Proofs.KeySlots Sys2Proof.Proofs.SetRecords Sys2Proof.Proofs.JobTable Sys2Proof.Proofs.CaptureAndReads

/-! ## The capture (R32, R36, R40) -/

theorem captureRole {k : Kind} {i : Station} {req : Request} {s : State} (asked : lineRequest .capture k i req s) :
    stationWith .capture req.master (withoutRequest req s) = true := by
  obtain ⟨-, master, -, role, -⟩ := lineRequest_spec asked
  rw [master]
  exact role

theorem captureOwner {k : Kind} {i : Station} {req : Request} {s : State} (asked : lineRequest .capture k i req s)
    (owner : s.cap.owner = some i) : ownsCapture req.master (withoutRequest req s) = true := by
  obtain ⟨-, master, -⟩ := lineRequest_spec asked
  rw [master]
  exact ownsCapture_of_owner (s := withoutRequest req s) owner

theorem openCapture_locked {i : Station} {req : Request} {s : State} (asked : lineRequest .capture .openCapture i req s)
    (locked : s.cap.state = .locked) :
    exec (.openCapture (.station i)) s = .next (refuse req .busy (withoutRequest req s)) := by
  obtain ⟨waiting, -, -, -, stage⟩ := lineRequest_spec asked
  have locked' : (withoutRequest req s).cap.state = .locked := locked
  refine exec_of_effect ((serve_some waiting).trans ?_)
  simp only [openCapture, captureRole asked, stage, locked']
  rfl

theorem putRow_state {i : Station} {req : Request} {s : State} (asked : lineRequest .capture .putRow i req s)
    (owner : s.cap.owner = some i) :
    (s.cap.state = .locked → exec (.putRow (.station i)) s = .next (refuse req .busy (withoutRequest req s))) ∧
    (s.cap.state = .consumed → exec (.putRow (.station i)) s = .next (refuse req .refusedState (withoutRequest req s))) := by
  obtain ⟨waiting, -, -, -, stage⟩ := lineRequest_spec asked
  refine ⟨fun locked => exec_of_effect ((serve_some waiting).trans ?_), fun consumed =>
    exec_of_effect ((serve_some waiting).trans ?_)⟩
  · have locked' : (withoutRequest req s).cap.state = .locked := locked
    simp only [putRow, captureRole asked, captureOwner asked owner, stage, locked']
    rfl
  · have consumed' : (withoutRequest req s).cap.state = .consumed := consumed
    simp only [putRow, captureRole asked, captureOwner asked owner, stage, consumed']
    rfl

theorem discardCapture_locked {i : Station} {req : Request} {s : State}
    (asked : lineRequest .capture .discardCapture i req s) (owner : s.cap.owner = some i) (locked : s.cap.state = .locked) :
    exec (.discardCapture (.station i)) s = .next (refuse req .busy (withoutRequest req s)) := by
  obtain ⟨waiting, -, -, -, stage⟩ := lineRequest_spec asked
  have locked' : (withoutRequest req s).cap.state = .locked := locked
  refine exec_of_effect ((serve_some waiting).trans ?_)
  simp only [discardCapture, captureRole asked, captureOwner asked owner, stage, locked']
  rfl

/-! ## The job table (R48, R50, R54 to R60) -/

theorem highestFree_none {s : State} (full : ∀ b : Fin 16, (boxAt b s).isSome = true) : highestFree s = none := by
  refine List.find?_eq_none.2 fun b _ free => ?_
  rw [Option.isNone_iff_eq_none] at free
  have held := full b
  rw [free] at held
  cases held

theorem submitJob_noBox {i : Station} {req : Request} {s : State} (asked : lineRequest .map .submitJob i req s)
    (carried : (parseSubmit req.body).isSome = true)
    (none_free : 4 ≤ ownedBoxes i s ∨ ∀ b : Fin 16, (boxAt b s).isSome = true) :
    exec (.submitJob (.station i)) s = .next (refuse req .noBox (withoutRequest req s)) := by
  obtain ⟨waiting, master, -⟩ := lineRequest_spec asked
  obtain ⟨⟨k, a⟩, job⟩ := Option.isSome_iff_exists.1 carried
  refine exec_of_effect ((serve_some waiting).trans ?_)
  simp only [submitJob, jobDoor_open asked, job, master]
  split
  · rfl
  next few =>
    have full : highestFree (withoutRequest req s) = none :=
      highestFree_none (s := withoutRequest req s) (none_free.resolve_left few)
    simp only [full]

/-- A request that names a FREE box, or another station's, is refused (R48). -/
theorem ownBox_refused {i : Station} {req : Request} {s : State} {b : Fin 16} (master : req.master = .station i)
    (named : parseBoxOnly req.body = some b)
    (foreign : boxAt b s = none ∨ ∃ x, boxAt b s = some x ∧ x.owner ≠ i) : ownBox req s = .error .refusedOrigin := by
  rcases foreign with free | ⟨x, held, other⟩
  · simp only [ownBox, named, free]
  · have notOwn : ownsBox (.station i) x = false := Bool.eq_false_iff.2 fun own => other ((ownsBox_iff i x).1 own)
    simp only [ownBox, named, held, master, notOwn]
    rfl

/-- A box that a station does not hold is not held by it (R55, R56). -/
theorem holdsBox_eq_false {i : Station} {b : Fin 16} {s : State} (away : notHolding i b s) {x : Box}
    (held : boxAt b s = some x) : holdsBox (.station i) x = false := by
  rw [holdsBox, Bool.and_eq_false_iff]
  rcases away x held with free | other
  · exact .inl (by rw [free]; rfl)
  · exact .inr (Bool.eq_false_iff.2 fun own => other ((ownsBox_iff i x).1 own))

/-- The three requests that need a box of the requester's own (R48). -/
theorem ownBoxRequests_refused {i : Station} {req : Request} {s : State} {b : Fin 16}
    (named : parseBoxOnly req.body = some b)
    (foreign : boxAt b s = none ∨ ∃ x, boxAt b s = some x ∧ x.owner ≠ i) :
    (lineRequest .map .holdBox i req s →
      exec (.holdBox (.station i)) s = .next (refuse req .refusedOrigin (withoutRequest req s))) ∧
    (lineRequest .map .cancelJob i req s →
      exec (.cancelJob (.station i)) s = .next (refuse req .refusedOrigin (withoutRequest req s))) ∧
    (lineRequest .map .freeBox i req s →
      exec (.freeBox (.station i)) s = .next (refuse req .refusedOrigin (withoutRequest req s))) := by
  refine ⟨fun asked => ?_, fun asked => ?_, fun asked => ?_⟩
  all_goals
    obtain ⟨waiting, master, -⟩ := lineRequest_spec asked
    have refused := ownBox_refused (s := withoutRequest req s) master named foreign
    refine exec_of_effect ((serve_some waiting).trans ?_)
  · simp only [holdBox, jobDoor_open asked, refused]
  · simp only [cancelJob, jobDoor_open asked, refused]
  · simp only [freeBox, jobDoor_open asked, refused]

theorem holdBox_state {i : Station} {req : Request} {s : State} {b : Fin 16} {x : Box}
    (asked : lineRequest .map .holdBox i req s) (named : parseBoxOnly req.body = some b) (held : boxAt b s = some x)
    (owner : x.owner = i) :
    (x.state = .running → exec (.holdBox (.station i)) s = .next (refuse req .busy (withoutRequest req s))) ∧
    (x.state = .queued ∧ x.hold.isSome = true ∨ boxEnded x.state = true →
      exec (.holdBox (.station i)) s = .next (refuse req .refusedState (withoutRequest req s))) := by
  obtain ⟨waiting, master, -⟩ := lineRequest_spec asked
  have own := ownBox_eq (s := withoutRequest req s) master named held owner
  refine ⟨fun running => exec_of_effect ((serve_some waiting).trans ?_), fun settled =>
    exec_of_effect ((serve_some waiting).trans ?_)⟩
  · simp only [holdBox, jobDoor_open asked, own, running]
  · simp only [holdBox, jobDoor_open asked, own]
    rcases settled with ⟨queued, hold⟩ | ended
    · obtain ⟨d, deadline⟩ := Option.isSome_iff_exists.1 hold
      simp only [queued, deadline]
    · cases state : x.state with
      | queued | running =>
        rw [state] at ended
        cases ended
      | done | failed _ | cancelled => rfl

theorem cancelJob_ended {i : Station} {req : Request} {s : State} {b : Fin 16} {x : Box}
    (asked : lineRequest .map .cancelJob i req s) (named : parseBoxOnly req.body = some b) (held : boxAt b s = some x)
    (owner : x.owner = i) (ended : boxEnded x.state = true) :
    exec (.cancelJob (.station i)) s = .next (refuse req .refusedState (withoutRequest req s)) := by
  obtain ⟨waiting, master, -⟩ := lineRequest_spec asked
  have own := ownBox_eq (s := withoutRequest req s) master named held owner
  refine exec_of_effect ((serve_some waiting).trans ?_)
  simp only [cancelJob, jobDoor_open asked, own]
  cases state : x.state with
  | queued | running =>
    rw [state] at ended
    cases ended
  | done | failed _ | cancelled => rfl

theorem freeBox_notEnded {i : Station} {req : Request} {s : State} {b : Fin 16} {x : Box}
    (asked : lineRequest .map .freeBox i req s) (named : parseBoxOnly req.body = some b) (held : boxAt b s = some x)
    (owner : x.owner = i) (going : x.state = .queued ∨ x.state = .running) :
    exec (.freeBox (.station i)) s = .next (refuse req .refusedState (withoutRequest req s)) := by
  obtain ⟨waiting, master, -⟩ := lineRequest_spec asked
  have own := ownBox_eq (s := withoutRequest req s) master named held owner
  refine exec_of_effect ((serve_some waiting).trans ?_)
  simp only [freeBox, jobDoor_open asked, own]
  rcases going with state | state <;> rw [state] <;> rfl

theorem releaseBox_lost {i : Station} {req : Request} {s : State} {b : Fin 16}
    (asked : lineRequest .map .releaseBox i req s) (named : parseBoxOnly req.body = some b) (away : notHolding i b s) :
    exec (.releaseBox (.station i)) s = .next (refuse req .holdLost (withoutRequest req s)) := by
  obtain ⟨waiting, master, -⟩ := lineRequest_spec asked
  refine exec_of_effect ((serve_some waiting).trans ?_)
  cases held : boxAt b s with
  | none => simp only [releaseBox, jobDoor_open asked, named, boxAt_withoutRequest, held]
  | some x =>
    simp only [releaseBox, jobDoor_open asked, named, boxAt_withoutRequest, held, master, holdsBox_eq_false away held]
    rfl

theorem editBox_lost {i : Station} {req : Request} {s : State} {b : Fin 16} {bytes : Option (List Byte)}
    (asked : lineRequest .map .editBox i req s) (named : parseEdit req.body = some (b, bytes)) (away : notHolding i b s) :
    exec (.editBox (.station i)) s = .next (refuse req .holdLost (withoutRequest req s)) := by
  obtain ⟨waiting, master, -⟩ := lineRequest_spec asked
  refine exec_of_effect ((serve_some waiting).trans ?_)
  cases held : boxAt b s with
  | none => simp only [editBox, jobDoor_open asked, named, boxAt_withoutRequest, held]
  | some x =>
    simp only [editBox, jobDoor_open asked, named, boxAt_withoutRequest, held, master, holdsBox_eq_false away held]
    rfl

/-! ## The key slots (R137 to R142) -/

theorem loadKey_state {i : Station} {req : Request} {s : State} {k : Fin 12} (asked : lineRequest .keys .loadKey i req s)
    (slot : parseLoadSlot req.body = some k) :
    ((slotAt k s).pending = true → exec (.loadKey (.station i)) s = .next (refuse req .busy (withoutRequest req s))) ∧
    ((slotAt k s).pending = false →
      (∀ key : Key, (slotAt k s).state = .fixed key →
        exec (.loadKey (.station i)) s = .next (refuse req .refusedState (withoutRequest req s))) ∧
      ∀ key : Key, (slotAt k s).state = .loaded key → key.loader ≠ i →
        exec (.loadKey (.station i)) s = .next (refuse req .refusedOrigin (withoutRequest req s))) := by
  obtain ⟨waiting, -⟩ := lineRequest_spec asked
  refine ⟨fun pending => exec_of_effect ((serve_some waiting).trans ?_), fun quiet =>
    ⟨fun key fixed => loadKey_judged asked slot quiet ?_, fun key loaded other => loadKey_judged asked slot quiet ?_⟩⟩
  · simp only [loadKey, slot, keyDoor_busy asked pending]
  · simp only [loadRefusal, fixed]
  · simp only [loadRefusal, loaded, isStation_eq_false other]
    rfl

theorem fixKey_busy {i : Station} {req : Request} {s : State} {k : Fin 12} (asked : lineRequest .keys .fixKey i req s)
    (slot : parseSlotOnly req.body = some k) (pending : (slotAt k s).pending = true) :
    exec (.fixKey (.station i)) s = .next (refuse req .busy (withoutRequest req s)) := by
  obtain ⟨waiting, -⟩ := lineRequest_spec asked
  refine exec_of_effect ((serve_some waiting).trans ?_)
  simp only [fixKey, slot, keyDoor_busy asked pending]

theorem eraseKey_busy {i : Station} {req : Request} {s : State} {k : Fin 12} (asked : lineRequest .keys .eraseKey i req s)
    (slot : parseSlotOnly req.body = some k) (pending : (slotAt k s).pending = true) :
    exec (.eraseKey (.station i)) s = .next (refuse req .busy (withoutRequest req s)) := by
  obtain ⟨waiting, -⟩ := lineRequest_spec asked
  refine exec_of_effect ((serve_some waiting).trans ?_)
  simp only [eraseKey, slot, keyDoor_busy asked pending]

theorem releaseKey_state {req : Request} {s : State} {k : Fin 12} (waiting : waitingRequest .releaseKey .system s = some req)
    (slot : parseSlotOnly req.body = some k) (closed : s.srb.stage.stage = .closed)
    (noReopen : s.srb.stage.program ≠ .reopening)
    (kept : ∀ key : Key, (slotAt k s).state = .fixed key → key.cls = .service ∨ key.cls = .pairing) :
    exec (.releaseKey .system) s = .next (refuse req .refusedState (withoutRequest req s)) := by
  refine exec_of_effect ((serve_some waiting).trans ?_)
  simp only [releaseKey, SystemSide.system_asked waiting, slot, closedStage_admits closed noReopen, slotAt_withoutRequest]
  cases state : (slotAt k s).state with
  | empty | loaded _ => rfl
  | fixed key =>
    have notReleased : releasable key.cls = false := by rcases kept key state with same | same <;> rw [same] <;> rfl
    simp only [notReleased]
    rfl

/-- Settles O60. -/
theorem objectsRefuseByTheirState : Obligations.ObjectsRefuseByTheirState := by
  refine ⟨fun s i req => ⟨openCapture_locked, putRow_state, discardCapture_locked, submitJob_noBox,
      fun b named => ⟨ownBoxRequests_refused named, fun x held owner =>
        ⟨fun asked => holdBox_state asked named held owner, fun asked => cancelJob_ended asked named held owner,
          fun asked => freeBox_notEnded asked named held owner⟩, fun asked => releaseBox_lost asked named⟩,
      fun b bytes => editBox_lost⟩,
    fun s i req k => ⟨loadKey_state, fun asked slot => ⟨fixKey_busy asked slot, fun quiet => ?_⟩,
      fun asked slot => ⟨eraseKey_busy asked slot, fun quiet => ?_⟩, releaseKey_state⟩,
    fun s m req => ⟨fun c waiting origin stage carried held =>
        ((writeRegion_judged ⟨waiting, origin, stage, carried⟩).2 held).1,
      fun c waiting origin stage carried held => ((writeLabel_judged ⟨waiting, origin, stage, carried⟩).2 held).1⟩,
    fun s i req role empty => ⟨fun waiting stage busy => ?_, fun waiting closed inFlight => ?_⟩⟩
  · obtain ⟨unloaded, loaded⟩ := fixKey_judged asked slot quiet
    exact ⟨unloaded, fun key state => (loaded key state).1⟩
  · obtain ⟨empty, loaded, -⟩ := eraseKey_judged asked slot quiet
    exact ⟨empty, fun key state => (loaded key state).1⟩
  · refine (closeSet_judged waiting role empty stage).trans (congrArg _ ?_)
    by_cases inFlight : s.srb.stage.program ≠ .none
    · exact if_pos inFlight
    · rw [if_neg inFlight]
      exact if_pos ((mapBusy_iff (withoutRequest req s)).2 (busy.resolve_left inFlight))
  · exact (reopenSet_judged waiting role empty closed).trans (congrArg _ (if_pos inFlight))

end Sys2Proof.Proofs.ObjectStates
end
